-- ==== Sys2Proof/Word.lean ====
section
/-! DEFINITION. The word types of the block's records and registers. -/

namespace Sys2Proof

/-- A data word: block SRAM, buses and records carry 64-bit words (00_scope.md). -/
abbrev Word := BitVec 64

/-- A register of the window: 4 bytes (R336). -/
abbrev W32 := BitVec 32

/-- The smallest unit of the global address space (R252). -/
abbrev Byte := BitVec 8

end Sys2Proof
end

