-- ==== Sys2Proof/Syntax.lean ====
section
/-! DEFINITION. The commands of the block: one constructor for each row of spec/opcode_table.json, with its operands. -/

namespace Sys2Proof

/-- The origin with which the host bridge marks a register access (R413). -/
inductive Origin where
  | host | mgmt
  deriving DecidableEq, Repr

/-- A 32-byte record as it crosses a port: four data words. -/
structure Rec4 where
  w0 : Word
  w1 : Word
  w2 : Word
  w3 : Word
  deriving DecidableEq, Repr

/-- A 64-byte fabric packet, words FP0 to FP7 (R312). -/
structure Rec8 where
  w0 : Word
  w1 : Word
  w2 : Word
  w3 : Word
  w4 : Word
  w5 : Word
  w6 : Word
  w7 : Word
  deriving DecidableEq, Repr

/-- Who asks for a BLOCK reset: the chip's reset logic, or a write of RST_CTRL (Table 12-4). -/
inductive BlockReq where
  | line
  | write (v : W32)
  deriving DecidableEq, Repr

/-- One record that a FIFO reset discards (R372): what its sideband says. `ctx` is `none` for a record that names
no context, and `sidebandOk` tells whether the sideband passes its own check. -/
structure LostRec where
  sidebandOk : Bool
  ctx : Option Nat
  deriving DecidableEq, Repr

/-- One access seen by a watchpoint's side tap (R401): the source class (bit number of SRC), the byte range and the
context the access acts for. -/
structure Access where
  cls : Nat
  addr : Nat
  len : Nat
  ctx : Option Nat
  deriving DecidableEq, Repr

/-- The commands (opcode_table.json). A word `pick` is the free choice that R38 leaves the block (which free slot a
new instance takes); `src` and `dst` name the two ends of a crossbar path (R55), `eng` a global engine, `o` the origin
of a register access and `v` the value written. -/
inductive Instr where
  -- launches and templates
  | launch (pick : Nat)
  | launchHoldRelease (ctx pick : Nat)
  | buildComplete (ctx tid : Nat)
  | buildAbort (ctx tid : Nat)
  -- hub shards
  | decArrival (src dst pick : Nat)
  | lateArrival (src dst pick : Nat)
  | sproutArrival (src dst pick : Nat)
  | refill (shard pick : Nat) (poison : Bool)
  | readyRingRefill (ctx cls prio : Nat)
  | readyLinkToRing (ctx cls prio : Nat)
  | tokenIntake (eng : Nat) (r : Rec4)
  | walkIssue (shard slot : Nat)
  -- dispatch
  | dispatchCycle
  | descriptorLand (eng : Nat)
  | consumerIndexReport (eng ci : Nat)
  | ackYield (eng : Nat) (handle : W32)
  | nack (eng : Nat) (handle : W32)
  | cpAck (core : Nat)
  | preemptTimeout (eng : Nat)
  | cpIrqTimeout (core : Nat)
  | steepRequest (core gran : Nat)
  | steepWriteAck (shard slot : Nat)
  | stnCtrlEnableWrite (o : Origin) (v : W32)
  | stationDrainComplete (core : Nat)
  | stnCtxmWrite (o : Origin) (hi : Bool) (v : W32)
  | ctxMaskApply (core : Nat)
  | shdCtrlEnableWrite (o : Origin) (v : W32)
  | shardDrainComplete (shard : Nat)
  -- sprouting
  | sproutRecordIntake (eng : Nat) (r : Rec4)
  | sproutExpansionEntry (shard : Nat)
  | sproutIssue (shard : Nat)
  -- ordered fold
  | foldContribution (src unit : Nat)
  | foldSeal (src unit : Nat)
  | foldWaitAdmit (unit : Nat) (poison : Bool)
  | combineRequestIssue (unit eng k : Nat)
  | combineAck (eng : Nat) (r : Rec4)
  -- front end
  | ringDb (ring : Nat) (v : W32)
  | ringFetch (ring : Nat)
  | cbStart (ring : Nat)
  | opNop
  | opWait
  | opSignal
  | opRecord
  | opBarrier
  | opCopy
  | opWrite
  | opHash
  | opTest
  | opLoop
  | loopIteration (ring idx : Nat)
  | opBreak
  | opCall
  | opLoad
  | opPatchStructural
  | opPatchParam
  | opUnload
  | reservedOpcode
  | operationReadError
  | dmaComplete (id : Nat) (err : Bool) (hash : Rec4)
  | launchComplete (ctx serial : Nat)
  | launchCancelComplete (ctx serial : Nat)
  | cbComplete (ring idx : Nat)
  | msixHoldoffExpiry (ring : Nat)
  | cbTimeout (ring idx : Nat)
  | wtimeExpiry (ring idx pos : Nat)
  | feCancelLaunch (v : W32)
  | feCancelEntry (v : W32)
  | feCancelRing (v : W32)
  | ringCtrlEnableWrite (ring : Nat) (v : W32)
  | ringDrainComplete (ring : Nat)
  -- contexts and the deadline monitor
  | ctxCtrlEnableWrite (o : Origin) (v : W32)
  | ctxPauseWrite (o : Origin) (v : W32)
  | ctxSave (o : Origin) (v : W32)
  | ctxQuiescent (ctx : Nat)
  | ctxSaveDone (ctx : Nat)
  | ctxRestore (o : Origin) (v : W32)
  | ctxRestoreDone (ctx : Nat)
  | ctxReset (o : Origin) (v : W32)
  | ctxInit (o : Origin) (v : W32)
  | ctxDrainComplete (ctx : Nat)
  | ctxResetComplete (ctx : Nat)
  | checkpointEval
  | dlmFallbackStart (ctx serial pick : Nat)
  -- synchronisation
  | synCreate (v : W32)
  | synDestroy (v : W32)
  | synReinit (v : W32)
  | engineSignal (src : Nat) (r : Rec4)
  | engineWait (src : Nat) (r : Rec4)
  | arrive (src : Nat) (r : Rec4)
  | syncRequestBad (src : Nat) (r : Rec4)
  | signalNotice (chip src : Nat) (r : Rec4)
  | barCtrlEnableWrite (o : Origin) (v : W32)
  | barrierDrainComplete (unit : Nat)
  | grpCtrlEnableWrite (o : Origin) (v : W32)
  | groupDrainComplete (grp : Nat)
  | barArrive (p : Rec8)
  | barRelease (p : Rec8)
  | deadlockDeclare (grp : Nat)
  -- message channels
  | sendRequest (src : Nat) (r : Rec4)
  | sendAccept (route : Nat)
  | payloadReadComplete (msg : Nat)
  | messageLand (landing : Nat)
  | consumeRequest (src : Nat) (w0 w1 : Word)
  | headRead (core head reader : Nat)
  | headReadTimeout (core head : Nat)
  | qCtrlEnableWrite (o : Origin) (v : W32)
  | qClose (o : Origin) (v : W32)
  | landingDrainComplete (q : Nat)
  | landingCloseComplete (q : Nat)
  | discardSinkDone (msg landing : Nat)
  | routeCloseComplete (q : Nat)
  | landingFault (msg landing : Nat) (denied : Bool)
  -- timebase, frames and fabric
  | timeExchangeStart
  | timeReq (p : Rec8)
  | timeRsp (p : Rec8)
  | frameTick
  | arriveStart (v : W32)
  | startArrive (p : Rec8)
  | startGo (p : Rec8)
  | remoteDecRequest (eng : Nat) (r : Rec4)
  | fabDec (p : Rec8)
  | orphanTimeout (chip pseq : Nat)
  | fabSig (p : Rec8)
  | fabAck (p : Rec8)
  | gapTimeout (chip : Nat)
  | fabStop (p : Rec8)
  -- clocks, resets and bring-up
  | thrReq (code : Nat)
  | thrReqRelease
  | coldReset
  | blockReset (req : BlockReq)
  | engineReset (v : W32)
  | fifoReset (fifo : Nat) (recs : List LostRec)
  | selfInitDone (bistUnit : Nat)
  | initDone (v : W32)
  | gblEnable (v : W32)
  | hostBad (o : Origin) (addr size : Nat) (read : Bool)
  | stopLine
  -- faults and dump
  | scrub (unit array word flips : Nat)
  | errPop (v : W32)
  | errHoldoffExpiry
  | dumpGo (v : W32)
  | dumpComplete
  -- observation
  | obsSnap (v : W32)
  | obsFrz (v : W32)
  | counterWrap (unit k n : Nat)
  | sampleWindow
  | traceSend
  | trcMark (v : W32)
  | watch (n : Nat) (a : Access)
  | stopGo (v : W32)
  | stopCut
  | hangGo (v : W32)
  | hangDone
  -- register window, interrupts and tests
  | winSel (o : Origin) (v : W32)
  | irqEn (v : W32)
  | tstInj (v : W32)
  | injectionApply
  | rcRead (o : Origin) (addr size : Nat)
  | registerWrite (o : Origin) (addr size : Nat) (v : Word)
  | engineResetComplete
  | sampleWriteComplete
  deriving DecidableEq, Repr

end Sys2Proof
end

