-- ==== Sys2Proof/Config.lean ====
section
/-! DEFINITION. Constants that the part fixes for both variants, and the free values: what the spec leaves open. -/

namespace Sys2Proof.Config

/-- The filter over the last 16 time exchanges (R301 states that the child filters o, not how): FREE VALUE, log
entry 6. Applied to the offsets of the exchanges, newest first. -/
opaque offsetFilter : List Int → Int

/-- Whether a slewing step of 1 ns is taken in a span of 1,024 ns (R303 bounds the rate and names no moment): FREE
VALUE, log entry 6. -/
opaque slewNow : Nat → Bool

/-- The number of hub cycles that a perturbed event is delayed, drawn from the generator's state (R408 gives the
range 0 to MAXD and the generator, not the mapping): FREE VALUE, log entry 6. -/
opaque pertDraw : Nat → Nat → Nat

/-- The array and word index that an injected error of kind SINGLE, DOUBLE or TRIPLE hits (R424: the block is free to
choose): FREE VALUE, log entry 6. -/
opaque injectedWord : Nat → BitVec 64

/-- The contents of a word or field of a record that the spec leaves open: FREE VALUE, log entry 6, which lists them. -/
opaque openWord : Nat → BitVec 64

/-- What a counter of `w` bits holds once a count passes its largest value, where its field map states neither wrapping
nor saturation: FREE VALUE, log entry 6. Applied to the width and the sum. -/
opaque countPast : Nat → Nat → Nat

/-- Whether a destination port of the crossbar is busy for an arrival that waits for it in a hub cycle (the spec fixes no
occupancy of the port): FREE VALUE, log entry 6. Applied to the hub cycle and the source shard. -/
opaque portBusy : Nat → Nat → Bool

/-- The value of the event LANES in a hub cycle (Table 14-1 names it and nothing states what it presents): FREE VALUE, log
entry 6. -/
opaque lanes : Nat → Nat

/-- How many units wait for memory request credit in a hub cycle (the event CREDIT_STALL of Table 14-1; credits are the port's): FREE
VALUE, log entry 6. -/
opaque creditStalls : Nat → Nat

/-- Where a word of the SRAM (unit, array, word) stands in the dump area, in words of 8 bytes: FREE VALUE, log entry 106. -/
opaque dumpPlace : Nat → Nat → Nat → List Nat

end Sys2Proof.Config
end

