-- ==== Sys2Proof/Machine/State.lean ====
section
/-! DEFINITION. The state of the block as plain data: every register, table, FIFO, counter, mode and pin that spec/ gives it,
and the queue of commands that wait. -/

namespace Sys2Proof.Machine

/-! ## Tables -/

/-- A sparse table: what is not listed holds the table's default. -/
abbrev Tab (κ α : Type) := List (κ × α)

/-- The value listed under a key, or the default `d`. -/
def Tab.get {κ α : Type} [DecidableEq κ] (d : α) : Tab κ α → κ → α
  | [], _ => d
  | (k, v) :: t, j => if k = j then v else Tab.get d t j

/-- The table with `v` under the key `j`. -/
def Tab.put {κ α : Type} [DecidableEq κ] : Tab κ α → κ → α → Tab κ α
  | [], j, v => [(j, v)]
  | (k, w) :: t, j, v => if k = j then (j, v) :: t else (k, w) :: Tab.put t j v

/-! ## Registers -/

/-- G4 or G4E (R412, R7). -/
inductive Variant where
  | g4 | g4e
  deriving DecidableEq, Repr

/-- The place of a register: window type (0 for the flat regions), instance index, offset (R410, R415). -/
structure RegKey where
  ty : Nat
  idx : Nat
  off : Nat
  deriving DecidableEq, Repr

/-- One origin's selector state (R413): WIN_SEL, the low-half latch with the address whose high half it holds, and
the inner selectors of Table 15-6. -/
structure Selector where
  winSel : W32
  latch : Option (RegKey × W32)
  slotSel : Nat
  engSel : Nat
  fldwSel : W32
  wtrSel : Nat
  deriving DecidableEq, Repr

/-- GBL_STAT PHASE (R354). -/
inductive Phase where
  | boot | setup | ready | run
  deriving DecidableEq, Repr

/-- The units that carry ENABLE, ENABLED, DRAINING and ENABLE_PENDING (Table 12-9). -/
inductive UnitId where
  | ctx (n : Nat) | ring (n : Nat) | station (n : Nat) | shard (n : Nat)
  | queue (n : Nat) | bar (n : Nat) | grp (n : Nat)
  deriving DecidableEq, Repr

structure UnitEn where
  enable : Bool
  enabled : Bool
  draining : Bool
  pending : Bool
  deriving DecidableEq, Repr

/-! ## Templates and launches -/

inductive VState where
  | free | building | current | retiring
  deriving DecidableEq, Repr

/-- A version slot (Table 01-8): `image` is the version's bytes as 64-bit words, `pages` its page numbers (pages that
versions share have one number), `breach` marks a version that a patch entry made break R14 (R176). -/
structure VSlot where
  state : VState
  launches : Nat
  version : Nat
  image : List Word
  pages : List Nat
  breach : Bool
  deriving DecidableEq, Repr

/-- A build in progress: its slot, the operation that asked for it, and the end it comes to when it is aborted. -/
structure Build where
  slot : Nat
  ring : Nat
  idx : Nat
  pos : Nat
  ctx : Nat
  abort : Option (Nat × Nat)
  deriving DecidableEq, Repr

structure Template where
  slots : List VSlot
  lastVersion : Nat
  defaults : List Word
  build : Option Build
  busyCount : Nat
  deriving DecidableEq, Repr

/-- What an audited LAUNCH leaves for its audit record (R183, R151). -/
structure Audit where
  pos : Nat
  desc : List Word
  idWord : Word
  pmask : Nat
  params : List Word
  deriving DecidableEq, Repr

/-- A launch in flight: the launch record of Table 01-6, the LAUNCH operation it belongs to (`op`: ring, entry index,
position), and its marks. `cause` is the first CAUSE code (R172); `started` is false for a fall-back whose roots wait
for the drain of the primary (R211); `dlk` is set when FE_CANCEL with CAUSE 1 cancelled it (R186); `roots` is the number of dispatchable roots whose descriptor has not landed (R174);
`pinned` is false once a switched primary has released its pin. -/
structure Launch where
  ctx : Nat
  serial : Nat
  template : Nat
  version : Nat
  vslot : Nat
  prio : Nat
  framed : Bool
  ordered : Bool
  pinStamp : Nat
  startFrame : Nat
  outstanding : Nat
  params : List Word
  op : Option (Nat × Nat × Nat)
  audit : Bool
  serve : Bool
  resident : Bool
  residentDone : Bool
  exitObj : Nat
  roots : Nat
  rootKeys : List (Nat × Nat)
  cancelled : Bool
  failed : Bool
  cause : Nat
  dlk : Bool
  overrun : Bool
  started : Bool
  pinned : Bool
  fbOf : Option Nat
  deriving DecidableEq, Repr

/-- A LAUNCH operation that R28 holds: the operation and its fields. -/
structure HeldLaunch where
  ctx : Nat
  ring : Nat
  idx : Nat
  pos : Nat
  m : Rec4
  deriving DecidableEq, Repr

/-! ## Hub shards -/

inductive SlotState where
  | free | waiting | ready | running | walking
  deriving DecidableEq, Repr

/-- A task slot (Table 02-1), with the sprout parameter pointer kept beside it (R115; `sprSet` once a sprout arrival
has given it), the reserved mark of R61, the hub cycle of the stamp (R76), the partial pointer of its token (R125),
and whether its walk issues nothing (R88 FAULTED). -/
structure Slot where
  gen : Nat
  state : SlotState
  ctx : Nat
  vslot : Nat
  prio : Nat
  cls : Nat
  counter : Nat
  ordinal : Word
  node : Nat
  engine : Nat
  readyStamp : Nat
  sprPtr : Nat
  sprSet : Bool
  reserved : Bool
  readyHc : Nat
  partialPtr : Nat
  silent : Bool
  deriving DecidableEq, Repr

inductive ArrKind where
  | dec | late | sprout | root
  deriving DecidableEq, Repr

/-- An arrival (Table 02-4): `srec` is the sprout record that R109 keeps in OUTSTANDING until this arrival is settled. -/
structure Arrival where
  kind : ArrKind
  ctx : Nat
  node : Nat
  ordinal : Word
  vslot : Nat
  amount : Nat
  ptr : Nat
  srcShard : Nat
  srec : Option Nat
  deriving DecidableEq, Repr

/-- An arrival in flight: sources 0 to 15 are shards, 16 to 19 fold units, 20 the fabric port, whose items keep their packet
(R405). -/
structure XItem where
  src : Nat
  dst : Nat
  arr : Arrival
  pkt : Option Rec8
  deriving DecidableEq, Repr

/-- A sprout record (Table 04-1): kind 0 SPROUT, 1 LATE, 2 ONE. `rid` names it in the OUTSTANDING account, `rule` is the
ORD_RULE of its node as read at its intake. -/
structure SprRec where
  rid : Nat
  producer : Nat
  ctx : Nat
  kind : Nat
  vslot : Nat
  node : Nat
  baseOrd : Word
  pstride : Nat
  ptr : Nat
  count : Nat
  amount : Nat
  next : Nat
  rule : Nat
  deriving DecidableEq, Repr

inductive ParkedItem where
  | edge (a : Arrival)
  | spr (r : SprRec)
  deriving DecidableEq, Repr

/-- A parked item with its bucket key (context, destination shard, sample tree) and its part of the bucket (R57, R58). -/
structure Parked where
  ctx : Nat
  shard : Nat
  tree : Nat
  inCellar : Bool
  item : ParkedItem
  deriving DecidableEq, Repr

/-- A pool block of a cellar bucket (R59): its page, the first position not yet read, and the positions used. -/
structure CelBlock where
  page : Nat
  start : Nat
  used : Nat
  deriving DecidableEq, Repr

/-- The pool blocks of one cellar bucket (R59), first block first. -/
structure CelBucket where
  blocks : List CelBlock
  deriving DecidableEq, Repr

inductive Place where
  | directory | ring | linked
  deriving DecidableEq, Repr

/-- A ready entry (Table 03-1) of the list of its context, class and priority, and where it is held (R66, R74): `pos` is its
position in its ready ring (R59) while it is held there, `hc` the hub cycle from which R76 counts. -/
structure ReadyEntry where
  ctx : Nat
  cls : Nat
  prio : Nat
  stamp : Nat
  shard : Nat
  slot : Nat
  gen : Nat
  resume : Bool
  resumeEng : Nat
  place : Place
  hc : Nat
  pos : Nat
  deriving DecidableEq, Repr

/-- A remote-decrement request held at its producer's shard (R314). -/
structure RemDec where
  shard : Nat
  producer : Nat
  ctx : Nat
  kind : Nat
  node : Nat
  ordinal : Word
  chip : Nat
  amount : Nat
  eng : Nat
  deriving DecidableEq, Repr

/-- The hub. `sprKept` holds the accepted records at their producers' shards until the walk forwards them (R110, R263),
`sprHeld` those on their way to their home shard, `sprQueue` those in an expansion queue, each under its home shard. -/
structure Hub where
  slots : Tab (Nat × Nat) Slot
  xbar : List XItem
  parked : List Parked
  cellar : Tab (Nat × Nat × Nat) CelBucket
  refillRR : Tab Nat Nat
  ready : List ReadyEntry
  sprKept : List (Nat × SprRec)
  sprHeld : List (Nat × SprRec)
  sprQueue : List (Nat × SprRec)
  sprRR : Tab Nat Nat
  sprLeft : Tab Nat Nat
  nextRid : Nat
  remHeld : List RemDec
  deriving DecidableEq, Repr

/-! ## Dispatch -/

/-- A dispatch descriptor written for a grant and not yet acknowledged (R84). -/
structure Landing where
  shard : Nat
  slot : Nat
  gen : Nat
  words : Rec8
  deriving DecidableEq, Repr

structure Eng where
  pi : Nat
  ci : Nat
  landing : List Landing
  deriving DecidableEq, Repr

/-- A pre-emption or core-interrupt stage for the express entry with this handle (R90, R92): `victim` in the first
stage, `core` in the second, with the engines it reserves. -/
structure PreStage where
  shard : Nat
  slot : Nat
  gen : Nat
  ctx : Nat
  cls : Nat
  victim : Option Nat
  core : Option Nat
  reserved : List Nat
  start : Nat
  answered : Bool
  acked : Bool
  deriving DecidableEq, Repr

/-- A steep request on its way to the station of its steep core (R95, R96). -/
structure SteepReq where
  shard : Nat
  slot : Nat
  gen : Nat
  core : Nat
  deriving DecidableEq, Repr

/-- Staging held or in flight (R97 to R100): first granule and number of granules, the mask of the staged regions, whether the
last staged write has been acknowledged, how a grant used it (`some true`: STEEPED 1), and the address and length of each
region staged. -/
structure Steep where
  shard : Nat
  slot : Nat
  gen : Nat
  ctx : Nat
  core : Nat
  gran : Nat
  count : Nat
  mask : Nat
  acked : Bool
  granted : Option Bool
  gone : Bool
  regions : List (Nat × Nat)
  deriving DecidableEq, Repr

structure Disp where
  classPtr : Nat
  rr : Tab (Nat × Nat) Nat
  scanPtr : Tab Nat Nat
  lastRun : Tab Nat (Nat × Nat × Nat × Nat)
  engines : Tab Nat Eng
  outOfReset : List Nat
  pre : List PreStage
  preDone : List (Nat × Nat × Nat)
  steepReqs : List SteepReq
  steeps : List Steep
  masks : Tab Nat Nat
  switching : List Nat
  steepHc : Tab Nat Nat
  deriving DecidableEq, Repr

/-! ## Ordered fold -/

/-- A fold descriptor (Table 05-1). -/
structure FoldDesc where
  sealNode : Nat
  doneNode : Nat
  doneEn : Bool
  keyHi : Nat
  keyLo : Nat
  elem : Nat
  op : Nat
  emptyFill : Bool
  dstSrc : Nat
  keyMin : Nat
  keyMax : Nat
  window : Nat
  idxHi : Nat
  idxLo : Nat
  idxEn : Bool
  dstOffset : Nat
  length : Nat
  dstStride : Nat
  deriving DecidableEq, Repr

/-- A fold routing item (Table 05-2) with the shard that issued it and, while it waits, its position in its context's wait
area. -/
structure FoldItem where
  srcShard : Nat
  node : Nat
  desc : Nat
  ctx : Nat
  vslot : Nat
  ordinal : Word
  ptr : Nat
  stamp : Nat
  pos : Nat
  deriving DecidableEq, Repr

inductive GState where
  | opened | isSealed | finishing
  deriving DecidableEq, Repr

/-- A decided leaf: its key, and the partial address with its slot, or `none` when it is EMPTY. -/
structure Leaf where
  key : Nat
  val : Option (Nat × Nat)
  deriving DecidableEq, Repr

/-- A combine request (Table 05-3) of node `(level, prefix)` of a group, or of its finish (`fin`): operands, the slots
of A and of B, and the CMB engine it was sent to once issued. -/
structure FReq where
  grp : Nat
  fin : Bool
  level : Nat
  pfx : Nat
  opc : Nat
  a : Nat
  b : Nat
  slotA : Nat
  slotB : Nat
  eng : Option Nat
  deriving DecidableEq, Repr

/-- An open fold group (Table 05-9) with the copy of its descriptor (R123): decided leaves (a slot number of 16,384 or
more: the slot has been freed), inner nodes whose combine has been acknowledged (level, prefix), and the running value and waiting
leaves of arrival mode (R136). `dead` marks a cancelled group (R144), `released` one that holds no slot's reservation. -/
structure FGroup where
  gid : Nat
  serial : Nat
  desc : Nat
  ctx : Nat
  vslot : Nat
  state : GState
  arrival : Bool
  reserve : Bool
  sealOrd : Word
  accepted : Nat
  openStamp : Nat
  d : FoldDesc
  leaves : List Leaf
  combined : List (Nat × Nat)
  running : Option (Nat × Nat)
  queue : List (Nat × Nat)
  dead : Bool
  released : Bool
  deriving DecidableEq, Repr

structure FoldUnit where
  routing : List FoldItem
  waiting : List FoldItem
  groups : List FGroup
  reqs : List FReq
  waitRR : Nat
  deriving DecidableEq, Repr

/-! ## Front end -/

inductive CbState where
  | fetched | running | finished
  deriving DecidableEq, Repr

/-- The event that set a command buffer's status, with its hub cycle and its rank: 2 a cancellation, 1 a timeout, 0 an
operation's status (R178). -/
structure Term where
  status : Nat
  cause : Nat
  cls : Nat
  opIndex : Nat
  hc : Nat
  rank : Nat
  deriving DecidableEq, Repr

/-- A running part of the execution sequence (R165, R166): the top buffer, a CALL or a LOOP body. `base` is the address
of its first operation, `pos` the position of its LOOP or CALL (`none` at the top). -/
structure Frame where
  base : Nat
  len : Nat
  pc : Nat
  isLoop : Bool
  count : Nat
  iter : Nat
  evClr : Nat
  pos : Option Nat
  deriving DecidableEq, Repr

/-- A started operation: its words, its status once completed, the LOOP and CALL operations that enclose it with their
iteration, and what it waits for. -/
structure OpInst where
  pos : Nat
  m : Rec4
  status : Option Nat
  encl : List (Nat × Nat)
  stamp : Nat
  launch : Option Nat
  dma : Option Nat
  issued : Bool
  lastIter : Nat
  waitFor : Option Nat
  held : Bool
  deriving DecidableEq, Repr

/-- A fetched ring entry (Table 06-1) and its command buffer's execution (R162 to R179). `hashes` holds position, length and
hash of each HASH result; `timed` is set once the timeout has acted, `cancel` when FE_CANCEL or a context reset acted before
any timeout. -/
structure Cb where
  ring : Nat
  idx : Nat
  csn : Nat
  ptr : Nat
  ops : Nat
  ctx : Nat
  irq : Bool
  order : Bool
  vector : Nat
  timeout : Nat
  audPtr : Nat
  userTag : Word
  fetchStamp : Nat
  state : CbState
  startStamp : Nat
  begun : Bool
  term : Option Term
  events : Nat
  flag : Bool
  frames : List Frame
  insts : List OpInst
  nextPos : Nat
  hashes : List (Nat × Nat × Rec4)
  audits : List Audit
  fallback : Bool
  overrun : Bool
  timed : Bool
  cancel : Bool
  deriving DecidableEq, Repr

/-- One ring's indices (R154 to R159), the CSNs whose records are written and not yet covered, the requests that wait
for the CSN word, and the holdoff of R184. -/
structure Ring where
  db : Nat
  fetch : Nat
  doneIdx : Nat
  csnNext : Nat
  done : Nat
  fresh : Bool
  recorded : List Nat
  owed : List (Nat × Nat)
  holdoff : Option Nat
  merged : Option Nat
  deriving DecidableEq, Repr

/-- A DMA command outstanding (R170). -/
structure Dma where
  id : Nat
  ring : Nat
  idx : Nat
  pos : Nat
  ctx : Nat
  kind : Nat
  src : Nat
  dst : Nat
  len : Nat
  imm : Word
  deriving DecidableEq, Repr

/-! ## Contexts and the deadline monitor -/

inductive CtxState where
  | disabled | enabled | paused | saving | saved | restoring | resetting
  deriving DecidableEq, Repr

inductive DlmState where
  | tracking | switching | fallback
  deriving DecidableEq, Repr

/-- A deadline-monitor entry that is not FREE (Table 07-8). `drained` once step 3 of R211 has released the primary's
pin, `pinFail` the status of a fall-back pin that failed, `dead` once a cancellation has come first (R212). -/
structure DlmEntry where
  serial : Nat
  fb : Nat
  state : DlmState
  ctx : Nat
  fbSerial : Nat
  deadline : Nat
  switchStamp : Nat
  projection : Nat
  pinFail : Option Nat
  drained : Bool
  dead : Bool
  deriving DecidableEq, Repr

/-- A completion of a CKPT instance that the monitor has still to evaluate (R210), with the hub clock at its stamp. -/
structure Ckpt where
  ctx : Nat
  serial : Nat
  node : Nat
  t : Nat
  src : Nat
  fmhz : Nat
  deriving DecidableEq, Repr

/-! ## Synchronisation -/

/-- A physical object that is not FREE (Table 08-1). -/
structure Obj where
  token : Bool
  abandoned : Bool
  ctx : Nat
  virt : Nat
  value : Nat
  lastChip : Nat
  lastSrc : Nat
  lastScope : Nat
  lastAdd : Bool
  signalled : Bool
  lastStamp : Nat
  deriving DecidableEq, Repr

/-- A waiter-pool entry (Table 08-5): a front-end WAIT (ring, entry index, position) or an engine WAIT (`handle`). -/
structure Waiter where
  isEng : Bool
  prio : Nat
  scope : Nat
  phys : Nat
  src : Nat
  threshold : Nat
  stamp : Nat
  ring : Nat
  idx : Nat
  pos : Nat
  handle : Nat
  ctx : Nat
  deriving DecidableEq, Repr

/-- A WAIT that has started and is held unstamped, because the pool is full (R228). -/
structure HeldWait where
  ring : Nat
  idx : Nat
  pos : Nat
  deriving DecidableEq, Repr

/-- An entry of the pending-signal table (R224): `seen` notices of `frag`, the announcement packet once it has arrived
(R318), and whether the signal has been applied, to an object or to none (`lost`, R324). -/
structure PendSig where
  chip : Nat
  src : Nat
  tag : Nat
  frag : Nat
  obj : Nat
  ctx : Nat
  value : Word
  scope : Nat
  add : Bool
  seen : Nat
  ann : Option Rec8
  applied : Bool
  lost : Bool
  deriving DecidableEq, Repr

/-- A signal to be applied (R216, R217, R227). -/
structure Sig where
  chip : Nat
  src : Nat
  ctx : Nat
  virt : Nat
  value : Nat
  add : Bool
  scope : Nat
  deriving DecidableEq, Repr

/-- One generation that a barrier unit counts (R238): cores with the requester to answer and its handle, and front-end
operations (ring, entry index, position). -/
structure BarGen where
  cores : List (Nat × Nat × Nat)
  fes : List (Nat × Nat × Nat)
  deriving DecidableEq, Repr

/-- A barrier unit (R238 to R243): `waiting` holds BARRIER operations that found both generations full, `sent` is set once
the open generation's arrive packet is on its way to the root. -/
structure Bar where
  gen : Nat
  cur : BarGen
  next : BarGen
  waiting : List (Nat × Nat × Nat)
  abandoned : Bool
  rel : Nat
  sent : Bool
  deriving DecidableEq, Repr

/-- A fabric barrier group (R243): at the root, the member chips counted per generation; the release held for its
apply frame (generation, frame). -/
structure Grp where
  arrived : List (Nat × Nat)
  release : Option (Nat × Nat)
  deriving DecidableEq, Repr

structure Sync where
  objs : Tab Nat (Option Obj)
  waiters : List Waiter
  heldWaits : List HeldWait
  pend : List PendSig
  bars : Tab Nat Bar
  grps : Tab Nat Grp
  dldTicks : Tab Nat Nat
  cmdStatus : Nat
  cmdBusy : Bool
  deriving DecidableEq, Repr

/-! ## Message channels -/

inductive QKind where
  | free | route | ring | head | workq | internal
  deriving DecidableEq, Repr

inductive QState where
  | closed | opened | draining | closing
  deriving DecidableEq, Repr

/-- A send held at its route (R276), as its request with the sender's source ID. -/
structure HeldSend where
  src : Nat
  r : Rec4
  deriving DecidableEq, Repr

/-- A queue descriptor (Table 10-7) above the work queues: its kind, owner and state, the landing's counts, the route's
hold queue, and, for a head, the words in the head with the words left of the message being read. -/
structure Queue where
  kind : QKind
  owner : Nat
  state : QState
  cfgStatus : Nat
  epoch : Nat
  seq : Nat
  prod : Nat
  cons : Nat
  landed : Nat
  hold : List HeldSend
  head : List (List Word)
  reading : List Word
  readLen : Nat
  blocked : List (Nat × Nat)
  deriving DecidableEq, Repr

/-- One destination of an accepted message (R280, R281): where it lands, its pad, and whether it goes to the discard
sink (R290). -/
structure MsgDest where
  landing : Nat
  epoch : Nat
  seq : Nat
  offset : Nat
  pad : Nat
  padAt : Nat
  sink : Bool
  done : Bool
  deriving DecidableEq, Repr

/-- An accepted message (R276 to R279) until every destination is settled. -/
structure Msg where
  id : Nat
  route : Nat
  owner : Nat
  src : Nat
  handle : Nat
  handler : Nat
  len : Nat
  ptr : Nat
  arg : Word
  stamp : Nat
  read : Bool
  payload : List Word
  dests : List MsgDest
  deriving DecidableEq, Repr

/-! ## Fabric and time -/

/-- An item sent and not acknowledged (R324). -/
structure Unacked where
  chip : Nat
  pseq : Nat
  ctx : Nat
  deriving DecidableEq, Repr

/-- An orphan DEC packet, the time of its drop (R316), and whether it arrived late (R321). -/
structure Orphan where
  p : Rec8
  due : Nat
  late : Bool
  deriving DecidableEq, Repr

/-- The packets held behind a gap in PSEQ (R323) and when the gap is declared lost. -/
structure Gap where
  chip : Nat
  due : Nat
  held : List Rec8
  deriving DecidableEq, Repr

/-- The fabric port and the time exchange: `lastReq` and `lastRsp` are the times of the last TIME_REQ and TIME_RSP, `asked` the
stamp of the exchange under way, `slew` what is still to be slewed, `slewSpan` the span of 1,024 ns in which the last slewing step
was taken (R301 to R304). -/
structure Fab where
  locked : Bool
  goodRun : Nat
  badRun : Nat
  lastReq : Option Nat
  lastRsp : Nat
  offsets : List Int
  slew : Int
  slewSpan : Nat
  asked : Option Nat
  txSeq : Tab Nat Nat
  rxSeq : Tab Nat Nat
  gaps : List Gap
  hold : List Rec8
  orphans : List Orphan
  unacked : List Unacked
  txWait : List Rec8
  startArrived : Bool
  startDone : Bool
  startCount : List Nat
  startGo : Option Nat
  frame : Nat
  deriving DecidableEq, Repr

/-! ## Faults, observation and tests -/

/-- An event seen by the counters in the present hub cycle (R383): unit, code, context, layer, operator, occurrences. -/
structure PmcEv where
  unit : Nat
  code : Nat
  ctx : Option Nat
  layer : Option Nat
  op : Option Nat
  n : Nat
  deriving DecidableEq, Repr

/-- A counter of 48 bits with OVF, and whether the value exceeded THRESH in the previous hub cycle (Table 14-2). -/
structure Pmc where
  count : Nat
  ovf : Bool
  above : Bool
  deriving DecidableEq, Repr

/-- One internal link at the cut (Table 14-9): items issued, items received, items captured (kind, size, words). -/
structure Link where
  sent : Nat
  recv : Nat
  items : List (Nat × Nat × List Word)
  deriving DecidableEq, Repr

/-- The observation unit. `frzNext` is set when an overflow asks for a freeze in the next hub cycle (R388). -/
structure Obs where
  pmc : Tab (Nat × Nat) Pmc
  snap : Option (Tab (Nat × Nat) Pmc)
  now : List PmcEv
  trace : List Rec4
  traceSeq : Nat
  traceLost : Nat
  budget : Nat
  budgetHc : Nat
  l2Now : Nat
  lane : Nat
  smpNext : Nat
  smpBusy : Bool
  smpLostPrev : Nat
  hangBusy : Bool
  hangDone : Bool
  hangReason : Nat
  links : Tab Nat Link
  pert : Nat
  lt : Tab (Nat × Nat) Nat
  frzNext : Bool
  deriving DecidableEq, Repr

/-- A global unit state that no register bank holds: bring-up, reset, fatal, stop, dump and injection (R351 to R361, R368,
R370, R403, R423). `badWords` are the SRAM words found uncorrectable, as unit, array and index (R370). -/
structure Glb where
  phase : Phase
  siDone : Bool
  bistFail : Bool
  bistUnit : Nat
  initDone : Bool
  enable : Bool
  rstBusy : Bool
  rstEng : Nat
  rstCount : Nat
  fatal : Bool
  fatalCode : Nat
  fatalUnit : Nat
  fatalRec : Option Rec4
  armed : Bool
  stopped : Bool
  stopCause : Nat
  tStop : Nat
  stopCut : Nat
  dumpStart : Nat
  dumpBusy : Bool
  dumpDone : Bool
  dumpError : Bool
  errLog : List Rec4
  errHoldoff : Option Nat
  errMerged : Bool
  inj : Option (Nat × Nat)
  thrReq : Bool
  thrAck : Bool
  badWords : List (Nat × Nat × Nat)
  deriving DecidableEq, Repr

/-- What the block has put on its ports (Table 12-1). -/
inductive Out where
  | lane (requester ty : Nat) (r : Rec4)      -- O-lane record to an engine or control processor
  | msix (vector : Nat)
  | packet (p : Rec8)
  | dma (d : Dma) (partition : Nat)
  | steepRead (core addr len partition : Nat)
  | headWord (core head reader : Nat) (w : Word)
  | readData (o : Origin) (size : Nat) (v : Word)
  | frame (lane : Nat) (bytes : List Byte)
  | thrAck (level : Bool)
  deriving DecidableEq, Repr

/-- A request on the memory port (R344), or on the host bridge (R338): at most 8 sectors of one aligned block of 256 bytes
there, at most 512 bytes naturally aligned here. `unit` is the issuing unit (Table 12-13), `ctx` the context that the request acts
for (R401). -/
structure MemReq where
  host : Bool
  write : Bool
  addr : Nat
  len : Nat
  partition : Nat
  unit : Nat
  tag : Nat
  ctx : Option Nat
  deriving DecidableEq, Repr

/-! ## The present hub cycle -/

/-- What the present hub cycle has done so far, where a rule orders or merges the events of one hub cycle: for each counter
raised in it the value before and the updates alone, and the bits set (R13); the grants made (R82); the vectors requested
(R421); the records entered in the error log (R366) and, by unit, in the trace FIFO (R400); the number of requests issued before
it, and the accesses of other kinds that watchpoints compare (R401). -/
structure Cyc where
  upd : Tab RegKey (Option (W32 × W32))
  sets : Tab RegKey W32
  grants : List (Nat × Nat × Nat)
  vecs : List Nat
  errs : Nat
  trcs : List Nat
  reqBase : Nat
  accs : List Access
  deriving DecidableEq, Repr

/-- A record that waits in an inbound lane of an engine port (R340, R341): its type code and words. -/
structure LaneRec where
  ty : Nat
  r : Rec4
  deriving DecidableEq, Repr

/-! ## Save image -/

/-- What a saved context left in its save area (Table 07-5): the block restores it from there (R205). `physIds` are the physical
IDs that the objects had; `phys` of a saved waiter is the position of its object among them. -/
structure Saved where
  slots : List ((Nat × Nat) × Slot)
  queue : List (Nat × SprRec)
  objs : List Obj
  physIds : List Nat
  waiters : List Waiter
  groups : List (Nat × FGroup)
  deriving DecidableEq, Repr

/-- A context: `saveStamp` is the stamp of its SAVE (Table 07-5), `quiet` says that its save writes have begun. -/
structure Ctx where
  state : CtxState
  refused : Bool
  pause : Bool
  saved : Option Saved
  quiet : Bool
  saveStamp : Nat
  deriving DecidableEq, Repr

/-! ## The whole state -/

@[ext]
structure State where
  pending : List Instr
  variant : Variant
  hc : Nat
  tb : Nat
  tbPhase : Nat
  fmhz : Nat
  free : Nat
  regs : Tab RegKey W32
  selHost : Selector
  selMgmt : Selector
  glb : Glb
  en : Tab UnitId UnitEn
  ctxs : Tab Nat Ctx
  templates : Tab (Nat × Nat) Template
  launches : List Launch
  heldLaunches : List HeldLaunch
  hub : Hub
  disp : Disp
  fold : Tab Nat FoldUnit
  rings : Tab Nat Ring
  cbs : List Cb
  dmas : List Dma
  dlm : List DlmEntry
  ckpts : List Ckpt
  sync : Sync
  queues : Tab Nat Queue
  msgs : List Msg
  fab : Fab
  obs : Obs
  mem : List Host.Cell
  poison : List Nat
  refuse : List Nat
  nextId : Nat
  lanes : Tab (Nat × Nat) (List LaneRec)
  cyc : Cyc
  reqs : List MemReq
  out : List Out
  deriving DecidableEq, Repr

/-- Why a step stops with a fault: no command of this block does. Every error of the spec is a report that the block
makes and a state that it reaches (R362), also BLOCK_FATAL (R368) and the cut of a global stop (R406). -/
inductive Fault where
  /-- Never raised. Safe: a step that raised it would only stop. -/
  | none
  deriving DecidableEq, Repr

/-- Why a command is refused. -/
inductive Refusal where
  /-- Raised by an arm of `exec` that has no meaning yet, with the row's mnemonic. Safe: it only stops. -/
  | notModelled (mnemonic : String)
  /-- Raised by DEC on a packet whose KIND is reserved: Table 11-3 gives it no effect. Safe: it only stops. -/
  | reservedForm
  deriving DecidableEq, Repr

/-! ## Reset -/

/-- Selector state after a COLD or BLOCK reset (R416). -/
def Selector.zero : Selector := ⟨0, none, 0, 0, 0, 0⟩

def Hub.empty : Hub := ⟨[], [], [], [], [], [], [], [], [], [], [], 0, []⟩

def Cyc.empty : Cyc := ⟨[], [], [], [], 0, [], 0, []⟩

def Disp.empty : Disp := ⟨0, [], [], [], [], [], [], [], [], [], [], [], []⟩

def Sync.empty : Sync := ⟨[], [], [], [], [], [], [], 0, false⟩

def Fab.zero : Fab := ⟨false, 0, 0, none, 0, [], 0, 0, none, [], [], [], [], [], [], [], false, false, [], none, 0⟩

/-- The observation unit after reset; the L1 budget starts full (DESIGN CHOICE, log entry 7). -/
def Obs.zero : Obs := ⟨[], none, [], [], 0, 0, 64, 0, 0, 0, 0, false, 0, false, false, 0, [], 1, [], false⟩

def Glb.zero : Glb :=
  ⟨.boot, false, false, 0, false, false, false, 0, 0, false, 0, 0, none, false, false, 0, 0, 0, 0, false, false, false, [],
   none, false, none, false, false, []⟩

/-- The machine right after release of the COLD reset (R351, R354): BOOT, timebase 0, every register at its reset value
(nothing listed in the bank), every table empty, the hub clock at 1,500 MHz (Table 12-13). That it is a G4 is the
model's choice (log entry 1). -/
def State.reset : State where
  pending := []
  variant := .g4
  hc := 0
  tb := 0
  tbPhase := 0
  fmhz := 1500
  free := 0
  regs := []
  selHost := Selector.zero
  selMgmt := Selector.zero
  glb := Glb.zero
  en := []
  ctxs := []
  templates := []
  launches := []
  heldLaunches := []
  hub := Hub.empty
  disp := Disp.empty
  fold := []
  rings := []
  cbs := []
  dmas := []
  dlm := []
  ckpts := []
  sync := Sync.empty
  queues := []
  msgs := []
  fab := Fab.zero
  obs := Obs.zero
  mem := []
  poison := []
  refuse := []
  nextId := 0
  lanes := []
  cyc := Cyc.empty
  reqs := []
  out := []

end Sys2Proof.Machine
end

