-- ==== Sys2Proof/Machine/Bits.lean ====
section
/-! DEFINITION. Bit fields, packing of words and byte order. -/

namespace Sys2Proof.Machine

/-- Field [hi:lo] of a word, as a number. -/
def bits {n : Nat} (w : BitVec n) (hi lo : Nat) : Nat := w.toNat / 2 ^ lo % 2 ^ (hi + 1 - lo)

/-- Bit `i` of a word. -/
def bit {n : Nat} (w : BitVec n) (i : Nat) : Bool := w.getLsbD i

/-- 1 for true. -/
def b2n : Bool → Nat
  | true => 1
  | false => 0

/-- A field to pack: highest bit, lowest bit, value (cut to the field's width). -/
abbrev Fld := Nat × Nat × Nat

def packNat : List Fld → Nat
  | [] => 0
  | (hi, lo, v) :: t => v % 2 ^ (hi + 1 - lo) * 2 ^ lo + packNat t

/-- A 64-bit word with the given fields and 0 elsewhere (R11). -/
def word (l : List Fld) : Word := BitVec.ofNat 64 (packNat l)

/-- A 32-bit word with the given fields and 0 elsewhere (R11). -/
def word32 (l : List Fld) : W32 := BitVec.ofNat 32 (packNat l)

/-- `w` with field [hi:lo] replaced by `v`. -/
def withBits {n : Nat} (w : BitVec n) (hi lo v : Nat) : BitVec n :=
  BitVec.ofNat n (w.toNat - bits w hi lo * 2 ^ lo + v % 2 ^ (hi + 1 - lo) * 2 ^ lo)

/-- The low and the high half of a word. -/
def lo32 (w : Word) : W32 := BitVec.ofNat 32 w.toNat
def hi32 (w : Word) : W32 := BitVec.ofNat 32 (w.toNat / 2 ^ 32)

/-- A word from its halves. -/
def join32 (lo hi : W32) : Word := BitVec.ofNat 64 (lo.toNat + hi.toNat * 2 ^ 32)

def words4 (r : Rec4) : List Word := [r.w0, r.w1, r.w2, r.w3]
def words8 (r : Rec8) : List Word := [r.w0, r.w1, r.w2, r.w3, r.w4, r.w5, r.w6, r.w7]

/-- Word `i` of a list of words; 0 beyond its end. -/
def wordAt (l : List Word) (i : Nat) : Word := l.getD i 0

def rec4 (l : List Word) : Rec4 := ⟨wordAt l 0, wordAt l 1, wordAt l 2, wordAt l 3⟩

/-- The 8 bytes of a word, lowest address first (little-endian: DEDUCED from the offsets and halves that 13_faults and
15_register_map give; log entry 9). -/
def wordBytes (w : Word) : List Byte := (List.range 8).map fun i => BitVec.ofNat 8 (w.toNat / 2 ^ (8 * i))

def wordsBytes (ws : List Word) : List Byte := ws.flatMap wordBytes

/-- The word of up to 8 bytes, lowest address first. -/
def bytesNat : List Byte → Nat
  | [] => 0
  | b :: t => b.toNat + 256 * bytesNat t

def bytesWord (bs : List Byte) : Word := BitVec.ofNat 64 (bytesNat bs)

/-- Words from bytes, 8 by 8. -/
def bytesWords : Nat → List Byte → List Word
  | 0, _ => []
  | n + 1, bs => bytesWord (bs.take 8) :: bytesWords n (bs.drop 8)

/-- Addresses count modulo 2^48 (R252). -/
def addr48 (a : Nat) : Nat := a % 2 ^ 48

/-- Division rounding up. -/
def ceilDiv (a b : Nat) : Nat := (a + b - 1) / b

def log2Up (n : Nat) : Nat := if n ≤ 1 then 0 else Nat.log2 (n - 1) + 1

/-- A count that saturates at the largest value of `w` bits. -/
def satTo (w n : Nat) : Nat := if n < 2 ^ w then n else 2 ^ w - 1

/-- A count of `w` bits whose field map states no behaviour past its largest value (log entry 6). -/
def countTo (w n : Nat) : Nat := if n < 2 ^ w then n else Config.countPast w n % 2 ^ w

/-- The first element that satisfies `p`, replaced by its image. -/
def updFirst {α : Type} (p : α → Bool) (f : α → α) : List α → List α
  | [] => []
  | a :: t => if p a then f a :: t else a :: updFirst p f t

/-- The list without the first element that satisfies `p`. -/
def dropFirst {α : Type} (p : α → Bool) : List α → List α
  | [] => []
  | a :: t => if p a then t else a :: dropFirst p t

/-- Insert before the first element that `a` precedes (a stable place among equals). -/
def insertBy {α : Type} (lt : α → α → Bool) (a : α) : List α → List α
  | [] => [a]
  | b :: t => if lt a b then a :: b :: t else b :: insertBy lt a t

/-- The least element by `lt`, the first among equals. -/
def leastBy {α : Type} (lt : α → α → Bool) : List α → Option α
  | [] => none
  | a :: t =>
    match leastBy lt t with
    | none => some a
    | some b => if lt b a then some b else some a

/-- The numbers below `n` in round-robin order, starting at `p`. -/
def rrFrom (p n : Nat) : List Nat := (List.range n).map fun i => (p + i) % n

end Sys2Proof.Machine
end

