-- ==== Sys2Proof/Machine/Regs.lean ====
section
/-! DEFINITION. The register map: for every register its place and, field by field, its access (Table 00-4) and reset value,
as the field maps of the chapters give them. Fields that show other state of the block are in Machine/Flags.lean. -/

namespace Sys2Proof.Machine

/-- A row of the register map. `n` instances lie `stride` bytes apart; the masks name the bits of each access code that
the register bank itself holds; RO bits of the bank (loss counts) need no mask. -/
structure RegDesc where
  name : String
  ty : Nat
  off : Nat
  n : Nat
  stride : Nat
  reset : Nat
  rw : Nat
  rwl : Nat
  w1c : Nat
  rc : Nat
  deriving DecidableEq, Repr

/-! ## Names of the registers

Type 0 is the flat map; 1 to 9 are the window types of Table 15-5 (9 the route view of a queue descriptor); 10 is the
group view of the barrier window and 11 the landing view of the queue window. -/

def K.GBL_CTRL : RegKey := ⟨0, 0, 0x0000⟩
def K.GBL_STAT : RegKey := ⟨0, 0, 0x0004⟩
def K.CAP0 : RegKey := ⟨0, 0, 0x0008⟩
def K.CAP1 : RegKey := ⟨0, 0, 0x000C⟩
def K.BOOT_DROP : RegKey := ⟨0, 0, 0x0020⟩
def K.HOST_BAD : RegKey := ⟨0, 0, 0x0024⟩
def K.FIFO_LOST : RegKey := ⟨0, 0, 0x0028⟩
def K.RST_CTRL : RegKey := ⟨0, 0, 0x002C⟩
def K.RST_STAT : RegKey := ⟨0, 0, 0x0030⟩
def K.THR_STAT : RegKey := ⟨0, 0, 0x0034⟩
def K.IRQ_VEC : RegKey := ⟨0, 0, 0x0040⟩
def K.IRQ_CAUSE : RegKey := ⟨0, 0, 0x0044⟩
def K.IRQ_EN : RegKey := ⟨0, 0, 0x0048⟩
def K.TB_NOW_LO : RegKey := ⟨0, 0, 0x0100⟩
def K.TB_NOW_HI : RegKey := ⟨0, 0, 0x0104⟩
def K.FRM_EPOCH_LO : RegKey := ⟨0, 0, 0x0108⟩
def K.FRM_EPOCH_HI : RegKey := ⟨0, 0, 0x010C⟩
def K.FRM_LEN : RegKey := ⟨0, 0, 0x0110⟩
def K.FRM_NOW_LO : RegKey := ⟨0, 0, 0x0114⟩
def K.FRM_NOW_HI : RegKey := ⟨0, 0, 0x0118⟩
def K.FRM_CTXn (n : Nat) : RegKey := ⟨0, 0, 0x0200 + 0x4 * n⟩
def K.FRM_OVRn (n : Nat) : RegKey := ⟨0, 0, 0x0300 + 0x4 * n⟩
def K.ERR_CFG : RegKey := ⟨0, 0, 0x0400⟩
def K.ERR_STAT : RegKey := ⟨0, 0, 0x0404⟩
def K.ERR_CORR : RegKey := ⟨0, 0, 0x0408⟩
def K.ERR_CONT : RegKey := ⟨0, 0, 0x040C⟩
def K.ERR_LOST : RegKey := ⟨0, 0, 0x0410⟩
def K.ERR_POP : RegKey := ⟨0, 0, 0x0418⟩
def K.ERR_REC0 (n : Nat) : RegKey := ⟨0, 0, 0x0420 + 0x8 * n⟩
def K.AUD_UNC : RegKey := ⟨0, 0, 0x0440⟩
def K.AUD_CTX_LO : RegKey := ⟨0, 0, 0x0444⟩
def K.AUD_CTX_HI : RegKey := ⟨0, 0, 0x0448⟩
def K.AUD_CAUSE : RegKey := ⟨0, 0, 0x044C⟩
def K.DUMP_BASE_LO : RegKey := ⟨0, 0, 0x0450⟩
def K.DUMP_BASE_HI : RegKey := ⟨0, 0, 0x0454⟩
def K.DUMP_CMD : RegKey := ⟨0, 0, 0x0458⟩
def K.DUMP_STAT : RegKey := ⟨0, 0, 0x045C⟩
def K.FE_STAT : RegKey := ⟨0, 0, 0x1004⟩
def K.FE_CANCEL : RegKey := ⟨0, 0, 0x1008⟩
def K.FE_DB_BAD : RegKey := ⟨0, 0, 0x100C⟩
def K.FE_TIMEOUT : RegKey := ⟨0, 0, 0x1010⟩
def K.RING_CTRL (n : Nat) : RegKey := ⟨0, 0, 0x1100 + 0x80 * n⟩
def K.RING_BASE_LO (n : Nat) : RegKey := ⟨0, 0, 0x1104 + 0x80 * n⟩
def K.RING_BASE_HI (n : Nat) : RegKey := ⟨0, 0, 0x1108 + 0x80 * n⟩
def K.RING_SIZE (n : Nat) : RegKey := ⟨0, 0, 0x110C + 0x80 * n⟩
def K.RING_STAT_LO (n : Nat) : RegKey := ⟨0, 0, 0x1110 + 0x80 * n⟩
def K.RING_STAT_HI (n : Nat) : RegKey := ⟨0, 0, 0x1114 + 0x80 * n⟩
def K.RING_CSNA_LO (n : Nat) : RegKey := ⟨0, 0, 0x1118 + 0x80 * n⟩
def K.RING_CSNA_HI (n : Nat) : RegKey := ⟨0, 0, 0x111C + 0x80 * n⟩
def K.RING_CSN_NEXT_LO (n : Nat) : RegKey := ⟨0, 0, 0x1120 + 0x80 * n⟩
def K.RING_CSN_NEXT_HI (n : Nat) : RegKey := ⟨0, 0, 0x1124 + 0x80 * n⟩
def K.RING_DONE_LO (n : Nat) : RegKey := ⟨0, 0, 0x1128 + 0x80 * n⟩
def K.RING_DONE_HI (n : Nat) : RegKey := ⟨0, 0, 0x112C + 0x80 * n⟩
def K.RING_DB (n : Nat) : RegKey := ⟨0, 0, 0x1130 + 0x80 * n⟩
def K.RING_FETCH (n : Nat) : RegKey := ⟨0, 0, 0x1134 + 0x80 * n⟩
def K.RING_TIMEOUT (n : Nat) : RegKey := ⟨0, 0, 0x1138 + 0x80 * n⟩
def K.RING_IRQ (n : Nat) : RegKey := ⟨0, 0, 0x113C + 0x80 * n⟩
def K.RING_CB_DONE (n : Nat) : RegKey := ⟨0, 0, 0x1140 + 0x80 * n⟩
def K.RING_CB_FAIL (n : Nat) : RegKey := ⟨0, 0, 0x1144 + 0x80 * n⟩
def K.DLM_CFG : RegKey := ⟨0, 0, 0x1800⟩
def K.DLM_STAT : RegKey := ⟨0, 0, 0x1804⟩
def K.DLM_SWITCH : RegKey := ⟨0, 0, 0x1808⟩
def K.DLM_MISS : RegKey := ⟨0, 0, 0x180C⟩
def K.DLM_UNTRACKED : RegKey := ⟨0, 0, 0x1810⟩
def K.DLM_NOEST : RegKey := ⟨0, 0, 0x1814⟩
def K.DLM_FBFAIL : RegKey := ⟨0, 0, 0x1818⟩
def K.HUB_CFG : RegKey := ⟨0, 0, 0x2000⟩
def K.SPR_CFG : RegKey := ⟨0, 0, 0x2004⟩
def K.SPR_STAT : RegKey := ⟨0, 0, 0x2008⟩
def K.SPR_CTXn (n : Nat) : RegKey := ⟨0, 0, 0x2100 + 0x4 * n⟩
def K.SPR_ERRn (n : Nat) : RegKey := ⟨0, 0, 0x2200 + 0x4 * n⟩
def K.SPR_RECn (n : Nat) : RegKey := ⟨0, 0, 0x2300 + 0x4 * n⟩
def K.DSP_CFG : RegKey := ⟨0, 0, 0x3000⟩
def K.DSP_DIR : RegKey := ⟨0, 0, 0x3004⟩
def K.DSP_ELIMk (n : Nat) : RegKey := ⟨0, 0, 0x3010 + 0x4 * n⟩
def K.DSP_CTXn (n : Nat) : RegKey := ⟨0, 0, 0x3100 + 0x4 * n⟩
def K.DSP_CHMAPn (n : Nat) : RegKey := ⟨0, 0, 0x3200 + 0x4 * n⟩
def K.FLD_CFG : RegKey := ⟨0, 0, 0x4000⟩
def K.FLD_UNITn (n : Nat) : RegKey := ⟨0, 0, 0x4010 + 0x4 * n⟩
def K.FLD_CTXn (n : Nat) : RegKey := ⟨0, 0, 0x4100 + 0x4 * n⟩
def K.SYN_CFG : RegKey := ⟨0, 0, 0x5000⟩
def K.SYN_STAT : RegKey := ⟨0, 0, 0x5004⟩
def K.SYN_POOL : RegKey := ⟨0, 0, 0x5008⟩
def K.SYN_CMD : RegKey := ⟨0, 0, 0x500C⟩
def K.SYN_ARG : RegKey := ⟨0, 0, 0x5010⟩
def K.SYN_VAL_LO : RegKey := ⟨0, 0, 0x5014⟩
def K.SYN_VAL_HI : RegKey := ⟨0, 0, 0x5018⟩
def K.SYN_CMD_STAT : RegKey := ⟨0, 0, 0x501C⟩
def K.SYN_PEND : RegKey := ⟨0, 0, 0x5020⟩
def K.SCOPE_MM : RegKey := ⟨0, 0, 0x5028⟩
def K.SYN_OVF : RegKey := ⟨0, 0, 0x502C⟩
def K.SYN_UNMAPPED : RegKey := ⟨0, 0, 0x5030⟩
def K.SYN_ABSIG : RegKey := ⟨0, 0, 0x5034⟩
def K.SIG_BAD : RegKey := ⟨0, 0, 0x5038⟩
def K.SIG_LOST : RegKey := ⟨0, 0, 0x503C⟩
def K.DLD_CFG : RegKey := ⟨0, 0, 0x5040⟩
def K.DLD_STAT : RegKey := ⟨0, 0, 0x5044⟩
def K.DLD_SNAP_LO : RegKey := ⟨0, 0, 0x5048⟩
def K.DLD_SNAP_HI : RegKey := ⟨0, 0, 0x504C⟩
def K.DLD_SNAP_N : RegKey := ⟨0, 0, 0x5050⟩
def K.SYN_VT_LOn (n : Nat) : RegKey := ⟨0, 0, 0x5100 + 0x4 * n⟩
def K.SYN_VT_HIn (n : Nat) : RegKey := ⟨0, 0, 0x5200 + 0x4 * n⟩
def K.SYN_VT_Nn (n : Nat) : RegKey := ⟨0, 0, 0x5300 + 0x4 * n⟩
def K.CH_CFG : RegKey := ⟨0, 0, 0x6000⟩
def K.CH_STAT : RegKey := ⟨0, 0, 0x6004⟩
def K.FAB_CFG : RegKey := ⟨0, 0, 0x7000⟩
def K.FAB_TIME : RegKey := ⟨0, 0, 0x7004⟩
def K.FAB_TSTAT : RegKey := ⟨0, 0, 0x7008⟩
def K.FAB_UNLOCK : RegKey := ⟨0, 0, 0x700C⟩
def K.FAB_START : RegKey := ⟨0, 0, 0x7010⟩
def K.FAB_START_LEAD : RegKey := ⟨0, 0, 0x7014⟩
def K.FAB_STOP : RegKey := ⟨0, 0, 0x7018⟩
def K.FAB_LIMITS : RegKey := ⟨0, 0, 0x701C⟩
def K.FAB_INFLIGHT : RegKey := ⟨0, 0, 0x7020⟩
def K.FAB_HOLD : RegKey := ⟨0, 0, 0x7024⟩
def K.FAB_SENT : RegKey := ⟨0, 0, 0x7028⟩
def K.FAB_RECV : RegKey := ⟨0, 0, 0x702C⟩
def K.FAB_LOST : RegKey := ⟨0, 0, 0x7030⟩
def K.FAB_ORPHAN : RegKey := ⟨0, 0, 0x7034⟩
def K.FAB_DISCARD : RegKey := ⟨0, 0, 0x7038⟩
def K.FAB_LATE : RegKey := ⟨0, 0, 0x703C⟩
def K.FAB_REFUSED : RegKey := ⟨0, 0, 0x7040⟩
def K.OBS_CTRL : RegKey := ⟨0, 0, 0x8000⟩
def K.OBS_STAT : RegKey := ⟨0, 0, 0x8004⟩
def K.OBS_SNAP : RegKey := ⟨0, 0, 0x8008⟩
def K.TRC_CTRL : RegKey := ⟨0, 0, 0x8010⟩
def K.TRC_STAT : RegKey := ⟨0, 0, 0x8014⟩
def K.TRC_LOST : RegKey := ⟨0, 0, 0x8018⟩
def K.TRC_REC : RegKey := ⟨0, 0, 0x801C⟩
def K.TRC_CTXM_LO : RegKey := ⟨0, 0, 0x8020⟩
def K.TRC_CTXM_HI : RegKey := ⟨0, 0, 0x8024⟩
def K.TRC_MARK : RegKey := ⟨0, 0, 0x8028⟩
def K.SMP_CTRL : RegKey := ⟨0, 0, 0x8040⟩
def K.SMP_PERIOD : RegKey := ⟨0, 0, 0x8044⟩
def K.SMP_BASE_LO : RegKey := ⟨0, 0, 0x8048⟩
def K.SMP_BASE_HI : RegKey := ⟨0, 0, 0x804C⟩
def K.SMP_SIZE : RegKey := ⟨0, 0, 0x8050⟩
def K.SMP_PROD : RegKey := ⟨0, 0, 0x8054⟩
def K.SMP_CONS : RegKey := ⟨0, 0, 0x8058⟩
def K.SMP_LOST : RegKey := ⟨0, 0, 0x805C⟩
def K.HANG_CTRL : RegKey := ⟨0, 0, 0x8060⟩
def K.HANG_STAT : RegKey := ⟨0, 0, 0x8064⟩
def K.HANG_BASE_LO : RegKey := ⟨0, 0, 0x8068⟩
def K.HANG_BASE_HI : RegKey := ⟨0, 0, 0x806C⟩
def K.HANG_SKIP : RegKey := ⟨0, 0, 0x8070⟩
def K.STOP_CTRL : RegKey := ⟨0, 0, 0x8080⟩
def K.STOP_STAT : RegKey := ⟨0, 0, 0x8084⟩
def K.STOP_TSTOP : RegKey := ⟨0, 0, 0x8088⟩
def K.STOP_CUT : RegKey := ⟨0, 0, 0x8090⟩
def K.LCAP_SEL : RegKey := ⟨0, 0, 0x8098⟩
def K.LCAP_CNT : RegKey := ⟨0, 0, 0x80A0⟩
def K.LCAP_E0 : RegKey := ⟨0, 0, 0x80A8⟩
def K.WP_BASE_LOn (n : Nat) : RegKey := ⟨0, 0, 0x8100 + 0x20 * n⟩
def K.WP_BASE_HIn (n : Nat) : RegKey := ⟨0, 0, 0x8104 + 0x20 * n⟩
def K.WP_CFGn (n : Nat) : RegKey := ⟨0, 0, 0x8108 + 0x20 * n⟩
def K.WP_HITn (n : Nat) : RegKey := ⟨0, 0, 0x810C + 0x20 * n⟩
def K.PERT_CTRL : RegKey := ⟨0, 0, 0x9000⟩
def K.PERT_SEED : RegKey := ⟨0, 0, 0x9004⟩
def K.PERT_CNT : RegKey := ⟨0, 0, 0x9008⟩
def K.TST_CFG : RegKey := ⟨0, 0, 0x9010⟩
def K.TST_INJ : RegKey := ⟨0, 0, 0x9014⟩
def K.TST_FIFO : RegKey := ⟨0, 0, 0x9018⟩
def K.TST_STAT : RegKey := ⟨0, 0, 0x901C⟩
def K.TST_SCRATCH : RegKey := ⟨0, 0, 0x9020⟩
def K.WIN_SEL : RegKey := ⟨0, 0, 0xA000⟩
def K.WIN_STAT : RegKey := ⟨0, 0, 0xA004⟩
def K.CTX_CTRL (i : Nat) : RegKey := ⟨1, i, 0x00⟩
def K.CTX_CMD (i : Nat) : RegKey := ⟨1, i, 0x04⟩
def K.CTX_PART (i : Nat) : RegKey := ⟨1, i, 0x08⟩
def K.CTX_TPL_LO (i : Nat) : RegKey := ⟨1, i, 0x0C⟩
def K.CTX_TPL_HI (i : Nat) : RegKey := ⟨1, i, 0x10⟩
def K.CTX_TPL_N (i : Nat) : RegKey := ⟨1, i, 0x14⟩
def K.CTX_LT_LO (i : Nat) : RegKey := ⟨1, i, 0x18⟩
def K.CTX_LT_HI (i : Nat) : RegKey := ⟨1, i, 0x1C⟩
def K.CTX_LT_N (i : Nat) : RegKey := ⟨1, i, 0x20⟩
def K.CTX_SAVE_LO (i : Nat) : RegKey := ⟨1, i, 0x24⟩
def K.CTX_SAVE_HI (i : Nat) : RegKey := ⟨1, i, 0x28⟩
def K.CTX_EST_LO (i : Nat) : RegKey := ⟨1, i, 0x2C⟩
def K.CTX_EST_HI (i : Nat) : RegKey := ⟨1, i, 0x30⟩
def K.CTX_SERIAL (i : Nat) : RegKey := ⟨1, i, 0x34⟩
def K.CTX_INFLIGHT (i : Nat) : RegKey := ⟨1, i, 0x38⟩
def K.CTX_PART_DENY (i : Nat) : RegKey := ⟨1, i, 0x3C⟩
def K.TPL_STATE (i : Nat) : RegKey := ⟨2, i, 0x00⟩
def K.TPL_BUSY (i : Nat) : RegKey := ⟨2, i, 0x04⟩
def K.TPL_VSLOT_An (i k : Nat) : RegKey := ⟨2, i, 0x10 + 8 * k⟩
def K.TPL_VSLOT_Bn (i k : Nat) : RegKey := ⟨2, i, 0x14 + 8 * k⟩
def K.SHD_CTRL (i : Nat) : RegKey := ⟨3, i, 0x00⟩
def K.SHD_OCC (i : Nat) : RegKey := ⟨3, i, 0x04⟩
def K.SHD_EDGE (i : Nat) : RegKey := ⟨3, i, 0x08⟩
def K.SHD_TOK_STALE (i : Nat) : RegKey := ⟨3, i, 0x0C⟩
def K.SHD_TOK_DUP (i : Nat) : RegKey := ⟨3, i, 0x10⟩
def K.SHD_DEC_ZERO (i : Nat) : RegKey := ⟨3, i, 0x14⟩
def K.SHD_CANCEL_DROP (i : Nat) : RegKey := ⟨3, i, 0x18⟩
def K.SHD_XSTALL (i : Nat) : RegKey := ⟨3, i, 0x1C⟩
def K.SLOT_SEL (i : Nat) : RegKey := ⟨3, i, 0x20⟩
def K.CEL_BASE_LO (i : Nat) : RegKey := ⟨4, i, 0x00⟩
def K.CEL_BASE_HI (i : Nat) : RegKey := ⟨4, i, 0x04⟩
def K.CEL_SIZE (i : Nat) : RegKey := ⟨4, i, 0x08⟩
def K.CEL_CTRL (i : Nat) : RegKey := ⟨4, i, 0x0C⟩
def K.CEL_LIMIT (i : Nat) : RegKey := ⟨4, i, 0x10⟩
def K.CEL_OCC (i : Nat) : RegKey := ⟨4, i, 0x14⟩
def K.CEL_RDY (i : Nat) : RegKey := ⟨4, i, 0x18⟩
def K.CEL_SPILL (i : Nat) : RegKey := ⟨4, i, 0x1C⟩
def K.CEL_REFILL (i : Nat) : RegKey := ⟨4, i, 0x20⟩
def K.CEL_LOST (i : Nat) : RegKey := ⟨4, i, 0x24⟩
def K.CEL_DROP (i : Nat) : RegKey := ⟨4, i, 0x28⟩
def K.STN_CTRL (i : Nat) : RegKey := ⟨5, i, 0x00⟩
def K.STN_AREA (i : Nat) : RegKey := ⟨5, i, 0x04⟩
def K.STN_STEEP_SZ (i : Nat) : RegKey := ⟨5, i, 0x08⟩
def K.STN_DISP (i : Nat) : RegKey := ⟨5, i, 0x0C⟩
def K.STN_STEEP_HIT (i : Nat) : RegKey := ⟨5, i, 0x10⟩
def K.STN_STEEP_MISS (i : Nat) : RegKey := ⟨5, i, 0x14⟩
def K.STN_STEEP_SKIP (i : Nat) : RegKey := ⟨5, i, 0x18⟩
def K.STN_PREEMPT (i : Nat) : RegKey := ⟨5, i, 0x1C⟩
def K.STN_TIMEOUT (i : Nat) : RegKey := ⟨5, i, 0x20⟩
def K.STN_ENG_SEL (i : Nat) : RegKey := ⟨5, i, 0x24⟩
def K.STN_ENG (i : Nat) : RegKey := ⟨5, i, 0x28⟩
def K.STN_CTXM_LO (i : Nat) : RegKey := ⟨5, i, 0x2C⟩
def K.STN_CTXM_HI (i : Nat) : RegKey := ⟨5, i, 0x30⟩
def K.STN_SWST (i : Nat) : RegKey := ⟨5, i, 0x34⟩
def K.FLDW_TBL_LO (i : Nat) : RegKey := ⟨6, i, 0x00⟩
def K.FLDW_TBL_HI (i : Nat) : RegKey := ⟨6, i, 0x04⟩
def K.FLDW_TBL_N (i : Nat) : RegKey := ⟨6, i, 0x08⟩
def K.FLDW_WAIT_LO (i : Nat) : RegKey := ⟨6, i, 0x0C⟩
def K.FLDW_WAIT_HI (i : Nat) : RegKey := ⟨6, i, 0x10⟩
def K.FLDW_WAIT_N (i : Nat) : RegKey := ⟨6, i, 0x14⟩
def K.FLDW_ROUTED (i : Nat) : RegKey := ⟨6, i, 0x18⟩
def K.FLDW_ACCEPT (i : Nat) : RegKey := ⟨6, i, 0x1C⟩
def K.FLDW_WAITING (i : Nat) : RegKey := ⟨6, i, 0x20⟩
def K.FLDW_REFUSED (i : Nat) : RegKey := ⟨6, i, 0x24⟩
def K.FLDW_DUP (i : Nat) : RegKey := ⟨6, i, 0x28⟩
def K.FLDW_OVER (i : Nat) : RegKey := ⟨6, i, 0x2C⟩
def K.FLDW_LOST (i : Nat) : RegKey := ⟨6, i, 0x30⟩
def K.FLDW_CANCEL (i : Nat) : RegKey := ⟨6, i, 0x34⟩
def K.FLDW_FAULT (i : Nat) : RegKey := ⟨6, i, 0x38⟩
def K.FLDW_SEL (i : Nat) : RegKey := ⟨6, i, 0x3C⟩
def K.BAR_CTRL (i : Nat) : RegKey := ⟨8, i, 0x00⟩
def K.BAR_FE (i : Nat) : RegKey := ⟨8, i, 0x04⟩
def K.BAR_GEN (i : Nat) : RegKey := ⟨8, i, 0x08⟩
def K.BAR_CNT (i : Nat) : RegKey := ⟨8, i, 0x0C⟩
def K.BAR_MASKk (i k : Nat) : RegKey := ⟨8, i, 0x10 + 4 * k⟩
def K.BAR_REL (i : Nat) : RegKey := ⟨8, i, 0x20⟩
def K.BAR_ERR (i : Nat) : RegKey := ⟨8, i, 0x28⟩
def K.GRP_CTRL (i : Nat) : RegKey := ⟨10, i, 0x00⟩
def K.GRP_CFG (i : Nat) : RegKey := ⟨10, i, 0x04⟩
def K.GRP_STAT (i : Nat) : RegKey := ⟨10, i, 0x08⟩
def K.Q_CTRL (i : Nat) : RegKey := ⟨9, i, 0x00⟩
def K.RT_CFG (i : Nat) : RegKey := ⟨9, i, 0x04⟩
def K.RT_HBASE (i : Nat) : RegKey := ⟨9, i, 0x08⟩
def K.RT_DESTj (i k : Nat) : RegKey := ⟨9, i, 0x0C + 4 * k⟩
def K.RT_MSG (i : Nat) : RegKey := ⟨9, i, 0x20⟩
def K.RT_STALL (i : Nat) : RegKey := ⟨9, i, 0x24⟩
def K.RT_CLOSED (i : Nat) : RegKey := ⟨9, i, 0x28⟩
def K.RT_REFUSED (i : Nat) : RegKey := ⟨9, i, 0x2C⟩
def K.LD_CFG (i : Nat) : RegKey := ⟨11, i, 0x04⟩
def K.LD_RING (i : Nat) : RegKey := ⟨11, i, 0x08⟩
def K.LD_PROD (i : Nat) : RegKey := ⟨11, i, 0x0C⟩
def K.LD_CONS (i : Nat) : RegKey := ⟨11, i, 0x10⟩
def K.LD_STAT (i : Nat) : RegKey := ⟨11, i, 0x14⟩
def K.LD_CREDIT (i : Nat) : RegKey := ⟨11, i, 0x18⟩
def K.LD_MSG (i : Nat) : RegKey := ⟨11, i, 0x20⟩
def K.LD_DISCARD (i : Nat) : RegKey := ⟨11, i, 0x24⟩
def K.LD_LOST (i : Nat) : RegKey := ⟨11, i, 0x28⟩
def K.LD_CONS_ERR (i : Nat) : RegKey := ⟨11, i, 0x2C⟩

/-- PMC_CFGk and PMC_FLTk of unit u (Table 14-10). -/
def K.PMC_CFG (u k : Nat) : RegKey := ⟨0, 0, 0x8200 + 0x40 * u + 4 * k⟩
def K.PMC_FLT (u k : Nat) : RegKey := ⟨0, 0, 0x8220 + 0x40 * u + 4 * k⟩

/-! ## The map, region by region -/

def regsGlobal0 : List RegDesc :=
  [⟨"GBL_CTRL", 0, 0x0, 1, 0x0, 0x0, 0x0, 0x0, 0x0, 0x0⟩,
   ⟨"GBL_STAT", 0, 0x4, 1, 0x0, 0x0, 0x0, 0x0, 0x0, 0x0⟩,
   ⟨"CAP0", 0, 0x8, 1, 0x0, 0x0, 0x0, 0x0, 0x0, 0x0⟩,
   ⟨"CAP1", 0, 0xc, 1, 0x0, 0x0, 0x0, 0x0, 0x0, 0x0⟩,
   ⟨"BOOT_DROP", 0, 0x20, 1, 0x0, 0x0, 0x0, 0x0, 0x0, 0x0⟩,
   ⟨"HOST_BAD", 0, 0x24, 1, 0x0, 0x0, 0x0, 0x0, 0x0, 0xffffffff⟩,
   ⟨"FIFO_LOST", 0, 0x28, 1, 0x0, 0x0, 0x0, 0x0, 0x0, 0x0⟩,
   ⟨"RST_CTRL", 0, 0x2c, 1, 0x0, 0x0, 0x0, 0x0, 0x0, 0x0⟩,
   ⟨"RST_STAT", 0, 0x30, 1, 0x0, 0x0, 0x0, 0x0, 0x0, 0x0⟩,
   ⟨"THR_STAT", 0, 0x34, 1, 0x0, 0x0, 0x0, 0x0, 0x0, 0xffff0000⟩,
   ⟨"IRQ_VEC", 0, 0x40, 1, 0x0, 0x3f3e3d00, 0x3f3f3f00, 0x0, 0x0, 0x0⟩,
   ⟨"IRQ_CAUSE", 0, 0x44, 1, 0x0, 0x0, 0x0, 0x0, 0x7f, 0x0⟩,
   ⟨"IRQ_EN", 0, 0x48, 1, 0x0, 0x7f, 0x7f, 0x0, 0x0, 0x0⟩,
   ⟨"TB_NOW_LO", 0, 0x100, 1, 0x0, 0x0, 0x0, 0x0, 0x0, 0x0⟩,
   ⟨"TB_NOW_HI", 0, 0x104, 1, 0x0, 0x0, 0x0, 0x0, 0x0, 0x0⟩,
   ⟨"FRM_EPOCH_LO", 0, 0x108, 1, 0x0, 0x0, 0xffffffff, 0x0, 0x0, 0x0⟩,
   ⟨"FRM_EPOCH_HI", 0, 0x10c, 1, 0x0, 0x0, 0xffffffff, 0x0, 0x0, 0x0⟩,
   ⟨"FRM_LEN", 0, 0x110, 1, 0x0, 0x2710, 0xffffffff, 0x0, 0x0, 0x0⟩,
   ⟨"FRM_NOW_LO", 0, 0x114, 1, 0x0, 0x0, 0x0, 0x0, 0x0, 0x0⟩,
   ⟨"FRM_NOW_HI", 0, 0x118, 1, 0x0, 0x0, 0x0, 0x0, 0x0, 0x0⟩]

def regsGlobal1 : List RegDesc :=
  [⟨"FRM_CTXn", 0, 0x200, 64, 0x4, 0x1002000, 0xfffffe00, 0x0, 0x0, 0x0⟩,
   ⟨"FRM_OVRn", 0, 0x300, 64, 0x4, 0x0, 0x0, 0x0, 0x0, 0xffffffff⟩,
   ⟨"ERR_CFG", 0, 0x400, 1, 0x0, 0x640000, 0x80000000, 0xff0000, 0x0, 0x0⟩,
   ⟨"ERR_STAT", 0, 0x404, 1, 0x0, 0x0, 0x0, 0x0, 0x0, 0x0⟩,
   ⟨"ERR_CORR", 0, 0x408, 1, 0x0, 0x0, 0x0, 0x0, 0x0, 0xffffffff⟩,
   ⟨"ERR_CONT", 0, 0x40c, 1, 0x0, 0x0, 0x0, 0x0, 0x0, 0xffffffff⟩,
   ⟨"ERR_LOST", 0, 0x410, 1, 0x0, 0x0, 0x0, 0x0, 0x0, 0x0⟩,
   ⟨"ERR_POP", 0, 0x418, 1, 0x0, 0x0, 0x0, 0x0, 0x0, 0x0⟩,
   ⟨"ERR_REC0", 0, 0x420, 4, 0x8, 0x0, 0x0, 0x0, 0x0, 0x0⟩,
   ⟨"AUD_UNC", 0, 0x440, 1, 0x0, 0x0, 0x0, 0x0, 0x3ff, 0x0⟩,
   ⟨"AUD_CTX_LO", 0, 0x444, 1, 0x0, 0x0, 0x0, 0x0, 0xffffffff, 0x0⟩,
   ⟨"AUD_CTX_HI", 0, 0x448, 1, 0x0, 0x0, 0x0, 0x0, 0xffffffff, 0x0⟩,
   ⟨"AUD_CAUSE", 0, 0x44c, 1, 0x0, 0x0, 0xff, 0x0, 0x0, 0x0⟩,
   ⟨"DUMP_BASE_LO", 0, 0x450, 1, 0x0, 0x0, 0xfffff000, 0x0, 0x0, 0x0⟩,
   ⟨"DUMP_BASE_HI", 0, 0x454, 1, 0x0, 0x0, 0xffff, 0x0, 0x0, 0x0⟩,
   ⟨"DUMP_CMD", 0, 0x458, 1, 0x0, 0x0, 0x0, 0x0, 0x0, 0x0⟩,
   ⟨"DUMP_STAT", 0, 0x45c, 1, 0x0, 0x0, 0x0, 0x0, 0x0, 0x0⟩]

def regsGlobal : List RegDesc := regsGlobal0 ++ regsGlobal1

def regsFrontEnd0 : List RegDesc :=
  [⟨"FE_STAT", 0, 0x1004, 1, 0x0, 0x0, 0x0, 0x0, 0x0, 0x0⟩,
   ⟨"FE_CANCEL", 0, 0x1008, 1, 0x0, 0x0, 0x0, 0x0, 0x0, 0x0⟩,
   ⟨"FE_DB_BAD", 0, 0x100c, 1, 0x0, 0x0, 0x0, 0x0, 0x0, 0xffffffff⟩,
   ⟨"FE_TIMEOUT", 0, 0x1010, 1, 0x0, 0x0, 0x0, 0x0, 0x0, 0xffffffff⟩,
   ⟨"RING_CTRL", 0, 0x1100, 8, 0x80, 0x400000, 0xf00000, 0x0, 0x0, 0x0⟩,
   ⟨"RING_BASE_LO", 0, 0x1104, 8, 0x80, 0x0, 0xffffffc0, 0x0, 0x0, 0x0⟩,
   ⟨"RING_BASE_HI", 0, 0x1108, 8, 0x80, 0x0, 0xffff, 0x0, 0x0, 0x0⟩,
   ⟨"RING_SIZE", 0, 0x110c, 8, 0x80, 0x10, 0x1ffff, 0x0, 0x0, 0x0⟩,
   ⟨"RING_STAT_LO", 0, 0x1110, 8, 0x80, 0x0, 0xffffffe0, 0x0, 0x0, 0x0⟩,
   ⟨"RING_STAT_HI", 0, 0x1114, 8, 0x80, 0x0, 0xffff, 0x0, 0x0, 0x0⟩,
   ⟨"RING_CSNA_LO", 0, 0x1118, 8, 0x80, 0x0, 0xfffffff8, 0x0, 0x0, 0x0⟩,
   ⟨"RING_CSNA_HI", 0, 0x111c, 8, 0x80, 0x0, 0xffff, 0x0, 0x0, 0x0⟩,
   ⟨"RING_CSN_NEXT_LO", 0, 0x1120, 8, 0x80, 0x0, 0x0, 0x0, 0x0, 0x0⟩,
   ⟨"RING_CSN_NEXT_HI", 0, 0x1124, 8, 0x80, 0x0, 0x0, 0x0, 0x0, 0x0⟩,
   ⟨"RING_DONE_LO", 0, 0x1128, 8, 0x80, 0x0, 0x0, 0x0, 0x0, 0x0⟩,
   ⟨"RING_DONE_HI", 0, 0x112c, 8, 0x80, 0x0, 0x0, 0x0, 0x0, 0x0⟩,
   ⟨"RING_DB", 0, 0x1130, 8, 0x80, 0x0, 0x0, 0x0, 0x0, 0x0⟩,
   ⟨"RING_FETCH", 0, 0x1134, 8, 0x80, 0x0, 0x0, 0x0, 0x0, 0x0⟩,
   ⟨"RING_TIMEOUT", 0, 0x1138, 8, 0x80, 0x0, 0xffffffff, 0x0, 0x0, 0x0⟩,
   ⟨"RING_IRQ", 0, 0x113c, 8, 0x80, 0x0, 0xffff0000, 0x0, 0x0, 0x0⟩]

def regsFrontEnd1 : List RegDesc :=
  [⟨"RING_CB_DONE", 0, 0x1140, 8, 0x80, 0x0, 0x0, 0x0, 0x0, 0xffffffff⟩,
   ⟨"RING_CB_FAIL", 0, 0x1144, 8, 0x80, 0x0, 0x0, 0x0, 0x0, 0xffffffff⟩,
   ⟨"DLM_CFG", 0, 0x1800, 1, 0x0, 0xc350001, 0xfffff001, 0x0, 0x0, 0x0⟩,
   ⟨"DLM_STAT", 0, 0x1804, 1, 0x0, 0x0, 0x0, 0x0, 0x0, 0x0⟩,
   ⟨"DLM_SWITCH", 0, 0x1808, 1, 0x0, 0x0, 0x0, 0x0, 0x0, 0xffffffff⟩,
   ⟨"DLM_MISS", 0, 0x180c, 1, 0x0, 0x0, 0x0, 0x0, 0x0, 0xffffffff⟩,
   ⟨"DLM_UNTRACKED", 0, 0x1810, 1, 0x0, 0x0, 0x0, 0x0, 0x0, 0xffffffff⟩,
   ⟨"DLM_NOEST", 0, 0x1814, 1, 0x0, 0x0, 0x0, 0x0, 0x0, 0xffffffff⟩,
   ⟨"DLM_FBFAIL", 0, 0x1818, 1, 0x0, 0x0, 0x0, 0x0, 0x0, 0xffffffff⟩]

def regsFrontEnd : List RegDesc := regsFrontEnd0 ++ regsFrontEnd1

def regsHub : List RegDesc :=
  [⟨"HUB_CFG", 0, 0x2000, 1, 0x0, 0x7f000000, 0x0, 0xfff00000, 0x0, 0x0⟩,
   ⟨"SPR_CFG", 0, 0x2004, 1, 0x0, 0x200, 0x0, 0xffff, 0x0, 0x0⟩,
   ⟨"SPR_STAT", 0, 0x2008, 1, 0x0, 0x0, 0x0, 0x0, 0x0, 0x0⟩,
   ⟨"SPR_CTXn", 0, 0x2100, 64, 0x4, 0x2000000, 0xfff80000, 0x0, 0x0, 0x0⟩,
   ⟨"SPR_ERRn", 0, 0x2200, 64, 0x4, 0x0, 0x0, 0x0, 0x0, 0xffffffff⟩,
   ⟨"SPR_RECn", 0, 0x2300, 64, 0x4, 0x0, 0x0, 0x0, 0x0, 0xffffffff⟩]

def regsDispatch : List RegDesc :=
  [⟨"DSP_CFG", 0, 0x3000, 1, 0x0, 0x1001040, 0xffff0000, 0xfff8, 0x0, 0x0⟩,
   ⟨"DSP_DIR", 0, 0x3004, 1, 0x0, 0x0, 0x0, 0x0, 0x0, 0x0⟩,
   ⟨"DSP_ELIMk", 0, 0x3010, 1, 0x0, 0x400, 0x0, 0x3fff, 0x0, 0x0⟩,
   ⟨"DSP_ELIMk", 0, 0x3014, 1, 0x0, 0x2000, 0x0, 0x3fff, 0x0, 0x0⟩,
   ⟨"DSP_ELIMk", 0, 0x3018, 1, 0x0, 0x100, 0x0, 0x3fff, 0x0, 0x0⟩,
   ⟨"DSP_ELIMk", 0, 0x301c, 1, 0x0, 0x800, 0x0, 0x3fff, 0x0, 0x0⟩,
   ⟨"DSP_ELIMk", 0, 0x3020, 1, 0x0, 0x200, 0x0, 0x3fff, 0x0, 0x0⟩,
   ⟨"DSP_CTXn", 0, 0x3100, 64, 0x4, 0x100000, 0xffff0000, 0x0, 0x0, 0x0⟩,
   ⟨"DSP_CHMAPn", 0, 0x3200, 64, 0x4, 0x0, 0x0, 0xffffffff, 0x0, 0x0⟩]

def regsFold : List RegDesc :=
  [⟨"FLD_CFG", 0, 0x4000, 1, 0x0, 0x10000, 0x0, 0x0, 0x0, 0x0⟩,
   ⟨"FLD_UNITn", 0, 0x4010, 4, 0x4, 0x0, 0x0, 0x0, 0x0, 0x0⟩,
   ⟨"FLD_CTXn", 0, 0x4100, 64, 0x4, 0x8000ffff, 0xffffffff, 0x0, 0x0, 0x0⟩]

def regsSync0 : List RegDesc :=
  [⟨"SYN_CFG", 0, 0x5000, 1, 0x0, 0x0, 0x80000000, 0x0, 0x0, 0x0⟩,
   ⟨"SYN_STAT", 0, 0x5004, 1, 0x0, 0x0, 0x0, 0x0, 0x0, 0x0⟩,
   ⟨"SYN_POOL", 0, 0x5008, 1, 0x0, 0x0, 0x0, 0x0, 0x0, 0x0⟩,
   ⟨"SYN_CMD", 0, 0x500c, 1, 0x0, 0x0, 0x0, 0x0, 0x0, 0x0⟩,
   ⟨"SYN_ARG", 0, 0x5010, 1, 0x0, 0x0, 0x3fffffff, 0x0, 0x0, 0x0⟩,
   ⟨"SYN_VAL_LO", 0, 0x5014, 1, 0x0, 0x0, 0xffffffff, 0x0, 0x0, 0x0⟩,
   ⟨"SYN_VAL_HI", 0, 0x5018, 1, 0x0, 0x0, 0xffffffff, 0x0, 0x0, 0x0⟩,
   ⟨"SYN_CMD_STAT", 0, 0x501c, 1, 0x0, 0x0, 0x0, 0x0, 0x0, 0x0⟩,
   ⟨"SYN_PEND", 0, 0x5020, 1, 0x0, 0x0, 0x0, 0x0, 0x0, 0x0⟩,
   ⟨"SCOPE_MM", 0, 0x5028, 1, 0x0, 0x0, 0x0, 0x0, 0x0, 0xffffffff⟩,
   ⟨"SYN_OVF", 0, 0x502c, 1, 0x0, 0x0, 0x0, 0x0, 0x0, 0xffffffff⟩,
   ⟨"SYN_UNMAPPED", 0, 0x5030, 1, 0x0, 0x0, 0x0, 0x0, 0x0, 0xffffffff⟩,
   ⟨"SYN_ABSIG", 0, 0x5034, 1, 0x0, 0x0, 0x0, 0x0, 0x0, 0xffffffff⟩,
   ⟨"SIG_BAD", 0, 0x5038, 1, 0x0, 0x0, 0x0, 0x0, 0x0, 0xffffffff⟩,
   ⟨"SIG_LOST", 0, 0x503c, 1, 0x0, 0x0, 0x0, 0x0, 0x0, 0xffffffff⟩,
   ⟨"DLD_CFG", 0, 0x5040, 1, 0x0, 0x4000000, 0xffffff00, 0x0, 0x0, 0x0⟩,
   ⟨"DLD_STAT", 0, 0x5044, 1, 0x0, 0x0, 0x0, 0x0, 0xffff, 0x0⟩,
   ⟨"DLD_SNAP_LO", 0, 0x5048, 1, 0x0, 0x0, 0xffffffc0, 0x0, 0x0, 0x0⟩,
   ⟨"DLD_SNAP_HI", 0, 0x504c, 1, 0x0, 0x0, 0xffff, 0x0, 0x0, 0x0⟩,
   ⟨"DLD_SNAP_N", 0, 0x5050, 1, 0x0, 0x0, 0x1ffff, 0x0, 0x0, 0x0⟩]

def regsSync1 : List RegDesc :=
  [⟨"SYN_VT_LOn", 0, 0x5100, 64, 0x4, 0x0, 0xfffff000, 0x0, 0x0, 0x0⟩,
   ⟨"SYN_VT_HIn", 0, 0x5200, 64, 0x4, 0x0, 0xffff, 0x0, 0x0, 0x0⟩,
   ⟨"SYN_VT_Nn", 0, 0x5300, 64, 0x4, 0x0, 0x1ffffff, 0x0, 0x0, 0x0⟩]

def regsSync : List RegDesc := regsSync0 ++ regsSync1

def regsChannel : List RegDesc :=
  [⟨"CH_CFG", 0, 0x6000, 1, 0x0, 0x0, 0xffff0000, 0x0, 0x0, 0x0⟩,
   ⟨"CH_STAT", 0, 0x6004, 1, 0x0, 0x0, 0x0, 0x0, 0x0, 0x0⟩]

def regsFabric : List RegDesc :=
  [⟨"FAB_CFG", 0, 0x7000, 1, 0x0, 0x800, 0xfffff801, 0x0, 0x0, 0x0⟩,
   ⟨"FAB_TIME", 0, 0x7004, 1, 0x0, 0x640000, 0xffff0000, 0x0, 0x0, 0x0⟩,
   ⟨"FAB_TSTAT", 0, 0x7008, 1, 0x0, 0x0, 0x0, 0x0, 0x0, 0x0⟩,
   ⟨"FAB_UNLOCK", 0, 0x700c, 1, 0x0, 0x0, 0x0, 0x0, 0x0, 0xffffffff⟩,
   ⟨"FAB_START", 0, 0x7010, 1, 0x0, 0x200, 0x3ffffe00, 0x0, 0x0, 0x0⟩,
   ⟨"FAB_START_LEAD", 0, 0x7014, 1, 0x0, 0x186a0, 0xffffffff, 0x0, 0x0, 0x0⟩,
   ⟨"FAB_STOP", 0, 0x7018, 1, 0x0, 0x4e20, 0x7fffffff, 0x0, 0x80000000, 0x0⟩,
   ⟨"FAB_LIMITS", 0, 0x701c, 1, 0x0, 0x10003e8, 0xffffffff, 0x0, 0x0, 0x0⟩,
   ⟨"FAB_INFLIGHT", 0, 0x7020, 1, 0x0, 0x0, 0x0, 0x0, 0x0, 0x0⟩,
   ⟨"FAB_HOLD", 0, 0x7024, 1, 0x0, 0x0, 0x0, 0x0, 0x0, 0x0⟩,
   ⟨"FAB_SENT", 0, 0x7028, 1, 0x0, 0x0, 0x0, 0x0, 0x0, 0x0⟩,
   ⟨"FAB_RECV", 0, 0x702c, 1, 0x0, 0x0, 0x0, 0x0, 0x0, 0x0⟩,
   ⟨"FAB_LOST", 0, 0x7030, 1, 0x0, 0x0, 0x0, 0x0, 0x0, 0x0⟩,
   ⟨"FAB_ORPHAN", 0, 0x7034, 1, 0x0, 0x0, 0x0, 0x0, 0x0, 0x0⟩,
   ⟨"FAB_DISCARD", 0, 0x7038, 1, 0x0, 0x0, 0x0, 0x0, 0x0, 0x0⟩,
   ⟨"FAB_LATE", 0, 0x703c, 1, 0x0, 0x0, 0x0, 0x0, 0x0, 0xffffffff⟩,
   ⟨"FAB_REFUSED", 0, 0x7040, 1, 0x0, 0x0, 0x0, 0x0, 0x0, 0x0⟩]

def regsObs0 : List RegDesc :=
  [⟨"OBS_CTRL", 0, 0x8000, 1, 0x0, 0x0, 0x40ffffff, 0x0, 0x0, 0x0⟩,
   ⟨"OBS_STAT", 0, 0x8004, 1, 0x0, 0x0, 0x0, 0x0, 0xffffff, 0x0⟩,
   ⟨"OBS_SNAP", 0, 0x8008, 1, 0x0, 0x0, 0x0, 0x0, 0x0, 0x0⟩,
   ⟨"TRC_CTRL", 0, 0x8010, 1, 0x0, 0x10000000, 0xffff0000, 0x0, 0x0, 0x0⟩,
   ⟨"TRC_STAT", 0, 0x8014, 1, 0x0, 0x0, 0x0, 0x0, 0x0, 0x0⟩,
   ⟨"TRC_LOST", 0, 0x8018, 1, 0x0, 0x0, 0x0, 0x0, 0x0, 0x0⟩,
   ⟨"TRC_REC", 0, 0x801c, 1, 0x0, 0x0, 0x0, 0x0, 0x0, 0xffffffff⟩,
   ⟨"TRC_CTXM_LO", 0, 0x8020, 1, 0x0, 0xffffffff, 0xffffffff, 0x0, 0x0, 0x0⟩,
   ⟨"TRC_CTXM_HI", 0, 0x8024, 1, 0x0, 0xffffffff, 0xffffffff, 0x0, 0x0, 0x0⟩,
   ⟨"TRC_MARK", 0, 0x8028, 1, 0x0, 0x0, 0x0, 0x0, 0x0, 0x0⟩,
   ⟨"SMP_CTRL", 0, 0x8040, 1, 0x0, 0x40000000, 0xc0ffffff, 0x0, 0x0, 0x0⟩,
   ⟨"SMP_PERIOD", 0, 0x8044, 1, 0x0, 0x186a0, 0xffffffff, 0x0, 0x0, 0x0⟩,
   ⟨"SMP_BASE_LO", 0, 0x8048, 1, 0x0, 0x0, 0xffffffe0, 0x0, 0x0, 0x0⟩,
   ⟨"SMP_BASE_HI", 0, 0x804c, 1, 0x0, 0x0, 0xffff, 0x0, 0x0, 0x0⟩,
   ⟨"SMP_SIZE", 0, 0x8050, 1, 0x0, 0x0, 0xfffff, 0x0, 0x0, 0x0⟩,
   ⟨"SMP_PROD", 0, 0x8054, 1, 0x0, 0x0, 0x0, 0x0, 0x0, 0x0⟩,
   ⟨"SMP_CONS", 0, 0x8058, 1, 0x0, 0x0, 0xffffffff, 0x0, 0x0, 0x0⟩,
   ⟨"SMP_LOST", 0, 0x805c, 1, 0x0, 0x0, 0x0, 0x0, 0x0, 0x0⟩,
   ⟨"HANG_CTRL", 0, 0x8060, 1, 0x0, 0x0, 0x60000000, 0x0, 0x0, 0x0⟩,
   ⟨"HANG_STAT", 0, 0x8064, 1, 0x0, 0x0, 0x0, 0x0, 0x0, 0x0⟩]

def regsObs1 : List RegDesc :=
  [⟨"HANG_BASE_LO", 0, 0x8068, 1, 0x0, 0x0, 0xfffff000, 0x0, 0x0, 0x0⟩,
   ⟨"HANG_BASE_HI", 0, 0x806c, 1, 0x0, 0x0, 0xffff, 0x0, 0x0, 0x0⟩,
   ⟨"HANG_SKIP", 0, 0x8070, 1, 0x0, 0x0, 0x0, 0x0, 0x0, 0xffffffff⟩,
   ⟨"STOP_CTRL", 0, 0x8080, 1, 0x0, 0x0, 0x60000000, 0x0, 0x0, 0x0⟩,
   ⟨"STOP_STAT", 0, 0x8084, 1, 0x0, 0x0, 0x0, 0x0, 0x0, 0x0⟩,
   ⟨"STOP_TSTOP", 0, 0x8088, 1, 0x0, 0x0, 0x0, 0x0, 0x0, 0x0⟩,
   ⟨"STOP_CUT", 0, 0x8090, 1, 0x0, 0x0, 0x0, 0x0, 0x0, 0x0⟩,
   ⟨"LCAP_SEL", 0, 0x8098, 1, 0x0, 0x0, 0xffff001f, 0x0, 0x0, 0x0⟩,
   ⟨"LCAP_CNT", 0, 0x80a0, 1, 0x0, 0x0, 0x0, 0x0, 0x0, 0x0⟩,
   ⟨"LCAP_E0", 0, 0x80a8, 1, 0x0, 0x0, 0x0, 0x0, 0x0, 0x0⟩,
   ⟨"WP_BASE_LOn", 0, 0x8100, 8, 0x20, 0x0, 0xffffffe0, 0x0, 0x0, 0x0⟩,
   ⟨"WP_BASE_HIn", 0, 0x8104, 8, 0x20, 0x0, 0xffff, 0x0, 0x0, 0x0⟩,
   ⟨"WP_CFGn", 0, 0x8108, 8, 0x20, 0x0, 0xfff7ff00, 0x0, 0x0, 0x0⟩,
   ⟨"WP_HITn", 0, 0x810c, 8, 0x20, 0x0, 0x0, 0x0, 0x0, 0xffffffff⟩]

def regsObs : List RegDesc := regsObs0 ++ regsObs1

def regsTest : List RegDesc :=
  [⟨"PERT_CTRL", 0, 0x9000, 1, 0x0, 0x0, 0x80ff01ff, 0x0, 0x0, 0x0⟩,
   ⟨"PERT_SEED", 0, 0x9004, 1, 0x0, 0x1, 0xffffffff, 0x0, 0x0, 0x0⟩,
   ⟨"PERT_CNT", 0, 0x9008, 1, 0x0, 0x0, 0x0, 0x0, 0x0, 0xffffffff⟩,
   ⟨"TST_CFG", 0, 0x9010, 1, 0x0, 0x0, 0x0, 0x1, 0x0, 0x0⟩,
   ⟨"TST_INJ", 0, 0x9014, 1, 0x0, 0x0, 0x0, 0x0, 0x0, 0x0⟩,
   ⟨"TST_FIFO", 0, 0x9018, 1, 0x0, 0x0, 0xffff, 0x0, 0x0, 0x0⟩,
   ⟨"TST_STAT", 0, 0x901c, 1, 0x0, 0x0, 0x0, 0x0, 0x0, 0x0⟩,
   ⟨"TST_SCRATCH", 0, 0x9020, 1, 0x0, 0x0, 0xffffffff, 0x0, 0x0, 0x0⟩]

def regsWindow : List RegDesc :=
  [⟨"WIN_SEL", 0, 0xa000, 1, 0x0, 0x0, 0x0, 0x0, 0x0, 0x0⟩,
   ⟨"WIN_STAT", 0, 0xa004, 1, 0x0, 0x0, 0x0, 0x0, 0x0, 0x0⟩]

def regsContext : List RegDesc :=
  [⟨"CTX_CTRL", 1, 0x0, 1, 0x0, 0x0, 0x1f00000, 0x0, 0x0, 0x0⟩,
   ⟨"CTX_CMD", 1, 0x4, 1, 0x0, 0x0, 0x0, 0x0, 0x0, 0x0⟩,
   ⟨"CTX_PART", 1, 0x8, 1, 0x0, 0x10000, 0xffff000f, 0x0, 0x0, 0x0⟩,
   ⟨"CTX_TPL_LO", 1, 0xc, 1, 0x0, 0x0, 0xfffff000, 0x0, 0x0, 0x0⟩,
   ⟨"CTX_TPL_HI", 1, 0x10, 1, 0x0, 0x0, 0xffff, 0x0, 0x0, 0x0⟩,
   ⟨"CTX_TPL_N", 1, 0x14, 1, 0x0, 0x0, 0x1fffff, 0x0, 0x0, 0x0⟩,
   ⟨"CTX_LT_LO", 1, 0x18, 1, 0x0, 0x0, 0xffffff00, 0x0, 0x0, 0x0⟩,
   ⟨"CTX_LT_HI", 1, 0x1c, 1, 0x0, 0x0, 0xffff, 0x0, 0x0, 0x0⟩,
   ⟨"CTX_LT_N", 1, 0x20, 1, 0x0, 0x40, 0x1ffff, 0x0, 0x0, 0x0⟩,
   ⟨"CTX_SAVE_LO", 1, 0x24, 1, 0x0, 0x0, 0xfffff000, 0x0, 0x0, 0x0⟩,
   ⟨"CTX_SAVE_HI", 1, 0x28, 1, 0x0, 0x0, 0xffff, 0x0, 0x0, 0x0⟩,
   ⟨"CTX_EST_LO", 1, 0x2c, 1, 0x0, 0x0, 0xffff0000, 0x0, 0x0, 0x0⟩,
   ⟨"CTX_EST_HI", 1, 0x30, 1, 0x0, 0x0, 0xffff, 0x0, 0x0, 0x0⟩,
   ⟨"CTX_SERIAL", 1, 0x34, 1, 0x0, 0x0, 0xfffff, 0x0, 0x0, 0x0⟩,
   ⟨"CTX_INFLIGHT", 1, 0x38, 1, 0x0, 0x0, 0x0, 0x0, 0x0, 0x0⟩,
   ⟨"CTX_PART_DENY", 1, 0x3c, 1, 0x0, 0x0, 0x0, 0x0, 0x0, 0xffffffff⟩]

def regsTemplate : List RegDesc :=
  [⟨"TPL_STATE", 2, 0x0, 1, 0x0, 0x0, 0x0, 0x0, 0x0, 0x0⟩,
   ⟨"TPL_BUSY", 2, 0x4, 1, 0x0, 0x0, 0x0, 0x0, 0x0, 0xffffffff⟩,
   ⟨"TPL_VSLOT_An", 2, 0x10, 4, 0x8, 0x0, 0x0, 0x0, 0x0, 0x0⟩,
   ⟨"TPL_VSLOT_Bn", 2, 0x14, 4, 0x8, 0x0, 0x0, 0x0, 0x0, 0x0⟩]

def regsShard : List RegDesc :=
  [⟨"SHD_CTRL", 3, 0x0, 1, 0x0, 0x0, 0x0, 0x0, 0x0, 0x0⟩,
   ⟨"SHD_OCC", 3, 0x4, 1, 0x0, 0x0, 0x0, 0x0, 0x0, 0x0⟩,
   ⟨"SHD_EDGE", 3, 0x8, 1, 0x0, 0x0, 0x0, 0x0, 0x0, 0x0⟩,
   ⟨"SHD_TOK_STALE", 3, 0xc, 1, 0x0, 0x0, 0x0, 0x0, 0x0, 0x0⟩,
   ⟨"SHD_TOK_DUP", 3, 0x10, 1, 0x0, 0x0, 0x0, 0x0, 0x0, 0x0⟩,
   ⟨"SHD_DEC_ZERO", 3, 0x14, 1, 0x0, 0x0, 0x0, 0x0, 0x0, 0x0⟩,
   ⟨"SHD_CANCEL_DROP", 3, 0x18, 1, 0x0, 0x0, 0x0, 0x0, 0x0, 0x0⟩,
   ⟨"SHD_XSTALL", 3, 0x1c, 1, 0x0, 0x0, 0x0, 0x0, 0x0, 0xffffffff⟩,
   ⟨"SLOT_SEL", 3, 0x20, 1, 0x0, 0x0, 0x0, 0x0, 0x0, 0x0⟩]

def regsCellar : List RegDesc :=
  [⟨"CEL_BASE_LO", 4, 0x0, 1, 0x0, 0x0, 0xfffff000, 0x0, 0x0, 0x0⟩,
   ⟨"CEL_BASE_HI", 4, 0x4, 1, 0x0, 0x0, 0xffff, 0x0, 0x0, 0x0⟩,
   ⟨"CEL_SIZE", 4, 0x8, 1, 0x0, 0x0, 0x1fffff, 0x0, 0x0, 0x0⟩,
   ⟨"CEL_CTRL", 4, 0xc, 1, 0x0, 0x2000, 0xffffff00, 0x0, 0x0, 0x0⟩,
   ⟨"CEL_LIMIT", 4, 0x10, 1, 0x0, 0x10000000, 0x1fffffff, 0x0, 0x0, 0x0⟩,
   ⟨"CEL_OCC", 4, 0x14, 1, 0x0, 0x0, 0x0, 0x0, 0x0, 0x0⟩,
   ⟨"CEL_RDY", 4, 0x18, 1, 0x0, 0x0, 0x0, 0x0, 0x0, 0x0⟩,
   ⟨"CEL_SPILL", 4, 0x1c, 1, 0x0, 0x0, 0x0, 0x0, 0x0, 0xffffffff⟩,
   ⟨"CEL_REFILL", 4, 0x20, 1, 0x0, 0x0, 0x0, 0x0, 0x0, 0xffffffff⟩,
   ⟨"CEL_LOST", 4, 0x24, 1, 0x0, 0x0, 0x0, 0x0, 0x0, 0x0⟩,
   ⟨"CEL_DROP", 4, 0x28, 1, 0x0, 0x0, 0x0, 0x0, 0x0, 0x0⟩]

def regsStation : List RegDesc :=
  [⟨"STN_CTRL", 5, 0x0, 1, 0x0, 0x0, 0x0, 0x0, 0x0, 0x0⟩,
   ⟨"STN_AREA", 5, 0x4, 1, 0x0, 0x0, 0x3f7f, 0x0, 0x0, 0x0⟩,
   ⟨"STN_STEEP_SZ", 5, 0x8, 1, 0x0, 0x0, 0x3f, 0x0, 0x0, 0x0⟩,
   ⟨"STN_DISP", 5, 0xc, 1, 0x0, 0x0, 0x0, 0x0, 0x0, 0xffffffff⟩,
   ⟨"STN_STEEP_HIT", 5, 0x10, 1, 0x0, 0x0, 0x0, 0x0, 0x0, 0xffffffff⟩,
   ⟨"STN_STEEP_MISS", 5, 0x14, 1, 0x0, 0x0, 0x0, 0x0, 0x0, 0xffffffff⟩,
   ⟨"STN_STEEP_SKIP", 5, 0x18, 1, 0x0, 0x0, 0x0, 0x0, 0x0, 0xffffffff⟩,
   ⟨"STN_PREEMPT", 5, 0x1c, 1, 0x0, 0x0, 0x0, 0x0, 0x0, 0xffffffff⟩,
   ⟨"STN_TIMEOUT", 5, 0x20, 1, 0x0, 0x0, 0x0, 0x0, 0x0, 0xffffffff⟩,
   ⟨"STN_ENG_SEL", 5, 0x24, 1, 0x0, 0x0, 0x0, 0x0, 0x0, 0x0⟩,
   ⟨"STN_ENG", 5, 0x28, 1, 0x0, 0x0, 0x0, 0x0, 0x0, 0x0⟩,
   ⟨"STN_CTXM_LO", 5, 0x2c, 1, 0x0, 0xffffffff, 0xffffffff, 0x0, 0x0, 0x0⟩,
   ⟨"STN_CTXM_HI", 5, 0x30, 1, 0x0, 0xffffffff, 0xffffffff, 0x0, 0x0, 0x0⟩,
   ⟨"STN_SWST", 5, 0x34, 1, 0x0, 0x0, 0x0, 0x0, 0x0, 0x0⟩]

def regsFoldW : List RegDesc :=
  [⟨"FLDW_TBL_LO", 6, 0x0, 1, 0x0, 0x0, 0xffffffe0, 0x0, 0x0, 0x0⟩,
   ⟨"FLDW_TBL_HI", 6, 0x4, 1, 0x0, 0x0, 0xffff, 0x0, 0x0, 0x0⟩,
   ⟨"FLDW_TBL_N", 6, 0x8, 1, 0x0, 0x0, 0x1fffff, 0x0, 0x0, 0x0⟩,
   ⟨"FLDW_WAIT_LO", 6, 0xc, 1, 0x0, 0x0, 0xfffff000, 0x0, 0x0, 0x0⟩,
   ⟨"FLDW_WAIT_HI", 6, 0x10, 1, 0x0, 0x0, 0xffff, 0x0, 0x0, 0x0⟩,
   ⟨"FLDW_WAIT_N", 6, 0x14, 1, 0x0, 0x0, 0xffffff, 0x0, 0x0, 0x0⟩,
   ⟨"FLDW_ROUTED", 6, 0x18, 1, 0x0, 0x0, 0x0, 0x0, 0x0, 0xffffffff⟩,
   ⟨"FLDW_ACCEPT", 6, 0x1c, 1, 0x0, 0x0, 0x0, 0x0, 0x0, 0xffffffff⟩,
   ⟨"FLDW_WAITING", 6, 0x20, 1, 0x0, 0x0, 0x0, 0x0, 0x0, 0x0⟩,
   ⟨"FLDW_REFUSED", 6, 0x24, 1, 0x0, 0x0, 0x0, 0x0, 0x0, 0x0⟩,
   ⟨"FLDW_DUP", 6, 0x28, 1, 0x0, 0x0, 0x0, 0x0, 0x0, 0x0⟩,
   ⟨"FLDW_OVER", 6, 0x2c, 1, 0x0, 0x0, 0x0, 0x0, 0x0, 0x0⟩,
   ⟨"FLDW_LOST", 6, 0x30, 1, 0x0, 0x0, 0x0, 0x0, 0x0, 0x0⟩,
   ⟨"FLDW_CANCEL", 6, 0x34, 1, 0x0, 0x0, 0x0, 0x0, 0x0, 0x0⟩,
   ⟨"FLDW_FAULT", 6, 0x38, 1, 0x0, 0x0, 0x0, 0x0, 0x0, 0x0⟩,
   ⟨"FLDW_SEL", 6, 0x3c, 1, 0x0, 0x0, 0x0, 0x0, 0x0, 0x0⟩]

def regsBarrier : List RegDesc :=
  [⟨"BAR_CTRL", 8, 0x0, 1, 0x0, 0x0, 0xfc00000, 0x0, 0x0, 0x0⟩,
   ⟨"BAR_FE", 8, 0x4, 1, 0x0, 0x0, 0xff, 0x0, 0x0, 0x0⟩,
   ⟨"BAR_GEN", 8, 0x8, 1, 0x0, 0x0, 0x0, 0x0, 0x0, 0x0⟩,
   ⟨"BAR_CNT", 8, 0xc, 1, 0x0, 0x0, 0x0, 0x0, 0x0, 0x0⟩,
   ⟨"BAR_MASKk", 8, 0x10, 4, 0x4, 0x0, 0xffffffff, 0x0, 0x0, 0x0⟩,
   ⟨"BAR_REL", 8, 0x20, 1, 0x0, 0x0, 0x0, 0x0, 0x0, 0x0⟩,
   ⟨"BAR_ERR", 8, 0x28, 1, 0x0, 0x0, 0x0, 0x0, 0x0, 0xffffffff⟩]

def regsRoute : List RegDesc :=
  [⟨"Q_CTRL", 9, 0x0, 1, 0x0, 0x0, 0x0, 0x0, 0x0, 0x0⟩,
   ⟨"RT_CFG", 9, 0x4, 1, 0x0, 0x0, 0xfc0fffff, 0x0, 0x0, 0x0⟩,
   ⟨"RT_HBASE", 9, 0x8, 1, 0x0, 0x0, 0xffff, 0x0, 0x0, 0x0⟩,
   ⟨"RT_DESTj", 9, 0xc, 4, 0x4, 0x0, 0xffffffff, 0x0, 0x0, 0x0⟩,
   ⟨"RT_MSG", 9, 0x20, 1, 0x0, 0x0, 0x0, 0x0, 0x0, 0x0⟩,
   ⟨"RT_STALL", 9, 0x24, 1, 0x0, 0x0, 0x0, 0x0, 0x0, 0xffffffff⟩,
   ⟨"RT_CLOSED", 9, 0x28, 1, 0x0, 0x0, 0x0, 0x0, 0x0, 0x0⟩,
   ⟨"RT_REFUSED", 9, 0x2c, 1, 0x0, 0x0, 0x0, 0x0, 0x0, 0x0⟩]

def regsGroup : List RegDesc :=
  [⟨"GRP_CTRL", 10, 0x0, 1, 0x0, 0x0, 0x0, 0x0, 0x0, 0x0⟩,
   ⟨"GRP_CFG", 10, 0x4, 1, 0x0, 0x0, 0xffff07ff, 0x0, 0x0, 0x0⟩,
   ⟨"GRP_STAT", 10, 0x8, 1, 0x0, 0x0, 0x0, 0x0, 0x0, 0x0⟩]

def regsLanding : List RegDesc :=
  [⟨"LD_CFG", 11, 0x4, 1, 0x0, 0x0, 0xfffff000, 0x0, 0x0, 0x0⟩,
   ⟨"LD_RING", 11, 0x8, 1, 0x0, 0x0, 0x3ffe00, 0x0, 0x0, 0x0⟩,
   ⟨"LD_PROD", 11, 0xc, 1, 0x0, 0x0, 0x0, 0x0, 0x0, 0x0⟩,
   ⟨"LD_CONS", 11, 0x10, 1, 0x0, 0x0, 0x0, 0x0, 0x0, 0x0⟩,
   ⟨"LD_STAT", 11, 0x14, 1, 0x0, 0x0, 0x0, 0x0, 0x0, 0x0⟩,
   ⟨"LD_CREDIT", 11, 0x18, 1, 0x0, 0x0, 0x0, 0x0, 0x0, 0x0⟩,
   ⟨"LD_MSG", 11, 0x20, 1, 0x0, 0x0, 0x0, 0x0, 0x0, 0x0⟩,
   ⟨"LD_DISCARD", 11, 0x24, 1, 0x0, 0x0, 0x0, 0x0, 0x0, 0x0⟩,
   ⟨"LD_LOST", 11, 0x28, 1, 0x0, 0x0, 0x0, 0x0, 0x0, 0x0⟩,
   ⟨"LD_CONS_ERR", 11, 0x2c, 1, 0x0, 0x0, 0x0, 0x0, 0x0, 0x0⟩]

/-- The rows of the region in which a register lies. -/
def regRegion (k : RegKey) : List RegDesc :=
  match k.ty with
  | 0 =>
    match k.off / 0x1000 with
    | 0 => regsGlobal
    | 1 => regsFrontEnd
    | 2 => regsHub
    | 3 => regsDispatch
    | 4 => regsFold
    | 5 => regsSync
    | 6 => regsChannel
    | 7 => regsFabric
    | 8 => regsObs
    | 9 => regsTest
    | 10 => regsWindow
    | _ => []
  | 1 => regsContext
  | 2 => regsTemplate
  | 3 => regsShard
  | 4 => regsCellar
  | 5 => regsStation
  | 6 => regsFoldW
  | 8 => regsBarrier
  | 9 => regsRoute
  | 10 => regsGroup
  | 11 => regsLanding
  | _ => []

/-- Whether a row of the map describes the register at `k`. PMC_CFG0 to PMC_CFG7 and PMC_FLT0 to PMC_FLT7 of a unit
follow each other in 0x40 bytes (Table 14-10). -/
def RegDesc.covers (d : RegDesc) (k : RegKey) : Bool :=
  d.ty == k.ty && (d.off == k.off ||
    (decide (0 < d.stride) && decide (d.off ≤ k.off) && (k.off - d.off) % d.stride == 0 &&
      decide ((k.off - d.off) / d.stride < d.n)))

/-- The row of the map for a register, if the bank holds it. -/
def regDesc (k : RegKey) : Option RegDesc :=
  if k.ty = 0 ∧ 0x8200 ≤ k.off ∧ k.off < 0x8800 then
    if k.off % 4 = 0 then some ⟨"PMC", 0, k.off, 1, 0, 0, if k.off % 0x40 < 0x20 then 0xFFFFFE00 else 0xFFFFFFFF, 0, 0, 0⟩
    else none
  else (regRegion k).find? (·.covers k)

/-- A register's value after reset. -/
def regReset (k : RegKey) : W32 :=
  match regDesc k with
  | some d => BitVec.ofNat 32 d.reset
  | none => 0

end Sys2Proof.Machine
end

