-- ==== Sys2Proof/Machine/Ops.lean ====
section
/-! DEFINITION. The operations that the commands share: registers and counters, enables, memory, ports, interrupts, errors,
observation, and the lookups of launches, slots and templates. -/

namespace Sys2Proof.Machine

/-- What a meaning answers. -/
abbrev Res := Host.Outcome State Fault Refusal

/-! ## Sizes of the variant (Table 00-2, Table 00-3) -/

def State.shards (s : State) : Nat := match s.variant with | .g4 => 16 | .g4e => 8
def State.nQueues (s : State) : Nat := match s.variant with | .g4 => 65536 | .g4e => 32768
def State.nObjs (s : State) : Nat := match s.variant with | .g4 => 262144 | .g4e => 131072
def State.nTrees (s : State) : Nat := match s.variant with | .g4 => 4096 | .g4e => 2048
def State.dirSize (s : State) : Nat := match s.variant with | .g4 => 65536 | .g4e => 32768
def State.poolSize (s : State) : Nat := match s.variant with | .g4 => 65536 | .g4e => 32768
def State.grantRate (s : State) : Nat := match s.variant with | .g4 => 16 | .g4e => 8
def State.isG4 (s : State) : Bool := s.variant == .g4

/-! ## Whether the block acts -/

/-- Neither fatal nor stopped (R368, R406). -/
def State.live (s : State) : Bool := !s.glb.fatal && !s.glb.stopped

/-- The units act: INIT_DONE and GBL_CTRL ENABLE (R357, R358), and the block is neither fatal nor stopped. -/
def State.running (s : State) : Bool := s.glb.initDone && s.glb.enable && s.live

/-- An event of the block's units: it takes place while the block runs, and leaves the state as it is otherwise. -/
def whenRunning (f : State → State) (s : State) : State := if s.running then f s else s

/-- `s` changed by `f` if `c` holds. -/
def ifThen (c : Bool) (f : State → State) (s : State) : State := if c then f s else s

/-- The value, if there is one, put to `f`. -/
def withSome {α : Type} (o : Option α) (s : State) (f : α → State) : State :=
  match o with
  | some a => f a
  | none => s

/-- An engine reset runs on an engine (R353). -/
def State.engResetting (s : State) (e : Nat) : Bool := s.glb.rstBusy && s.glb.rstEng == e

/-! ## Registers -/

def State.reg (s : State) (k : RegKey) : W32 := Tab.get (regReset k) s.regs k

def State.setReg (s : State) (k : RegKey) (v : W32) : State := { s with regs := Tab.put s.regs k v }

/-- Field [hi:lo] of a register. -/
def State.fld (s : State) (k : RegKey) (hi lo : Nat) : Nat := bits (s.reg k) hi lo

def State.flag (s : State) (k : RegKey) (i : Nat) : Bool := bit (s.reg k) i

def State.setFld (s : State) (k : RegKey) (hi lo v : Nat) : State := s.setReg k (withBits (s.reg k) hi lo v)

/-- A count that saturates. -/
def raise32 (n : Nat) (w : W32) : W32 := BitVec.ofNat 32 (countTo 32 (w.toNat + n))

/-- A count in field [hi:lo] that saturates. -/
def raiseFld (hi lo n : Nat) (w : W32) : W32 := withBits w hi lo (countTo (hi + 1 - lo) (bits w hi lo + n))

/-- The update `f` of a counter that holds `was`, kept with the value before it for a read that clears in the same hub cycle
(R13). -/
def noteUpdOf (k : RegKey) (was : W32) (f : W32 → W32) (s : State) : State :=
  let u := match Tab.get none s.cyc.upd k with
    | some (old, part) => (old, f part)
    | none => (was, f 0)
  { s with cyc := { s.cyc with upd := Tab.put s.cyc.upd k (some u) } }

def noteUpd (k : RegKey) (f : W32 → W32) (s : State) : State := noteUpdOf k (s.reg k) f s

/-- The bits of `m` of a register, set in the present hub cycle: a write that clears them in it leaves them set (R13). -/
def noteSet (k : RegKey) (m : Nat) (s : State) : State :=
  { s with cyc := { s.cyc with sets := Tab.put s.cyc.sets k (Tab.get 0 s.cyc.sets k ||| BitVec.ofNat 32 m) } }

/-- A register's count raised by `n`. -/
def bump (k : RegKey) (n : Nat) (s : State) : State := (noteUpd k (raise32 n) s).setReg k (raise32 n (s.reg k))

/-- A 16-bit count in field [hi:lo] raised by `n`. -/
def bumpFld (k : RegKey) (hi lo n : Nat) (s : State) : State :=
  (noteUpd k (raiseFld hi lo n) s).setReg k (raiseFld hi lo n (s.reg k))

/-- A count that wraps at 2^32 (R71, R153, R331). -/
def bumpWrap (k : RegKey) (n : Nat) (s : State) : State :=
  (noteUpd k (· + BitVec.ofNat 32 n) s).setReg k (s.reg k + BitVec.ofNat 32 n)

/-- The bits of `m` set in a register. -/
def setBits (k : RegKey) (m : Nat) (s : State) : State := (noteSet k m s).setReg k (s.reg k ||| BitVec.ofNat 32 m)

/-- A 48-bit address held in a LO and a HI register. -/
def State.addrOf (s : State) (lo hi : RegKey) : Nat := (s.reg lo).toNat + (s.reg hi).toNat % 2 ^ 16 * 2 ^ 32

/-! ## Enables (R359) -/

def UnitEn.off : UnitEn := ⟨false, false, false, false⟩

def State.unit (s : State) (u : UnitId) : UnitEn := Tab.get UnitEn.off s.en u
def State.setUnit (s : State) (u : UnitId) (e : UnitEn) : State := { s with en := Tab.put s.en u e }
def State.enabled (s : State) (u : UnitId) : Bool := (s.unit u).enabled
/-- Enabled and not draining. -/
def State.active (s : State) (u : UnitId) : Bool := (s.unit u).enabled && !(s.unit u).draining

/-! ## Free values -/

/-- An open word, and the state with the counter of free values advanced (log entry 6). -/
def openWord (s : State) : Word × State := (Config.openWord s.free, { s with free := s.free + 1 })

/-! ## Ports and interrupts -/

def emit (o : Out) (s : State) : State := { s with out := s.out ++ [o] }

/-- An MSI-X message of a vector; the requests for one vector that fall in one hub cycle are one message (R421). -/
def sendMsix (v : Nat) (s : State) : State :=
  if s.cyc.vecs.contains v then s else emit (.msix v) { s with cyc := { s.cyc with vecs := s.cyc.vecs ++ [v] } }

/-- An MSI-X request (R339, R368, R406). -/
def msix (v : Nat) (s : State) : State := if s.glb.initDone && s.live then sendMsix v s else s

/-- The vector of a cause (Table 15-8). -/
def State.causeVec (s : State) (c : Nat) : Nat :=
  if c < 2 then s.fld K.IRQ_VEC 13 8 else if c = 2 then s.fld K.IRQ_VEC 21 16 else s.fld K.IRQ_VEC 29 24

/-- A request of the error vector under the 1 µs holdoff (R367). -/
def errVector (s : State) : State :=
  if s.glb.initDone && s.live then
    match s.glb.errHoldoff with
    | none => sendMsix (s.causeVec 0) { s with glb := { s.glb with errHoldoff := some (s.tb + 1000) } }
    | some _ => { s with glb := { s.glb with errMerged := true } }
  else s

/-- Cause `c` occurs (R420): its bit is set, and its vector requested when its EN bit is 1. -/
def irqCause (c : Nat) (s : State) : State :=
  let s1 := setBits K.IRQ_CAUSE (2 ^ c) s
  if s1.flag K.IRQ_EN c then (if c = 0 then errVector s1 else msix (s1.causeVec c) s1) else s1

/-! ## Errors (R366) -/

def State.chipId (s : State) : Nat := if s.isG4 then s.fld K.FAB_CFG 31 22 else 0

/-- A record of Table 13-2; `cls` 1 CORRECTED, 2 CONTAINED, 3 BLOCK_FATAL. -/
def errRecord (cls unit code : Nat) (ctx serial : Option Nat) (detail : Word) (stamp : Nat) : Rec4 :=
  ⟨word [(63, 62, cls), (61, 56, unit), (55, 48, code), (47, 47, b2n ctx.isSome), (46, 41, ctx.getD 0),
      (40, 40, b2n serial.isSome), (39, 20, serial.getD 0)],
   BitVec.ofNat 64 stamp, detail, 0⟩

/-- The unit of an error record. -/
def recUnit (r : Rec4) : Nat := bits r.w0 61 56

/-- The log with a record behind those of earlier hub cycles and, among the `k` of the present one, in order of UNIT (R366). -/
def logInsert (k : Nat) (r : Rec4) (l : List Rec4) : List Rec4 :=
  l.take (l.length - k) ++ insertBy (fun a b => decide (recUnit a < recUnit b)) r (l.drop (l.length - k))

/-- A record enters the log of 256, over the oldest one when it is full (R366). -/
def logPush (r : Rec4) (s : State) : State :=
  let s1 := { s with cyc := { s.cyc with errs := s.cyc.errs + 1 } }
  if s.glb.errLog.length < 256 then { s1 with glb := { s.glb with errLog := logInsert s.cyc.errs r s.glb.errLog } }
  else bump K.ERR_LOST 1 { s1 with glb := { s.glb with errLog := logInsert s.cyc.errs r (s.glb.errLog.drop 1) } }

/-- A CORRECTED error: counted, and logged when LOG_CORR is 1. -/
def errCorrected (unit : Nat) (detail : Word) (s : State) : State :=
  let s1 := bump K.ERR_CORR 1 s
  if s1.flag K.ERR_CFG 31 then logPush (errRecord 1 unit 0x01 none none detail s1.tb) s1 else s1

/-- A CONTAINED error: counted, logged, cause ERR (R366, R367). That a report naming a launch fails it is `reportLaunch`. -/
def errContained (unit code : Nat) (ctx serial : Option Nat) (detail : Word) (s : State) : State :=
  irqCause 0 (logPush (errRecord 2 unit code ctx serial detail s.tb) (bump K.ERR_CONT 1 s))

/-- An audit mark: classes of AUD_UNC as a mask, contexts as a mask of 64 bits, and the CODE of the event (R380, R381). -/
def auditMark (classes ctxs code : Nat) (s : State) : State :=
  let s1 := setBits K.AUD_CTX_HI (ctxs / 2 ^ 32 % 2 ^ 32) (setBits K.AUD_CTX_LO (ctxs % 2 ^ 32) (setBits K.AUD_UNC classes s))
  if s1.fld K.AUD_CAUSE 7 0 = 0 then s1.setFld K.AUD_CAUSE 7 0 code else s1

/-- Every context. -/
def allCtxs : Nat := 2 ^ 64 - 1

/-- BLOCK_FATAL (R368): the report, the record, all accounts uncertain (Table 13-9), every unit stopped, and the FATAL
request, which replaces a merged one. -/
def blockFatal (unit code : Nat) (detail : Word) (s : State) : State :=
  let r := errRecord 3 unit code none none detail s.tb
  let s1 := auditMark 0x3FF allCtxs code (logPush r s)
  let s2 := setBits K.IRQ_CAUSE 2 s1
  let s3 := if s2.glb.initDone && s2.live && s2.flag K.IRQ_EN 1 then sendMsix (s2.causeVec 1) s2 else s2
  { s3 with glb := { s3.glb with fatal := true, fatalCode := code, fatalUnit := unit, fatalRec := some r,
                                 errMerged := false, errHoldoff := none } }

/-! ## Unit codes of GBL_STAT BIST_UNIT (Table 12-13) -/

def uShard (k : Nat) : Nat := k + 1
def uDispatch : Nat := 0x11
def uFold (k : Nat) : Nat := 0x12 + k
def uSync : Nat := 0x16
def uChannel : Nat := 0x17
def uFrontEnd : Nat := 0x18
def uFabric : Nat := 0x19
def uObs : Nat := 0x1A
def uTplCache : Nat := 0x1B

/-! ## Counters and trace (14_observation.md) -/

/-- `n` occurrences of an event in the present hub cycle (R383). -/
def pmc (unit code : Nat) (ctx : Option Nat) (n : Nat) (s : State) : State :=
  { s with obs := { s.obs with now := s.obs.now ++ [⟨unit, code, ctx, none, none, n⟩] } }

/-- An occurrence whose task carries LAYER_ID and OP_ID (R394). -/
def pmcTask (unit code ctx layer op : Nat) (s : State) : State :=
  { s with obs := { s.obs with now := s.obs.now ++ [⟨unit, code, some ctx, some layer, some op, 1⟩] } }

def State.traceLevel (s : State) : Nat := s.fld K.TRC_CTRL 31 30

/-- Whether a record of a context is traced (R395). -/
def State.traceCtx (s : State) : Option Nat → Bool
  | none => true
  | some c => if c < 32 then s.flag K.TRC_CTXM_LO c else s.flag K.TRC_CTXM_HI (c - 32)

/-- The sequence number of a trace record, and the record with another one. -/
def recSeq (r : Rec4) : Word := r.w0 &&& 0xFFFFFF#64
def withSeq (r : Rec4) (q : Word) : Rec4 := { r with w0 := (r.w0 &&& ~~~0xFFFFFF#64) ||| q }

/-- The records of one hub cycle with their units, a record of unit `u` among them in ascending unit order (R400). -/
def unitInsert (u : Nat) (r : Rec4) : List (Nat × Rec4) → List (Nat × Rec4)
  | [] => [(u, r)]
  | e :: t => if u < e.1 then (u, r) :: e :: t else e :: unitInsert u r t

/-- The FIFO with a record behind those of earlier hub cycles and, among those of the present one, of the units `us`, in unit
order, their sequence numbers rising (R399, R400). -/
def traceInsert (us : List Nat) (u : Nat) (r : Rec4) (l : List Rec4) : List Rec4 :=
  let k := l.length - us.length
  let now := l.drop k
  let seqs := now.map recSeq ++ [recSeq r]
  l.take k ++ (List.zip (unitInsert u r (List.zip (us.drop (us.length - l.length)) now)) seqs).map fun x => withSeq x.1.2 x.2

/-- A trace record of unit `u` of Table 14-1 enters the FIFO of 8,192, over the oldest one when it is full (R398, R400,
Table 14-4). -/
def tracePush (u ty : Nat) (ctx : Option Nat) (src : Nat) (p0 p1 : Word) (s : State) : State :=
  let r : Rec4 := ⟨word [(63, 58, ty), (57, 48, s.chipId), (47, 42, ctx.getD 0), (41, 41, b2n ctx.isSome), (40, 25, src),
      (23, 0, s.obs.traceSeq)], BitVec.ofNat 64 s.tb, p0, p1⟩
  let o : Obs := { s.obs with traceSeq := (s.obs.traceSeq + 1) % 2 ^ 24 }
  let us := s.cyc.trcs
  let s1 := { s with cyc := { s.cyc with trcs := insertBy (fun a b => decide (a < b)) u us } }
  if o.trace.length < 8192 then pmc 23 0x50 none 1 { s1 with obs := { o with trace := traceInsert us u r o.trace } }
  else
    pmc 23 0x51 none 1 (pmc 23 0x50 none 1 (bump K.TRC_LOST 1
      { s1 with obs := { o with trace := traceInsert us u r (o.trace.drop 1), traceLost := o.traceLost + 1 } }))

/-- A record lost before the FIFO (R396, R397). Its sequence number stays unused, which shows as a gap (R399; DEDUCED, log
entry 81). -/
def traceLose (s : State) : State :=
  pmc 23 0x51 none 1 (bump K.TRC_LOST 1
    { s with obs := { s.obs with traceLost := s.obs.traceLost + 1, traceSeq := (s.obs.traceSeq + 1) % 2 ^ 24 } })

/-- An L1 record (Table 14-3), under the budget of R396. -/
def trace1 (u ty : Nat) (ctx : Option Nat) (src : Nat) (p0 p1 : Word) (s : State) : State :=
  if s.glb.initDone && s.live && decide (1 ≤ s.traceLevel) && s.traceCtx ctx then
    if 0 < s.obs.budget then tracePush u ty ctx src p0 p1 { s with obs := { s.obs with budget := s.obs.budget - 1 } }
    else traceLose s
  else s

/-- An L2 record, of which the unit takes 4 per hub cycle (R397). -/
def trace2 (u ty : Nat) (ctx : Option Nat) (src : Nat) (p0 p1 : Word) (s : State) : State :=
  if s.glb.initDone && s.live && decide (2 ≤ s.traceLevel) && s.traceCtx ctx then
    if s.obs.l2Now < 4 then tracePush u ty ctx src p0 p1 { s with obs := { s.obs with l2Now := s.obs.l2Now + 1 } }
    else traceLose s
  else s

/-- L2 back-pressure (R397): with BP 1, a unit holds the event that forms an L2 record while the FIFO stands at BP_HWM
or the hub cycle's intake is used. -/
def State.traceHolds (s : State) : Bool :=
  decide (2 ≤ s.traceLevel) && s.flag K.TRC_CTRL 29 && s.glb.initDone &&
    (decide (s.fld K.TRC_CTRL 28 16 ≤ s.obs.trace.length) || decide (4 ≤ s.obs.l2Now))

/-- As `traceHolds`, for an event of a context: one that is not traced forms no record to hold. -/
def State.traceHoldsFor (s : State) (ctx : Nat) : Bool := s.traceHolds && s.traceCtx (some ctx)

/-- "Task" in P0 (Table 14-5). -/
def taskWord (layer op handle : Nat) : Word := word [(63, 48, layer), (47, 32, op), (31, 0, handle)]

/-- One step of the perturbation generator, taps 32, 22, 2, 1 (R408). -/
def lfsrNext (x : Nat) : Nat :=
  let w : W32 := BitVec.ofNat 32 x
  let b := bit w 31 ^^ bit w 21 ^^ bit w 1 ^^ bit w 0
  (x * 2 + b2n b) % 2 ^ 32

/-- An event of a site (R408): the draw, the generator's next state, and PERT_CNT when the event is delayed or diverted.
Answers by how many hub cycles. The delay of an event that is a command is the command's place in the queue (log entry 10). -/
def perturbBy (site : Nat) (s : State) : Nat × State :=
  if s.flag K.PERT_CTRL 31 && s.flag K.PERT_CTRL site then
    let d := Config.pertDraw s.obs.pert (s.fld K.PERT_CTRL 23 16) % (s.fld K.PERT_CTRL 23 16 + 1)
    let s1 := { s with obs := { s.obs with pert := lfsrNext s.obs.pert } }
    if d = 0 then (0, s1) else (d, bump K.PERT_CNT 1 s1)
  else (0, s)

/-- As `perturbBy`: whether the event is delayed or diverted. -/
def perturb (site : Nat) (s : State) : Bool × State :=
  let r := perturbBy site s
  (r.1 != 0, r.2)

/-- As `perturb`, where only the count and the generator matter. -/
def perturbed (site : Nat) (s : State) : State := (perturb site s).2

/-- An item issued onto an internal link, and one received from it (Table 14-9). -/
def linkSent (l n : Nat) (s : State) : State :=
  let k := Tab.get ⟨0, 0, []⟩ s.obs.links l
  { s with obs := { s.obs with links := Tab.put s.obs.links l { k with sent := (k.sent + n) % 2 ^ 32 } } }

def linkRecv (l n : Nat) (s : State) : State :=
  let k := Tab.get ⟨0, 0, []⟩ s.obs.links l
  { s with obs := { s.obs with links := Tab.put s.obs.links l { k with recv := (k.recv + n) % 2 ^ 32 } } }

/-- Records of a port FIFO: written and read in the step that takes them (Table 14-9, links 0x0 to 0x6). -/
def linkPassN (l n : Nat) (s : State) : State := linkRecv l n (linkSent l n s)

def linkPass (l : Nat) (s : State) : State := linkPassN l 1 s

/-- A record of `ws` written into an inbound FIFO after the cut: it is kept in the FIFO, flagged AFTER_CUT (R404). KIND is
that of Table 14-9. -/
def lateRecord (l kind : Nat) (ws : List Word) (s : State) : State :=
  let k := Tab.get ⟨0, 0, []⟩ s.obs.links l
  { s with obs := { s.obs with links := Tab.put s.obs.links l { k with items := k.items ++ [(kind + 256, 8 * ws.length, ws)] } } }

/-- A record that arrives at an inbound FIFO: taken while the block runs, kept unread after the cut. -/
def portTake (l kind : Nat) (ws : List Word) (f : State → State) (s : State) : State :=
  if s.glb.stopped then lateRecord l kind ws s else whenRunning f s

/-- A response of the memory port: after the cut it stays in the FIFO, flagged AFTER_CUT. Its layout is left open (FREE VALUE, log
entry 107). -/
def memTake (f : State → State) (s : State) : State :=
  if s.glb.stopped then
    let (x, s1) := openWord s
    lateRecord 0x6000 6 [x] s1
  else whenRunning f s

/-! ### Inbound lanes (R340, R341) -/

/-- What waits in lane T, S or M (0, 1 or 2) of a requester. -/
def State.lane (s : State) (lane req : Nat) : List LaneRec := Tab.get [] s.lanes (lane, req)

/-- The depth of a lane (Table 12-3). -/
def laneDepth (lane : Nat) : Nat := if lane = 0 then 16 else 8

/-- A record at the end of its lane. A requester whose lane is full holds no credit and cannot send: nothing is taken (DESIGN
CHOICE, log entry 91). -/
def laneWait (lane req ty : Nat) (r : Rec4) (s : State) : State :=
  let q := s.lane lane req
  if q.length < laneDepth lane then
    linkSent (lane * 0x1000 + req) 1 { s with lanes := Tab.put s.lanes (lane, req) (q ++ [⟨ty, r⟩]) }
  else s

/-- The words of a record on a lane: a consume request has two (R283). -/
def laneWords (ty : Nat) (r : Rec4) : List Word := if ty = 6 then [r.w0, r.w1] else words4 r

/-- A record of type `ty` on an inbound lane: the hub takes it with `f`, unless the lane holds it or a record ahead of it. -/
def laneTake (lane req ty : Nat) (r : Rec4) (held : State → Bool) (f : State → State) (s : State) : State :=
  portTake (lane * 0x1000 + req) 6 (laneWords ty r)
    (fun s => if (s.lane lane req).isEmpty && !held s then linkPass (lane * 0x1000 + req) (f s) else laneWait lane req ty r s) s

/-- A record of type `ty` on lane O to a requester: a global engine, or 1,024 + core for a control processor (R340,
Table 13-3). -/
def sendLane (req ty : Nat) (r : Rec4) (s : State) : State := emit (.lane req ty r) (linkPass (0x5000 + req) s)

/-- The light set (R393): 0 LT_DISP, 1 LT_TOKEN, 2 LT_BUSY, 3 LT_LAUNCH of a context. -/
def light (ctx k n : Nat) (s : State) : State :=
  if s.glb.initDone then
    { s with obs := { s.obs with lt := Tab.put s.obs.lt (ctx, k) (countTo 64 (Tab.get 0 s.obs.lt (ctx, k) + n)) } }
  else s

/-- An access that watchpoints compare as the hub cycle ends (R401, R402). -/
def noteAcc (a : Access) (s : State) : State := { s with cyc := { s.cyc with accs := s.cyc.accs ++ [a] } }

/-! ## Memory (09_memory_model.md) -/

/-- What an unlisted address reads as (DESIGN CHOICE, unsafe: log entry 3). -/
def memFill : Byte := 0

def Mem.get : List Host.Cell → Nat → Byte
  | [], _ => memFill
  | (k, v) :: t, a => if k = a then v else Mem.get t a

/-- A write of one byte that keeps the canonical form. -/
def Mem.put : List Host.Cell → Nat → Byte → List Host.Cell
  | [], a, b => if b = memFill then [] else [(a, b)]
  | (k, v) :: t, a, b =>
    if a < k then (if b = memFill then (k, v) :: t else (a, b) :: (k, v) :: t)
    else if a = k then (if b = memFill then t else (a, b) :: t)
    else (k, v) :: Mem.put t a b

/-- The canonical form: addresses strictly rising, above `lo`, and no entry equal to what an unlisted address reads as. -/
def Mem.wfFrom : Nat → List Host.Cell → Bool
  | _, [] => true
  | lo, (k, v) :: t => decide (lo ≤ k) && decide (v ≠ memFill) && Mem.wfFrom (k + 1) t

def Mem.wf (m : List Host.Cell) : Bool := Mem.wfFrom 0 m

/-- A write of bytes at consecutive addresses, in ascending order (R256). -/
def Mem.putBytes : List Host.Cell → Nat → List Byte → List Host.Cell
  | m, _, [] => m
  | m, a, b :: t => Mem.putBytes (Mem.put m a b) (a + 1) t

/-- Reserved ranges of Table 09-1. -/
def reservedAddr (a : Nat) : Bool :=
  (decide (0x60_0000_0000 ≤ a) && decide (a < 0x80_0000_0000)) ||
  (decide (0x80_2000_0000 ≤ a) && decide (a < 0x1000_0000_0000)) || decide (0x2000_0000_0000 ≤ a)

def hostAperture (a : Nat) : Bool := decide (0x1000_0000_0000 ≤ a) && decide (a < 0x2000_0000_0000)

def stackedAddr (a : Nat) : Bool := decide (a < 0x60_0000_0000)

/-- The sectors of `n` bytes at `a`. -/
def sectors (a n : Nat) : List Nat := (List.range ((a + n + 31) / 32 - a / 32)).map fun i => a / 32 + i

/-- Whether a read of `n` bytes at `a` is answered OK throughout (R345). -/
def State.readOk (s : State) (a n : Nat) : Bool :=
  (sectors a n).all fun x => !reservedAddr (x * 32) && !s.poison.contains x

/-- Whether a write is acknowledged OK throughout. -/
def State.writeOk (s : State) (a n : Nat) : Bool :=
  (sectors a n).all fun x => !reservedAddr (x * 32) && !s.refuse.contains x

/-- The bytes and the word at an address, whatever their status. -/
def State.byteAt (s : State) (a : Nat) : Byte := Mem.get s.mem a
def State.bytesAt (s : State) (a n : Nat) : List Byte := (List.range n).map fun i => s.byteAt (a + i)
def State.wordAtAddr (s : State) (a : Nat) : Word := bytesWord (s.bytesAt a 8)

/-- `n` words read, or `none` when a sector is answered POISON. -/
def State.readWords (s : State) (a n : Nat) : Option (List Word) :=
  if s.readOk a (8 * n) then some ((List.range n).map fun i => s.wordAtAddr (a + 8 * i)) else none

def State.readBytes (s : State) (a n : Nat) : Option (List Byte) :=
  if s.readOk a n then some (s.bytesAt a n) else none

/-- Requests of at most 256 bytes within one aligned block (R344). -/
def memRequests (a n : Nat) : Nat := (a + n + 255) / 256 - a / 256

/-- The partition ID of an access: DEFAULT of the context, 0 for no context (R199). -/
def State.partOf (s : State) (c : Option Nat) : Nat :=
  match c with
  | some c => s.fld (K.CTX_PART c) 3 0
  | none => 0

/-- The requests that cover `n` bytes at `a`, each within one aligned block of `blk` bytes: address and length. -/
def blocks (blk a n : Nat) : List (Nat × Nat) :=
  (List.range (if n = 0 then 0 else (a + n + blk - 1) / blk - a / blk)).map fun i =>
    let lo := max a ((a / blk + i) * blk)
    (lo, min (a + n) ((a / blk + i + 1) * blk) - lo)

/-- The requests of an access for context `c`, or for none, with their partition, issuing unit and tag (R338, R344). The tags
count up modulo 4,096 (log entry 82). -/
def issueReqs (write : Bool) (u : Nat) (c : Option Nat) (part a n : Nat) (s : State) : State :=
  let host := hostAperture a
  let bs := blocks (if host then 512 else 256) a n
  { s with reqs := s.reqs ++ (List.zip (List.range bs.length) bs).map fun x =>
      ⟨host, write, x.2.1, x.2.2, part, u, (s.reqs.length + x.1) % 4096, c⟩ }

/-- A read that unit `u` issues in a partition: its requests, and the event READS of the memory port (Table 14-1, unit 22). -/
def issueRead (u : Nat) (c : Option Nat) (part a n : Nat) (s : State) : State :=
  ifThen (!hostAperture a) (pmc 22 0x48 none (memRequests a n)) (issueReqs false u c part a n s)

/-- The responses of an access on the memory port, or of a read on the host bridge: one for each request, in the response FIFO of
their port (Table 13-3). -/
def noteResponse (a n : Nat) (s : State) : State :=
  if hostAperture a then linkPassN 0x6101 (blocks 512 a n).length s else linkPassN 0x6000 (blocks 256 a n).length s

/-- A read comes back: its responses, and the event POISON. -/
def notePoisoned (a n : Nat) (s : State) : State :=
  ifThen (!hostAperture a && !s.readOk a n) (pmc 22 0x4B none 1) (noteResponse a n s)

/-- A read that unit `u` issues in a partition and that comes back at once. -/
def noteReadIn (u : Nat) (c : Option Nat) (part a n : Nat) (s : State) : State := notePoisoned a n (issueRead u c part a n s)

/-- A read on behalf of a context, or of none (R199). -/
def noteRead (u : Nat) (c : Option Nat) (a n : Nat) (s : State) : State := noteReadIn u c (s.partOf c) a n s

/-- What a write does to the memory: refused and reserved sectors keep their contents; the others take the write, and are
answered OK from then on (R345). -/
def memWrite (a : Nat) (bs : List Byte) (s : State) : State :=
  let n := bs.length
  if s.writeOk a n then
    { s with mem := Mem.putBytes s.mem a bs, poison := s.poison.filter fun x => !(sectors a n).contains x }
  else
    { s with
      mem := (List.zip (List.range n) bs).foldl
        (fun m ib => if s.writeOk (a + ib.1) 1 then Mem.put m (a + ib.1) ib.2 else m) s.mem
      poison := s.poison.filter fun x => !((sectors a n).contains x && s.writeOk (x * 32) 32) }

/-- A write that unit `u` issues in a partition, on the memory port unless it goes to host memory: its requests, what it does
to memory, and its event. -/
def putIn (u : Nat) (c : Option Nat) (part a : Nat) (bs : List Byte) (s : State) : State :=
  let s1 := issueReqs true u c part a bs.length (memWrite a bs s)
  if hostAperture a then s1 else noteResponse a bs.length (pmc 22 0x49 none (memRequests a bs.length) s1)

/-- A write on behalf of a context, or of none (R199). One that the memory port answers with POISON is uncorrectable data
outside the block, reported against the context and naming no launch (R252, R345, R365; DEDUCED, log entry 83). -/
def writeBytes (u : Nat) (c : Option Nat) (a : Nat) (bs : List Byte) (s : State) : State :=
  ifThen (!s.writeOk a bs.length && !hostAperture a && s.live)
    (errContained u 0x04 c none (word [(47, 0, a)])) (putIn u c (s.partOf c) a bs s)

def writeWords (u : Nat) (c : Option Nat) (a : Nat) (ws : List Word) (s : State) : State := writeBytes u c a (wordsBytes ws) s

/-- Whether a write of a large area is acknowledged OK throughout. Each reserved range of Table 09-1 is longer than any
area that the block writes, so the two ends decide. -/
def State.areaOk (s : State) (base size : Nat) : Bool :=
  !reservedAddr base && !reservedAddr (base + size - 1) &&
    !(s.refuse.any fun x => decide (base < x * 32 + 32) && decide (x * 32 < base + size))

/-- A large area written 0 with the given words at their offsets (dump and snapshot areas); refused sectors keep their
contents. -/
def writeArea (u base size : Nat) (parts : List (Nat × List Word)) (s : State) : State :=
  let inArea := fun a : Nat => decide (base ≤ a) && decide (a < base + size)
  let s1 := { s with mem := s.mem.filter fun c => !inArea c.1 || s.refuse.contains (c.1 / 32)
                     poison := s.poison.filter fun x => !inArea (x * 32) || s.refuse.contains x }
  parts.foldl (fun t p => putIn u none 0 (base + p.1) (wordsBytes p.2) t) s1

/-! ## Contexts, launches, templates, slots -/

def Ctx.zero : Ctx := ⟨.disabled, false, false, none, false, 0⟩
def State.ctx (s : State) (n : Nat) : Ctx := Tab.get Ctx.zero s.ctxs n
def State.setCtx (s : State) (n : Nat) (c : Ctx) : State := { s with ctxs := Tab.put s.ctxs n c }

/-- A context in ENABLED (Table 07-1). -/
def State.ctxOn (s : State) (n : Nat) : Bool := (s.ctx n).state == .enabled

/-- SAVING, SAVED or RESTORING: items that reach the context wait outside its slots (R203). -/
def State.saveHeld (s : State) (n : Nat) : Bool :=
  match (s.ctx n).state with
  | .saving | .saved | .restoring => true
  | _ => false

def Template.empty : Template := ⟨List.replicate 4 ⟨.free, 0, 0, [], [], false⟩, 0, [], none, 0⟩
def State.template (s : State) (ctx tid : Nat) : Template := Tab.get Template.empty s.templates (ctx, tid)
def State.setTemplate (s : State) (ctx tid : Nat) (t : Template) : State :=
  { s with templates := Tab.put s.templates (ctx, tid) t }

def VSlot.empty : VSlot := ⟨.free, 0, 0, [], [], false⟩
def Template.slot (t : Template) (k : Nat) : VSlot := t.slots.getD k VSlot.empty
def Template.setSlot (t : Template) (k : Nat) (v : VSlot) : Template := { t with slots := t.slots.set k v }
def State.vslot (s : State) (ctx tid k : Nat) : VSlot := (s.template ctx tid).slot k
def State.setVslot (s : State) (ctx tid k : Nat) (v : VSlot) : State :=
  s.setTemplate ctx tid ((s.template ctx tid).setSlot k v)

def Launch.is (l : Launch) (ctx serial : Nat) : Bool := l.ctx == ctx && l.serial == serial
def State.launch? (s : State) (ctx serial : Nat) : Option Launch := s.launches.find? (·.is ctx serial)
def State.modLaunch (s : State) (ctx serial : Nat) (f : Launch → Launch) : State :=
  { s with launches := updFirst (·.is ctx serial) f s.launches }

/-- The launch serial of an ordinal (Table 00-5). -/
def ordSerial (o : Word) : Nat := bits o 63 44
def ordTree (o : Word) : Nat := bits o 43 32
def ordPath (o : Word) : Nat := bits o 31 0

def handleOf (shard slot gen : Nat) : Nat := shard % 16 * 2 ^ 28 + slot % 2 ^ 14 * 2 ^ 14 + gen % 2 ^ 14
def hShard (h : Nat) : Nat := h / 2 ^ 28 % 16
def hSlot (h : Nat) : Nat := h / 2 ^ 14 % 2 ^ 14
def hGen (h : Nat) : Nat := h % 2 ^ 14

def Slot.empty : Slot := ⟨1, .free, 0, 0, 0, 0, 0, 0, 0, 0, 0, 0, false, false, 0, 0, false⟩
def State.slot (s : State) (shard n : Nat) : Slot := Tab.get Slot.empty s.hub.slots (shard, n)
def State.setSlot (s : State) (shard n : Nat) (v : Slot) : State :=
  { s with hub := { s.hub with slots := Tab.put s.hub.slots (shard, n) v } }

/-- The slots of a shard that are listed and satisfy `p`, with their numbers. -/
def State.slotsWhere (s : State) (p : Nat → Nat → Slot → Bool) : List ((Nat × Nat) × Slot) :=
  s.hub.slots.filter fun e => p e.1.1 e.1.2 e.2

/-- The class of a local engine number: 0 SMP, 1 GSX, 2 TNS, 3 VEC, 4 CMB (Table 00-1). -/
def localClass (l : Nat) : Nat := if l < 2 then 0 else if l < 4 then 1 else if l < 6 then 2 else if l = 6 then 3 else 4
def engClass (e : Nat) : Nat := localClass (e % 8)
def engCore (e : Nat) : Nat := e / 8

/-- OUTSTANDING of an engine (R77): its slots in RUNNING. -/
def State.outstanding (s : State) (e : Nat) : Nat :=
  (s.hub.slots.filter fun x => x.2.state == .running && x.2.engine == e).length

def Eng.zero : Eng := ⟨0, 0, []⟩
def State.engine (s : State) (e : Nat) : Eng := Tab.get Eng.zero s.disp.engines e
def State.setEngine (s : State) (e : Nat) (v : Eng) : State :=
  { s with disp := { s.disp with engines := Tab.put s.disp.engines e v } }

/-! ## Frames (R307) -/

/-- FRM_LEN; values below 1,024 act as 1,024 (Table 11-6). -/
def State.frameLen (s : State) : Nat := max (s.reg K.FRM_LEN).toNat 1024
def State.epochNs (s : State) : Nat := (s.reg K.FRM_EPOCH_LO).toNat + (s.reg K.FRM_EPOCH_HI).toNat * 2 ^ 32

/-- The frame of a time; 0 before FRM_EPOCH. -/
def State.frameAt (s : State) (t : Nat) : Nat := (t - s.epochNs) / s.frameLen

/-- Whether the tick of frame `f` has been: `fab.frame` counts the frames ticked. -/
def State.ticked (s : State) (f : Nat) : Bool := decide (f < s.fab.frame)

/-- The end of frame `f`. -/
def State.frameEnd (s : State) (f : Nat) : Nat := s.epochNs + (f + 1) * s.frameLen

/-! ## Host writes by phase (Table 12-7, R368, R406) -/

/-- A write of an RW or RWL field: dropped and counted in BOOT, discarded in a fatal or stopped block. -/
def hostWrite (f : State → State) (s : State) : State :=
  if !s.live then s else if s.glb.phase = .boot then bump K.BOOT_DROP 1 s else f s

/-- A write of a unit's ENABLE: also discarded in SETUP. -/
def enableGate (f : State → State) (s : State) : State :=
  hostWrite (fun s => if s.glb.phase = .setup then s else f s) s

/-! ## The window (R413 to R415) -/

def State.sel (s : State) : Origin → Selector
  | .host => s.selHost
  | .mgmt => s.selMgmt

def State.setSel (s : State) (o : Origin) (x : Selector) : State :=
  match o with
  | .host => { s with selHost := x }
  | .mgmt => { s with selMgmt := x }

/-- Whether an index names a present instance of a window type (Table 15-5). -/
def State.winPresent (s : State) (ty i : Nat) : Bool :=
  match ty with
  | 1 => decide (i < 64)
  | 2 => decide (i < 2 ^ 22)
  | 3 => decide (i < s.shards)
  | 4 => decide (i < 64)
  | 5 => decide (i < 128)
  | 6 => decide (i < 64)
  | 7 => decide (i < s.nObjs)
  | 8 => decide (i < 64) || (s.isG4 && decide (256 ≤ i) && decide (i < 512))
  | 9 => decide (i < s.nQueues)
  | _ => false

/-- The valid instance selected by an origin: its type and index (R414). -/
def State.window (s : State) (o : Origin) : Option (Nat × Nat) :=
  let w := (s.sel o).winSel
  let ty := bits w 31 28
  let i := bits w 23 0
  if bits w 27 24 = 0 ∧ s.winPresent ty i then some (ty, i) else none

/-- The instance of a type that an origin has selected. -/
def State.winInst (s : State) (o : Origin) (ty : Nat) : Option Nat :=
  match s.window o with
  | some (t, i) => if t = ty then some i else none
  | none => none

/-! ## Enable and drain (R359) -/

/-- What a unit does when it is asked to enable: its checks, what enabling does, and what a refusal does. -/
structure EnableRule where
  checks : State → Bool
  onEnable : State → State
  onRefuse : State → State

/-- The enable checks applied in one hub cycle: ENABLED 1, or the refusal with ENABLE and ENABLE_PENDING cleared. -/
def tryEnable (u : UnitId) (r : EnableRule) (s : State) : State :=
  if r.checks s then r.onEnable (s.setUnit u ⟨true, true, false, false⟩)
  else r.onRefuse (s.setUnit u ⟨false, false, false, false⟩)

/-- A write of ENABLE; `busy` says that the unit is RESETTING or CLOSING. -/
def writeEnable (u : UnitId) (busy : Bool) (r : EnableRule) (b : Bool) (s : State) : State :=
  let e := s.unit u
  if b = e.enable then s
  else if !s.glb.enable then s.setUnit u { e with enable := b }
  else if b then
    if e.draining || busy then s.setUnit u { e with enable := true, pending := true } else tryEnable u r s
  else if e.pending then s.setUnit u { e with enable := false, pending := false }
  else if e.enabled then s.setUnit u { e with enable := false, draining := true }
  else s.setUnit u { e with enable := false }

/-- A drain whose condition holds completes: the unit disables, or enables again when an enable is pending. -/
def finishDrain (u : UnitId) (r : EnableRule) (s : State) : State :=
  let e := s.unit u
  if e.pending then tryEnable u r s else s.setUnit u ⟨e.enable, false, false, false⟩

def alwaysEnable : EnableRule := ⟨fun _ => true, id, id⟩

end Sys2Proof.Machine
end

