-- ==== Sys2Proof/Machine/FabOps.lean ====
section
/-! DEFINITION. What the units share to send through the fabric port: packets, sequence numbers, apply frames (11_fabric_and_time.md). -/

namespace Sys2Proof.Machine

/-- FAB_CFG PORT_EN; 0 on a G4E (R360). -/
def State.portEn (s : State) : Bool := s.isG4 && s.flag K.FAB_CFG 0

/-- MODE of a context: FRAMED (Table 07-1). -/
def State.framed (s : State) (ctx : Nat) : Bool := s.flag (K.CTX_CTRL ctx) 24

/-- FRAME_LAG as the block applies it (R426). -/
def State.frameLag (s : State) (ctx : Nat) : Nat := max 1 (s.fld (K.FRM_CTXn ctx) 31 24)

/-- ALIGN_LOG of a context. -/
def State.alignLog (s : State) (ctx : Nat) : Nat := s.fld (K.FRM_CTXn ctx) 12 9

/-- The smallest multiple of 2^`a` that is at least `f` (R308, R320). -/
def alignUp (f a : Nat) : Nat := ceilDiv f (2 ^ a) * 2 ^ a

/-- The current frame number: that of the last tick, 0 before the first (R307). -/
def State.frameNow (s : State) : Nat := s.fab.frame - 1

/-- APPLY_FRAME of an item that a context sends now (R321). -/
def State.applyFrame (s : State) (ctx : Nat) : Nat :=
  if s.framed ctx then s.frameAt s.tb + s.frameLag ctx else 0

/-! ## Packets (Tables 11-2, 11-3) -/

def pCls (p : Rec8) : Nat := bits p.w0 63 60
def pSrcChip (p : Rec8) : Nat := bits p.w0 59 50
def pDstChip (p : Rec8) : Nat := bits p.w0 49 40
def pCtx (p : Rec8) : Nat := bits p.w0 39 34
def pSrcId (p : Rec8) : Nat := bits p.w0 33 18
def pSeq (p : Rec8) : Nat := bits p.w0 17 0

/-- DEC, SIG, BAR_ARRIVE, BAR_RELEASE: the acknowledged classes (R312). -/
def ackedCls (c : Nat) : Bool := decide (1 ≤ c) && decide (c ≤ 4)

/-- A packet before it has its PSEQ. -/
def packet (s : State) (cls dst ctx src apply : Nat) (w3 w4 : Word) : Rec8 :=
  ⟨word [(63, 60, cls), (59, 50, s.chipId), (49, 40, dst), (39, 34, ctx), (33, 18, src)], BitVec.ofNat 64 s.tb,
   BitVec.ofNat 64 apply, w3, w4, 0, 0, 0⟩

/-- The packet leaves: an acknowledged class takes its PSEQ, in 18 bits per destination, and counts until its
acknowledgement (R312, R324). -/
def fabOut (p : Rec8) (s : State) : State :=
  if ackedCls (pCls p) then
    let c := pDstChip p
    let q := Tab.get 0 s.fab.txSeq c
    pmc 21 0x40 (some (pCtx p)) 1 (bumpWrap K.FAB_SENT 1 (emit (.packet { p with w0 := withBits p.w0 17 0 q })
      { s with fab := { s.fab with txSeq := Tab.put s.fab.txSeq c ((q + 1) % 2 ^ 18),
                                   unacked := s.fab.unacked ++ [⟨c, q, pCtx p⟩] } }))
  else emit (.packet p) s

/-- Whether a packet may leave now (R324, R331). -/
def State.fabMay (s : State) (p : Rec8) : Bool :=
  s.portEn && (!ackedCls (pCls p) || decide ((s.fab.unacked.filter fun u => u.chip == pDstChip p).length < 65536))

/-- The packets that wait and may leave, in order per destination. -/
def fabFlush (s : State) : State :=
  s.fab.txWait.foldl (fun t p =>
    if t.fab.txWait.any (fun q => pDstChip q == pDstChip p && ackedCls (pCls q) == ackedCls (pCls p)) || !t.fabMay p then
      { t with fab := { t.fab with txWait := t.fab.txWait ++ [p] } }
    else fabOut p t) { s with fab := { s.fab with txWait := [] } }

/-- A packet handed to the fabric port. -/
def fabSend (p : Rec8) (s : State) : State := fabFlush { s with fab := { s.fab with txWait := s.fab.txWait ++ [p] } }

end Sys2Proof.Machine
end

