-- ==== Sys2Proof/Machine/Operands.lean ====
section
/-! DEFINITION. The records that commands carry and the block reads or forms: template images, ordinals, descriptors, tokens,
sprout records, edge and ready records. -/

namespace Sys2Proof.Machine

/-! ## Template images (Tables 01-1 to 01-5) -/

/-- The 64-bit word and the 32-bit word at a byte offset of an image. -/
def imgWord (img : List Word) (off : Nat) : Word := wordAt img (off / 8)
def imgW32 (img : List Word) (off : Nat) : W32 :=
  if off % 8 < 4 then lo32 (wordAt img (off / 8)) else hi32 (wordAt img (off / 8))

def hdrNodes (img : List Word) : Nat := bits (wordAt img 0) 63 43
def hdrRoots (img : List Word) : Nat := bits (wordAt img 0) 42 22
/-- HOP_WIDTH of hops 1 to 8. -/
def hdrHops (img : List Word) : List Nat := (List.range 8).map fun h => bits (wordAt img 1) (63 - 5 * h) (59 - 5 * h)
def hdrSuccs (img : List Word) : Nat := bits (wordAt img 1) 23 0
def hdrRootOff (img : List Word) : Nat := bits (wordAt img 2) 63 32
def hdrNodeOff (img : List Word) : Nat := bits (wordAt img 2) 31 0
def hdrSuccOff (img : List Word) : Nat := bits (wordAt img 3) 63 32
def hdrInOff (img : List Word) : Nat := bits (wordAt img 3) 31 0
def hdrIns (img : List Word) : Nat := bits (wordAt img 4) 63 44
def hdrSize (img : List Word) : Nat := bits (wordAt img 4) 31 0

/-- A node record (Table 01-2). -/
structure Node where
  pred : Nat
  cls : Nat
  prio : Nat
  prioInh : Bool
  cntLate : Bool
  ckpt : Bool
  frameEn : Bool
  partition : Nat
  partUse : Bool
  ordRule : Nat
  ordArg : Nat
  affMode : Nat
  affCore : Nat
  opId : Nat
  index : Nat
  inCount : Nat
  inBase : Nat
  succCount : Nat
  succBase : Nat
  frame : Nat
  kernel : Nat
  layer : Nat
  arg0 : Word
  arg1 : Word
  deriving DecidableEq, Repr

def parseNode (w : List Word) : Node :=
  let n0 := wordAt w 0; let n1 := wordAt w 1; let n2 := wordAt w 2; let n3 := wordAt w 3
  { pred := bits n0 63 48, cls := bits n0 47 45, prio := bits n0 44 42, prioInh := bit n0 41, cntLate := bit n0 40,
    ckpt := bit n0 39, frameEn := bit n0 38, partition := bits n0 37 34, partUse := bit n0 33, ordRule := bits n0 32 30,
    ordArg := bits n0 29 27, affMode := bits n0 26 25, affCore := bits n0 24 18, opId := bits n0 15 0,
    index := bits n1 63 44, inCount := bits n1 43 40, inBase := bits n1 39 20,
    succCount := bits n2 63 48, succBase := bits n2 47 24, frame := bits n2 23 8,
    kernel := bits n3 63 32, layer := bits n3 31 16, arg0 := wordAt w 4, arg1 := wordAt w 5 }

/-- The node record `i` of an image, or `none` for a breach that the block detects by reading it: an index not below
NODE_COUNT, a record outside the image, another NODE_INDEX (R17), or a reserved CLASS (R18). -/
def node? (img : List Word) (i : Nat) : Option Node :=
  let off := hdrNodeOff img + 64 * i
  if i < hdrNodes img ∧ off % 8 = 0 ∧ off + 64 ≤ 8 * img.length then
    let n := parseNode ((img.drop (off / 8)).take 8)
    if n.index = i ∧ n.cls ≠ 5 ∧ n.cls ≠ 6 then some n else none
  else none

def clsJoin : Nat := 7

/-- Entry `k` of the root table: a node index, or `none` outside the image. -/
def root? (img : List Word) (k : Nat) : Option Nat :=
  let off := hdrRootOff img + 4 * k
  if off % 4 = 0 ∧ off + 4 ≤ 8 * img.length then some (bits (imgW32 img off) 19 0) else none

/-- A successor entry (Table 01-4): KIND and TARGET. -/
def succ? (img : List Word) (k : Nat) : Option (Nat × Nat) :=
  let off := hdrSuccOff img + 4 * k
  if k < hdrSuccs img ∧ off % 4 = 0 ∧ off + 4 ≤ 8 * img.length then
    some (bits (imgW32 img off) 31 30, bits (imgW32 img off) 19 0)
  else none

/-- An input-region entry (Table 01-5). -/
structure Region where
  produced : Bool
  baseSrc : Nat
  offset : Nat
  length : Nat
  deriving DecidableEq, Repr

def region? (img : List Word) (k : Nat) : Option Region :=
  let off := hdrInOff img + 16 * k
  if k < hdrIns img ∧ off % 8 = 0 ∧ off + 16 ≤ 8 * img.length then
    let i0 := imgWord img off
    some ⟨bit i0 63, bits i0 62 58, bits i0 47 0, bits (imgWord img (off + 8)) 63 32⟩
  else none

/-- The input regions of a node with their index in the node. -/
def nodeRegions (img : List Word) (n : Node) : List (Nat × Region) :=
  (List.range n.inCount).filterMap fun j => (region? img (n.inBase + j)).map fun r => (j, r)

/-- The base that BASE_SRC selects (Table 01-5, R21); a reserved value's base is undefined (R16): FREE VALUE, log
entry 6. -/
def regionBase (src : Nat) (params : List Word) (sprPtr : Nat) : Nat :=
  if src = 0 then 0 else if src ≤ 16 then (wordAt params (src - 1)).toNat
  else if src = 17 then sprPtr else (Config.openWord src).toNat

/-- A region's start address (R21). -/
def regionAddr (r : Region) (params : List Word) (sprPtr : Nat) : Nat :=
  addr48 (regionBase r.baseSrc params sprPtr + r.offset)

/-- An instance's effective priority (R25). -/
def Node.effPrio (n : Node) (launchPrio : Nat) : Nat := if n.prioInh then launchPrio else n.prio

/-! ## Ordinals (R39, R40) -/

def mkOrdinal (serial tree path : Nat) : Word := word [(63, 44, serial), (43, 32, tree), (31, 0, path)]

/-- The lowest path-code bit of hop `h`; 32 for hop 0. -/
def hopLow (hops : List Nat) (h : Nat) : Nat := 32 - (hops.take h).sum

/-- The digit of hop `h`, counting from 1. -/
def hopDigit (hops : List Nat) (path h : Nat) : Nat := path / 2 ^ hopLow hops h % 2 ^ (hops.getD (h - 1) 0)

/-- The number of leading hops with nonzero digits (R39). -/
def ordDepth (hops : List Nat) (o : Word) : Nat :=
  (((List.range 8).map (· + 1)).takeWhile fun h => hopDigit hops (ordPath o) h ≠ 0).length

/-- UP (Table 01-7): the deepest `k` nonzero digits set to 0. -/
def ordUp (hops : List Nat) (o : Word) (k : Nat) : Word :=
  let low := hopLow hops (ordDepth hops o - k)
  mkOrdinal (ordSerial o) (ordTree o) (ordPath o / 2 ^ low * 2 ^ low)

/-- DOWN (Table 01-7): digit `i + 1` written at hop depth + 1. -/
def ordDown (hops : List Nat) (o : Word) (i : Nat) : Word :=
  mkOrdinal (ordSerial o) (ordTree o) (ordPath o + (i + 1) * 2 ^ hopLow hops (ordDepth hops o + 1))

/-- The ordinal of a NODE instance. -/
def ordNode (serial node : Nat) : Word := mkOrdinal serial 0xFFF node

/-- The ordinal that a predecessor derives for a successor (R40); `none` for TREE, DOWN and reserved rules, which issue
no arrival (R16). -/
def derive? (hops : List Nat) (n : Node) (pred : Word) : Option Word :=
  match n.ordRule with
  | 0 => some (ordNode (ordSerial pred) n.index)
  | 1 => some pred
  | 2 => some (ordUp hops pred n.ordArg)
  | _ => none

/-- The ordinal of instance `i` of a sprout record (R113). -/
def sproutOrdinal (hops : List Nat) (rule : Nat) (base : Word) (i : Nat) : Word :=
  if rule = 3 then mkOrdinal (ordSerial base) (ordTree base + i) 0 else ordDown hops base i

/-- shard_of (R49). -/
def shardOf (shards ctx node : Nat) (o : Word) : Nat :=
  let x0 := (hi32 o) ^^^ (lo32 o) ^^^ (BitVec.ofNat 32 node <<< 12) ^^^ BitVec.ofNat 32 ctx
  let x1 := x0 ^^^ (x0 >>> 16)
  let x2 := x1 ^^^ (x1 >>> 8)
  let x3 := x2 ^^^ (x2 >>> 4)
  if shards = 16 then bits x3 3 0 else bits x3 2 0

/-! ## Task slot, edge, ready and sprout records -/

def SlotState.code : SlotState → Nat
  | .free => 0 | .waiting => 1 | .ready => 2 | .running => 3 | .walking => 4

/-- Table 02-1. -/
def slotWords (v : Slot) : List Word :=
  [word [(63, 50, v.gen), (49, 47, v.state.code), (46, 41, v.ctx), (40, 39, v.vslot), (38, 36, v.prio), (35, 33, v.cls),
     (32, 17, v.counter)], v.ordinal, word [(63, 44, v.node), (43, 34, v.engine)], BitVec.ofNat 64 v.readyStamp]

/-- KIND of an edge record. A sprout arrival is no edge record: it parks as a ONE record (R114). -/
def ArrKind.code : ArrKind → Nat
  | .late => 1 | .root => 2 | _ => 0

/-- Table 02-4; AMOUNT is the LATE adjustment, and 0 for the other kinds. -/
def edgeWords (a : Arrival) : List Word :=
  [a.ordinal, word [(63, 44, a.node), (43, 42, a.kind.code), (41, 40, a.vslot), (39, 34, a.ctx),
     (33, 18, if a.kind = .late then a.amount else 0), (17, 14, a.srcShard)]]

/-- Table 03-1. -/
def readyWords (e : ReadyEntry) : List Word :=
  [BitVec.ofNat 64 e.stamp, word [(63, 32, handleOf e.shard e.slot e.gen), (31, 31, b2n e.resume), (30, 21, e.resumeEng)]]

/-- Table 04-1. -/
def sproutWords (r : SprRec) : List Word :=
  [word [(63, 32, r.producer), (31, 26, r.ctx), (25, 24, r.kind), (23, 22, r.vslot), (19, 0, r.node)], r.baseOrd,
   word [(63, 48, r.pstride), (47, 0, r.ptr)], word [(63, 44, r.count), (43, 28, r.amount), (27, 8, r.next)]]

/-- The fields that an engine sends in a sprout record (Table 04-1). -/
def parseSprout (r : Rec4) : SprRec :=
  ⟨0, bits r.w0 63 32, bits r.w0 31 26, bits r.w0 25 24, 0, bits r.w0 19 0, r.w1, bits r.w2 63 48, bits r.w2 47 0,
   bits r.w3 63 44, bits r.w3 43 28, 0, 0⟩

/-- The ONE record of a sprout arrival that has to wait (R114). -/
def oneRec (a : Arrival) (rid : Nat) : SprRec :=
  ⟨rid, 0, a.ctx, 2, a.vslot, a.node, a.ordinal, 0, a.ptr, 1, 0, 0, 0⟩

/-! ## Completion token (Table 03-3) -/

structure Token where
  handle : Nat
  engine : Nat
  ctx : Nat
  status : Nat
  partialPtr : Nat
  busy : Nat
  deriving DecidableEq, Repr

def parseToken (r : Rec4) : Token :=
  ⟨bits r.w0 63 32, bits r.w0 31 22, bits r.w0 21 16, bits r.w0 15 8, bits r.w1 47 0, bits r.w2 31 0⟩

end Sys2Proof.Machine
end

