-- ==== Sys2Proof/Machine/HubOps.lean ====
section
/-! DEFINITION. Operations on launches, task slots and ready lists that several families share: OUTSTANDING, ready inserts,
freeing a slot, cancelling and failing a launch. -/

namespace Sys2Proof.Machine

/-! ## Launch records -/

/-- The address of the launch record of a serial (R192). -/
def State.lrecAddr (s : State) (ctx serial : Nat) : Nat :=
  addr48 (s.addrOf (K.CTX_LT_LO ctx) (K.CTX_LT_HI ctx) + serial % (s.reg (K.CTX_LT_N ctx)).toNat * 256)

/-- The launch record (Table 01-6). -/
def launchWords (l : Launch) : List Word :=
  [word [(63, 48, l.template), (47, 32, l.version), (31, 12, l.serial), (11, 9, l.prio), (8, 8, b2n l.framed),
     (7, 6, l.vslot), (5, 0, l.ctx)], BitVec.ofNat 64 l.pinStamp, BitVec.ofNat 64 l.startFrame,
   BitVec.ofNat 64 l.outstanding, 0, 0, 0, 0] ++ (List.range 16).map (wordAt l.params) ++ List.replicate 8 0

def writeLrec (l : Launch) (s : State) : State :=
  writeWords uFrontEnd (some l.ctx) (s.lrecAddr l.ctx l.serial) (launchWords l) s

/-- OUTSTANDING of a launch becomes `f` of its value, in its record too (R29); nothing for a launch not in flight. -/
def outMap (f : Nat → Nat) (ctx serial : Nat) (s : State) : State :=
  match s.launch? ctx serial with
  | some l =>
    writeWords uFrontEnd (some ctx) (s.lrecAddr ctx serial + 24) [BitVec.ofNat 64 (f l.outstanding)]
      (s.modLaunch ctx serial fun l => { l with outstanding := f l.outstanding })
  | none => s

def addOut (ctx serial n : Nat) (s : State) : State := outMap (· + n) ctx serial s
def subOut (ctx serial n : Nat) (s : State) : State := outMap (· - n) ctx serial s

/-- The image that a launch has pinned. -/
def State.imageOf (s : State) (l : Launch) : List Word := (s.vslot l.ctx l.template l.vslot).image

/-! ## Where the template store holds an image (R191, R172) -/

/-- The template store of a context, and its directory entry of a template. -/
def State.tplBase (s : State) (ctx : Nat) : Nat := s.addrOf (K.CTX_TPL_LO ctx) (K.CTX_TPL_HI ctx)
def State.tplDir (s : State) (ctx tid : Nat) : Nat := addr48 (s.tplBase ctx + 64 * tid)

/-- The address of byte `off` of a version's image. -/
def State.tplAddr (s : State) (ctx : Nat) (v : VSlot) (off : Nat) : Nat :=
  addr48 (s.tplBase ctx + v.pages.getD (off / 4096) 0 * 4096 + off % 4096)

/-- The part of `n` bytes at `off` of a launch's image that the memory port answers with POISON: its address. An entry of a
table lies in one sector. -/
def State.tplBad (s : State) (l : Launch) (off n : Nat) : Option Nat :=
  let a := s.tplAddr l.ctx (s.vslot l.ctx l.template l.vslot) off
  if s.readOk a n then none else some a

/-- A node record of a launch's image that reads as POISON (R172): its address. -/
def State.nodeBad (s : State) (l : Launch) (i : Nat) : Option Nat :=
  let off := hdrNodeOff (s.imageOf l) + 64 * i
  (s.tplBad l off 32).orElse fun _ => s.tplBad l (off + 32) 32

/-- As `nodeBad`, of a launch in flight. -/
def State.launchNodeBad (s : State) (ctx serial node : Nat) : Option Nat := (s.launch? ctx serial).bind fun l => s.nodeBad l node

/-- A successor entry, and a root entry, that reads as POISON. -/
def State.succBad (s : State) (l : Launch) (k : Nat) : Option Nat := s.tplBad l (hdrSuccOff (s.imageOf l) + 4 * k) 4
def State.rootBad (s : State) (l : Launch) (k : Nat) : Option Nat := s.tplBad l (hdrRootOff (s.imageOf l) + 4 * k) 4

/-- An input-region entry of a node that reads as POISON. -/
def State.regionBad (s : State) (l : Launch) (n : Node) : Option Nat :=
  (List.range n.inCount).findSome? fun j => s.tplBad l (hdrInOff (s.imageOf l) + 16 * (n.inBase + j)) 16

/-- The parameter words of a launch record that read as POISON: their address. -/
def State.lrecBad (s : State) (l : Launch) : Option Nat :=
  if s.readOk (s.lrecAddr l.ctx l.serial) 256 then none else some (s.lrecAddr l.ctx l.serial)

/-- The launch of a slot, its image and its node record. -/
def State.slotLaunch? (s : State) (v : Slot) : Option Launch := s.launch? v.ctx (ordSerial v.ordinal)
def State.slotImage (s : State) (v : Slot) : List Word :=
  match s.slotLaunch? v with
  | some l => s.imageOf l
  | none => []
def State.slotNode? (s : State) (v : Slot) : Option Node := node? (s.slotImage v) v.node

/-- Layer and operator of a slot's node, 0 when its record cannot be read (R394). -/
def State.slotTags (s : State) (v : Slot) : Nat × Nat :=
  match s.slotNode? v with
  | some n => (n.layer, n.opId)
  | none => (0, 0)

def State.slotTask (s : State) (sh n : Nat) : Word :=
  let v := s.slot sh n
  let t := s.slotTags v
  taskWord t.1 t.2 (handleOf sh n v.gen)

/-- Cancelled, failed, or of a context under reset (Table 02-6): what drops an item. -/
def State.dropsItem (s : State) (ctx serial : Nat) : Bool :=
  (s.ctx ctx).state == .resetting ||
  match s.launch? ctx serial with
  | some l => l.cancelled
  | none => true

/-! ## Slots (R52, R61) -/

def nextGen (g : Nat) : Nat := if 16383 ≤ g then 1 else g + 1

/-- The slot FREE, its generation advanced (R36). -/
def freeSlot (sh n : Nat) (s : State) : State :=
  s.setSlot sh n { Slot.empty with gen := nextGen (s.slot sh n).gen }

/-- Slots of a shard that are not FREE, and those held as reserved for a context. -/
def State.usedSlots (s : State) (sh : Nat) : Nat := (s.slotsWhere fun a _ v => a == sh && v.state != .free).length
def State.reservedHeld (s : State) (sh ctx : Nat) : Nat :=
  (s.slotsWhere fun a _ v => a == sh && v.state != .free && v.reserved && v.ctx == ctx).length

/-- RSV of a context, and the sum over enabled contexts (Table 02-7 RSV_SUM). -/
def State.rsv (s : State) (ctx : Nat) : Nat := s.fld (K.CEL_CTRL ctx) 31 20
def State.rsvSum (s : State) : Nat :=
  ((List.range 64).map fun c => if s.enabled (.ctx c) then s.rsv c else 0).sum

/-- Free ordinary slots of a shard (R61): those that number 16,384 minus RSV_SUM, less the ordinary ones in use. -/
def State.freeOrdinary (s : State) (sh : Nat) : Nat :=
  16384 - s.rsvSum - (s.slotsWhere fun a _ v => a == sh && v.state != .free && !v.reserved).length

/-- The free slot at or after `pick`, in a circle (the block's choice under R38, log entry 4). -/
def State.pickSlot (s : State) (sh pick : Nat) : Option Nat :=
  if (s.slot sh (pick % 16384)).state == .free then some (pick % 16384)
  else if 16384 ≤ s.usedSlots sh then none
  else (rrFrom (pick % 16384) 16384).find? fun n => (s.slot sh n).state == .free

/-- The slot that holds a task key in a shard (R32). -/
def State.findKey (s : State) (sh ctx node : Nat) (o : Word) : Option (Nat × Slot) :=
  (s.hub.slots.find? fun e => e.1.1 == sh && e.2.state != .free && e.2.ctx == ctx && e.2.node == node && e.2.ordinal == o).map
    fun e => (e.1.2, e.2)

/-! ## Ready lists (R73 to R76, R66) -/

def ReadyEntry.inList (e : ReadyEntry) (ctx cls prio : Nat) : Bool := e.ctx == ctx && e.cls == cls && e.prio == prio

/-- The order of R75 within a list. -/
def ReadyEntry.before (a b : ReadyEntry) : Bool :=
  decide (a.stamp < b.stamp) || (a.stamp == b.stamp && (decide (a.shard < b.shard) || (a.shard == b.shard && decide (a.slot < b.slot))))

/-- Entries on-block: of all contexts, and of one. -/
def State.dirUsed (s : State) : Nat := (s.hub.ready.filter fun e => e.place == .directory).length
def State.dirHeld (s : State) (ctx : Nat) : Nat :=
  (s.hub.ready.filter fun e => e.place == .directory && e.ctx == ctx).length
def State.dirHasRoom (s : State) (ctx : Nat) : Bool :=
  decide (s.dirUsed < s.dirSize) && decide (s.dirHeld ctx < s.fld (K.DSP_CTXn ctx) 27 16 * 64)

def State.ringHeld (s : State) (ctx cls prio : Nat) : Nat :=
  (s.hub.ready.filter fun e => e.place == .ring && e.inList ctx cls prio).length

/-- Where an entry goes (R66, R74): the directory while its list has none beyond it and there is room; else the ring of
2,048; else it stays linked in its slot. -/
def State.readyPlace (s : State) (ctx cls prio : Nat) : Place :=
  let beyond := s.hub.ready.any fun e => e.inList ctx cls prio && e.place != .directory
  if !beyond && s.dirHasRoom ctx then .directory
  else if !(s.hub.ready.any fun e => e.inList ctx cls prio && e.place == .linked) && decide (s.ringHeld ctx cls prio < 2048) then
    .ring
  else .linked

/-! ### The cellar in memory (R59) -/

/-- Page `p` of a context's cellar. -/
def State.celPage (s : State) (ctx p : Nat) : Nat := addr48 (s.addrOf (K.CEL_BASE_LO ctx) (K.CEL_BASE_HI ctx) + 4096 * p)

/-- Position `pos` of the ready ring of a list (Table 02-5). -/
def State.ringSlot (s : State) (ctx cls prio pos : Nat) : Nat := addr48 (s.celPage ctx 257 + (cls * 8 + prio) * 32768 + 16 * pos)

/-- The next free position of a list's ring after its last entry, in a circle. -/
def State.ringNext (s : State) (ctx cls prio : Nat) : Nat :=
  let held := (s.hub.ready.filter fun e => e.place == .ring && e.inList ctx cls prio).map (·.pos)
  ((rrFrom (match held.getLast? with | some p => p + 1 | none => 0) 2048).find? fun p => !held.contains p).getD 0

/-- An entry enters its list's ready ring, in its place in memory (R59, R73). -/
def ringInsert (e : ReadyEntry) (s : State) : State :=
  let e' := { e with place := .ring, pos := s.ringNext e.ctx e.cls e.prio }
  writeWords uDispatch (some e.ctx) (s.ringSlot e.ctx e.cls e.prio e'.pos) (readyWords e')
    { s with hub := { s.hub with ready := s.hub.ready ++ [e'] } }

/-- A ready entry is placed on its list: on-block and linked entries in the order of R75, ring entries in ring order. -/
def readyInsert (e : ReadyEntry) (s : State) : State :=
  let p := s.readyPlace e.ctx e.cls e.prio
  linkPass (0xB000 + e.shard)
    (if p == .ring then ringInsert e s
     else { s with hub := { s.hub with ready := insertBy ReadyEntry.before { e with place := p } s.hub.ready } })

/-- An entry becomes ready for selection after the draw of R408: R76 counts its 2 hc from `hc`, and the delay comes on top. -/
def readyEnter (e : ReadyEntry) (s : State) : State :=
  let r := perturbBy 0 s
  readyInsert (if r.1 = 0 then e else { e with hc := max e.hc (if e.resume then s.hc + r.1 - 2 else s.hc + r.1) }) r.2

def ReadyEntry.ofSlot (e : ReadyEntry) (sh n : Nat) : Bool := e.shard == sh && e.slot == n

def slotEntry (sh n : Nat) (v : Slot) (resume : Bool) (eng : Nat) : ReadyEntry :=
  ⟨v.ctx, v.cls, v.prio, v.readyStamp, sh, n, v.gen, resume, eng, .directory, v.readyHc, 0⟩

def removeReady (sh n : Nat) (s : State) : State :=
  { s with hub := { s.hub with ready := s.hub.ready.filter fun e => !(e.ofSlot sh n) } }

/-- A checkpoint completion for the deadline monitor (R210): `src` is the engine, or 0 for a JOIN. -/
def noteCkpt (ctx serial node src : Nat) (s : State) : State :=
  { s with ckpts := s.ckpts ++ [⟨ctx, serial, node, s.tb, src, s.fmhz⟩] }

/-- FRAME_OVERRUN (R309): a completion of a FRAME_EN instance of a FRAMED launch, stamped at or after its frame's end. -/
def noteOverrun (v : Slot) (s : State) : State :=
  match s.slotLaunch? v, s.slotNode? v with
  | some l, some nd =>
    if l.framed && nd.frameEn && decide (s.frameEnd (l.startFrame + nd.frame) ≤ s.tb) then
      bump (K.FRM_OVRn v.ctx) 1 (s.modLaunch l.ctx l.serial fun l => { l with overrun := true })
    else s
  | _, _ => s

/-- COUNTER has reached zero (R34, R19): READY with its stamp and ready entry, or WALKING for a JOIN, whose completion is
stamped now. -/
def becomeReady (sh n : Nat) (s : State) : State :=
  let v := { s.slot sh n with readyStamp := s.tb, readyHc := s.hc }
  let s1 := trace2 sh 0x10 (some v.ctx) 0 (s.slotTask sh n) v.ordinal s
  if v.cls = clsJoin then
    let s2 := noteOverrun v (s1.setSlot sh n { v with state := .walking })
    match s.slotNode? v with
    | some nd => ifThen nd.ckpt (noteCkpt v.ctx (ordSerial v.ordinal) v.node 0) s2
    | none => s2
  else readyEnter (slotEntry sh n v false 0) (s1.setSlot sh n { v with state := .ready })

/-! ## Pre-emption stages and staging of a slot that goes -/

def PreStage.ofSlot (p : PreStage) (sh n gen : Nat) : Bool := p.shard == sh && p.slot == n && p.gen == gen

/-- The stages of an express entry end: its reservations are released, its CP_IRQ lowered, its done mark cleared (R93,
R94). -/
def endStages (sh n gen : Nat) (s : State) : State :=
  { s with disp := { s.disp with pre := s.disp.pre.filter fun p => !(p.ofSlot sh n gen)
                                 preDone := s.disp.preDone.filter fun d => d != (sh, n, gen) } }

def Steep.ofSlot (t : Steep) (sh n gen : Nat) : Bool := t.shard == sh && t.slot == n && t.gen == gen

/-- The instance is cancelled: its granules are freed at once, or with the last staged write (R100); a request not yet
served is dropped with it. -/
def dropSteep (sh n gen : Nat) (s : State) : State :=
  { s with disp := { s.disp with
      steeps := s.disp.steeps.filterMap fun t =>
        if t.ofSlot sh n gen then (if t.acked then none else some { t with gone := true }) else some t
      steepReqs := s.disp.steepReqs.filter fun r => !(r.shard == sh && r.slot == n && r.gen == gen) } }

/-! ## Cancelling and failing a launch (R172, R173) -/

/-- An item dropped at a shard for a cancelled launch or a context under reset (Table 02-6). -/
def cancelDrop (sh : Nat) (s : State) : State := bumpWrap (K.SHD_CANCEL_DROP sh) 1 s

/-- The account of an arrival or record that has been applied or dropped (R109, R428). -/
def settleRec (rid ctx serial : Nat) (s : State) : State :=
  let left := Tab.get 0 s.hub.sprLeft rid
  let s1 := { s with hub := { s.hub with sprLeft :=
    if left ≤ 1 then s.hub.sprLeft.filter (fun e => e.1 != rid) else Tab.put s.hub.sprLeft rid (left - 1) } }
  if left = 1 then subOut ctx serial 1 s1 else s1

/-- A record dropped with all that it still has to issue. -/
def settleWholeRec (r : SprRec) (s : State) : State :=
  if r.kind = 2 then subOut r.ctx (ordSerial r.baseOrd) 1 s
  else
    subOut r.ctx (ordSerial r.baseOrd) (if Tab.get 0 s.hub.sprLeft r.rid = 0 then 0 else 1)
      { s with hub := { s.hub with sprLeft := s.hub.sprLeft.filter fun e => e.1 != r.rid } }

/-- A record dropped at a shard for its cancelled launch (R120). -/
def sproutDrop (sh : Nat) (r : SprRec) (s : State) : State := settleWholeRec r (cancelDrop sh s)

/-- The accepted records of a task that its shard still holds (R110), and the shard without them. -/
def State.keptOf (s : State) (handle : Nat) : List (Nat × SprRec) := s.hub.sprKept.filter fun q => q.2.producer == handle
def forgetKept (handle : Nat) (s : State) : State :=
  { s with hub := { s.hub with sprKept := s.hub.sprKept.filter fun q => q.2.producer != handle } }

/-- The held records of a task whose walk issues nothing are dropped (R69, R120). -/
def dropKept (sh handle : Nat) (s : State) : State :=
  (s.keptOf handle).foldl (fun t q => sproutDrop sh q.2 t) (forgetKept handle s)

/-- A WAITING or READY instance of a cancelled launch is freed without successor arrivals (R52). -/
def freeCancelled (sh n : Nat) (s : State) : State :=
  let v := s.slot sh n
  subOut v.ctx (ordSerial v.ordinal) 1
    (freeSlot sh n (dropKept sh (handleOf sh n v.gen) (dropSteep sh n v.gen (endStages sh n v.gen (removeReady sh n s)))))

/-- A grant of the present hub cycle that a cancellation makes void (R53, R82): its descriptor is not written and its slot
freed; what it counted stays counted (DESIGN CHOICE, log entry 84). -/
def voidGrant (sh n : Nat) (s : State) : State :=
  let v := s.slot sh n
  let g := s.engine v.engine
  freeCancelled sh n
    (s.setEngine v.engine { g with landing := g.landing.filter fun d => !(d.shard == sh && d.slot == n && d.gen == v.gen) })

/-- Whether a RUNNING slot was granted in the present hub cycle and its descriptor has not landed. -/
def State.justGranted (s : State) (sh n : Nat) (v : Slot) : Bool :=
  s.cyc.grants.contains (sh, n, v.gen) && (s.engine v.engine).landing.any fun d => d.shard == sh && d.slot == n && d.gen == v.gen

/-- Whether a remote-decrement request was sent by a task of a launch. -/
def State.remOf (s : State) (ctx serial : Nat) (r : RemDec) : Bool :=
  let v := s.slot (hShard r.producer) (hSlot r.producer)
  r.ctx == ctx && v.gen == hGen r.producer && ordSerial v.ordinal == serial

/-- The held remote-decrement requests of a cancelled launch are dropped (R314). -/
def dropRemHeld (ctx serial : Nat) (s : State) : State :=
  let gone := s.hub.remHeld.filter (s.remOf ctx serial)
  gone.foldl (fun t r => cancelDrop r.shard t)
    { s with hub := { s.hub with remHeld := s.hub.remHeld.filter fun r => !(s.remOf ctx serial r) } }

/-- The groups of a cancelled launch in a fold unit (R144): their requests not yet issued are gone, and a group goes when
none of its requests is in flight. -/
def FoldUnit.cancelGroups (ctx serial : Nat) (u : FoldUnit) : FoldUnit :=
  let mine := fun g : FGroup => g.ctx == ctx && g.serial == serial
  let reqs := u.reqs.filter fun r => r.eng.isSome || !(u.groups.any fun g => g.gid == r.grp && mine g)
  { u with
    reqs := reqs
    groups := u.groups.filterMap fun g =>
      if mine g then (if reqs.any fun r => r.grp == g.gid then some { g with dead := true } else none) else some g }

/-- The remainder of a launch that is not dispatched is cancelled (R173, R211 step 2). -/
def cancelRemainder (ctx serial : Nat) (s : State) : State :=
  let s0 := dropRemHeld ctx serial (s.modLaunch ctx serial fun l => { l with cancelled := true })
  let s1 : State := { s0 with fold := s0.fold.map fun e => (e.1, e.2.cancelGroups ctx serial) }
  let s2 := (s1.slotsWhere fun a b v => v.ctx == ctx && ordSerial v.ordinal == serial && v.state == .running && s1.justGranted a b v).foldl
    (fun t e => voidGrant e.1.1 e.1.2 t) s1
  (s2.slotsWhere fun _ _ v => v.ctx == ctx && ordSerial v.ordinal == serial && (v.state == .waiting || v.state == .ready)).foldl
    (fun t e => freeCancelled e.1.1 e.1.2 t) s2

/-- A fall-back has been pinned (R211 step 1). -/
def DlmEntry.hasFb (d : DlmEntry) : Bool := d.state != .tracking && d.pinFail.isNone

/-- The fall-back launches pinned for a launch. -/
def State.fallbacksOf (s : State) (ctx serial : Nat) : List Nat :=
  (s.dlm.filter fun d => d.ctx == ctx && d.serial == serial && d.hasFb).map (·.fbSerial)

/-- A launch is cancelled (R173): its remainder, the fall-back pinned for it, and its switch, which goes no further
(R212). The deadline entry stays until the launch ends. -/
def cancelLaunch (ctx serial : Nat) (s : State) : State :=
  let s1 := cancelRemainder ctx serial s
  let s2 := (s.fallbacksOf ctx serial).foldl (fun t f => cancelRemainder ctx f t) s1
  { s2 with dlm := s2.dlm.map fun d =>
      if d.ctx == ctx && (d.serial == serial || (d.hasFb && d.fbSerial == serial)) then { d with dead := true } else d }

/-- The launch fails with a CAUSE, of which the first is kept, and is cancelled in the same cycle (R172). -/
def failLaunch (ctx serial cause : Nat) (s : State) : State :=
  match s.launch? ctx serial with
  | some _ =>
    cancelLaunch ctx serial
      (s.modLaunch ctx serial fun l => { l with failed := true, cause := if l.cause = 0 then cause else l.cause })
  | none => s

/-- A CONTAINED report that names a launch, which fails (R172). -/
def reportLaunch (unit code ctx serial cause : Nat) (detail : Word) (s : State) : State :=
  failLaunch ctx serial cause (errContained unit code (some ctx) (some serial) detail s)

/-- A breach of a template image that the block detects (R16): code 0x1C, CAUSE 0x0008. -/
def reportBreach (unit ctx serial : Nat) (s : State) : State :=
  match s.launch? ctx serial with
  | some l => reportLaunch unit 0x1C ctx serial 8 (word [(15, 0, l.template)]) s
  | none => s

/-- Data of a launch's template or launch record reads as POISON (R172, R365): the report, which fails the launch with CAUSE
0x0005. -/
def dataFault (unit ctx serial a : Nat) (s : State) : State :=
  reportLaunch unit 0x04 ctx serial 5 (word [(47, 0, a)]) (pmc 22 0x4B none 1 s)

end Sys2Proof.Machine
end

