-- ==== Sys2Proof/Machine/FeOps.lean ====
section
/-! DEFINITION. Operations on command buffers that several families share: fields of an operation, the completion of an
operation and of the LOOP and CALL operations around it, the status of a command buffer. -/

namespace Sys2Proof.Machine

/-! ## Status codes (Table 06-6) -/

def stOK : Nat := 0x00
def stUNSUPPORTED : Nat := 0x01
def stCHANNEL_CLOSED : Nat := 0x02
def stABANDONED : Nat := 0x03
def stVERSION_BUSY : Nat := 0x04
def stTIMEOUT : Nat := 0x05
def stFALLBACK : Nat := 0x06
def stCANCELLED : Nat := 0x07
def stDEADLOCK : Nat := 0x08
def stSCOPE_MISMATCH : Nat := 0x0A
def stNOT_READY : Nat := 0x0B

/-! ## Fields of an operation (Tables 06-2, 06-4) -/

def opOPC (m : Rec4) : Nat := bits m.w0 63 56
def opCOND (m : Rec4) : Nat := bits m.w0 55 54
def opFENCE (m : Rec4) : Bool := bit m.w0 53
def opSOFT (m : Rec4) : Bool := bit m.w0 52
def opSET_EN (m : Rec4) : Bool := bit m.w0 51
def opSET_EV (m : Rec4) : Nat := bits m.w0 50 47
def opWAIT_MASK (m : Rec4) : Nat := bits m.w0 46 31
def opPRIO (m : Rec4) : Nat := bits m.w0 30 28
def opAUDIT (m : Rec4) : Bool := bit m.w0 27
def opRESIDENT (m : Rec4) : Bool := bit m.w0 26
def opSERVE (m : Rec4) : Bool := bit m.w0 25
def opSCOPE (m : Rec4) : Nat := bits m.w0 30 29
def opADD (m : Rec4) : Bool := bit m.w0 28
def opTID (m : Rec4) : Nat := bits m.w1 63 48
def opOBJ (m : Rec4) : Nat := bits m.w1 23 0
def opWTIME (m : Rec4) : Nat := bits m.w3 63 32
def opSRC (m : Rec4) : Nat := bits m.w1 47 0
def opDST (m : Rec4) : Nat := bits m.w2 47 0
def opLENGTH (m : Rec4) : Nat := bits m.w3 63 32

/-! ## Command buffers -/

def Cb.is (c : Cb) (ring idx : Nat) : Bool := c.ring == ring && c.idx == idx
def State.cb? (s : State) (ring idx : Nat) : Option Cb := s.cbs.find? (·.is ring idx)
def State.modCb (s : State) (ring idx : Nat) (f : Cb → Cb) : State :=
  { s with cbs := updFirst (·.is ring idx) f s.cbs }

def Cb.inst? (c : Cb) (pos : Nat) : Option OpInst := c.insts.find? fun i => i.pos == pos
def Cb.modInst (c : Cb) (pos : Nat) (f : OpInst → OpInst) : Cb :=
  { c with insts := updFirst (fun i => i.pos == pos) f c.insts }

/-- Started and incomplete. -/
def OpInst.isOpen (i : OpInst) : Bool := i.status.isNone

/-- Stands for every iteration of a loop: no iteration has this number (COUNT has 32 bits). -/
def everyIter : Nat := 2 ^ 32

/-- Whether an operation enclosed by iteration `k`, or by any iteration, of the operation at `pos` is incomplete. -/
def Cb.openWithin (c : Cb) (pos k : Nat) : Bool :=
  c.insts.any fun i => i.isOpen && i.encl.any fun e => e.1 == pos && (k == everyIter || e.2 == k)

/-- The local event of an operation that completes (R163). -/
def Cb.event (c : Cb) (m : Rec4) : Cb :=
  if opSET_EN m then { c with events := c.events ||| 2 ^ opSET_EV m } else c

/-- The status of a command buffer is set by the first event, and within one hub cycle by the one of the highest rank
(R178). -/
def Cb.setTerm (c : Cb) (t : Term) : Cb :=
  match c.term with
  | none => { c with term := some t }
  | some o => if o.hc = t.hc ∧ o.rank < t.rank then { c with term := some t } else c

/-- What the completion of an operation with a status in hub cycle `hc` does to its command buffer (R162, R178). -/
def Cb.opStatus (c : Cb) (hc pos st cls cause : Nat) (m : Rec4) : Cb :=
  let c1 := (c.event m).modInst pos fun i => { i with status := some st, held := false }
  let c2 := if st = stFALLBACK then { c1 with fallback := true } else c1
  if st = stOK ∨ st = stFALLBACK ∨ opSOFT m then c2 else c2.setTerm ⟨st, cause, cls, pos, hc, 0⟩

/-- LOOP and CALL operations whose part of the sequence has been issued complete with the last operation of it (R165,
R166), and those of a command buffer whose status is set with the last operation that they started (R178); inner ones
first. -/
def Cb.settleEnclosing (c : Cb) : Cb :=
  (c.insts.map (·.pos)).reverse.foldl (fun c p =>
    match c.inst? p with
    | some i =>
      if i.isOpen && ((i.issued && !c.openWithin p i.lastIter) ||
          (c.term.isSome && (opOPC i.m == 0x0A || opOPC i.m == 0x0C) && !c.openWithin p everyIter)) then
        c.opStatus 0 p stOK 0 0 i.m
      else c
    | none => c) c

/-! ## TEST (R167) -/

/-- The comparisons of Table 06-4; `none` for a reserved CMP. -/
def testHolds (cmp : Nat) (v imm : Word) : Option Bool :=
  match cmp with
  | 0 => some (v == imm)
  | 1 => some (v != imm)
  | 2 => some (decide (v.toNat < imm.toNat))
  | 3 => some (decide (imm.toNat ≤ v.toNat))
  | 4 => some ((v &&& imm) != 0)
  | 5 => some ((v &&& imm) == 0)
  | _ => none

/-- The TEST at `pos` completes with a value: the condition flag changes. -/
def Cb.testDone (c : Cb) (pos : Nat) (v : Word) (i : OpInst) : Cb :=
  match testHolds (bits i.m.w0 27 25) v i.m.w2 with
  | some b => { c with flag := b }.opStatus 0 pos stOK 0 0 i.m
  | none => c

/-- The TEST operations that wait for the status of the operation before them (SRC LAST). -/
def Cb.settleTests (c : Cb) : Cb :=
  (c.insts.map (·.pos)).foldl (fun c p =>
    match c.inst? p with
    | some i =>
      match i.waitFor with
      | some q =>
        match (c.inst? q).bind (·.status) with
        | some st => if i.isOpen then c.testDone p (BitVec.ofNat 64 st) i else c
        | none => c
      | none => c
    | none => c) c

/-- What follows the completion of an operation within its command buffer. -/
def Cb.settle (c : Cb) : Cb := c.settleTests.settleEnclosing

/-- The operation at a position of a command buffer completes; nothing when it is not open. A LAUNCH counts in LT_LAUNCH
(R393). -/
def completeOp (ring idx pos st cls cause : Nat) (s : State) : State :=
  match s.cb? ring idx with
  | none => s
  | some c =>
    match c.inst? pos with
    | none => s
    | some i =>
      if i.isOpen then
        ifThen (opOPC i.m == 1) (light c.ctx 3 1)
          (s.modCb ring idx fun c => (c.opStatus s.hc pos st cls cause i.m).settle)
      else s

/-- The status DEADLOCK of a command buffer whose LAUNCH FE_CANCEL cancelled with CAUSE 1, unless the operation is SOFT
(R186). -/
def Cb.dlkTerm (c : Cb) (hc pos : Nat) : Cb :=
  match c.inst? pos with
  | some i => if opSOFT i.m then c else c.setTerm ⟨stDEADLOCK, 0, 0, pos, hc, 0⟩
  | none => c

/-- The LAUNCH operation of a launch completes; the overrun of the launch shows in the completion record (R309). -/
def completeLaunchOp (l : Launch) (st cls cause : Nat) (s : State) : State :=
  match l.op with
  | some (ring, idx, pos) =>
    completeOp ring idx pos st cls cause (s.modCb ring idx fun c =>
      let c1 := { c with overrun := c.overrun || l.overrun }
      if l.dlk then c1.dlkTerm s.hc pos else c1)
  | none => s

/-! ## The reproducibility descriptor (R148) -/

/-- CHIPS of a context; 1 on a G4E. -/
def State.chips (s : State) (ctx : Nat) : Nat := if s.isG4 then s.fld (K.FRM_CTXn ctx) 23 13 else 1

/-- Table 05-12. -/
def reproWords (s : State) (l : Launch) (fallback : Bool) : List Word :=
  [word [(63, 56, 1), (55, 55, b2n l.framed), (54, 54, b2n l.ordered), (53, 53, b2n (l.framed && l.ordered && !fallback)),
     (52, 52, b2n fallback), (51, 41, s.chips l.ctx), (40, 33, if l.framed then s.frameLag l.ctx else 0),
     (32, 17, s.fld K.FLD_CFG 31 16)],
   word [(63, 32, if l.framed then s.frameLen else 0)], 0, 0, 0, 0, 0, 0]

/-- What a LAUNCH with AUDIT 1 leaves for its audit record: `f` is the launch that the digest names (R213). -/
def auditOf (s : State) (f : Launch) (pos : Nat) (fallback : Bool) : Audit :=
  ⟨pos, reproWords s f fallback, word [(63, 48, f.template), (31, 12, f.serial)], s.fld (K.FLD_CTXn f.ctx) 15 0, f.params⟩

/-- The record of an audited LAUNCH enters its command buffer, in execution order (R179). -/
def noteAudit (l f : Launch) (fallback : Bool) (s : State) : State :=
  match l.audit, l.op with
  | true, some (ring, idx, pos) =>
    s.modCb ring idx fun c => { c with audits := insertBy (fun a b : Audit => decide (a.pos < b.pos)) (auditOf s f pos fallback) c.audits }
  | _, _ => s

/-- The audit record of a LAUNCH that ended with no launch: the spec gives its words no content (DESIGN CHOICE, log entry 96:
free values). -/
def noteOpenAudit (ring idx pos : Nat) (m : Rec4) (s : State) : State :=
  if opAUDIT m then
    let w := fun i : Nat => Config.openWord (s.free + i)
    let a : Audit := ⟨pos, (List.range 8).map w, w 8, (w 9).toNat, (List.range 16).map fun i => w (10 + i)⟩
    { s.modCb ring idx (fun c => { c with audits := insertBy (fun a b : Audit => decide (a.pos < b.pos)) a c.audits }) with
      free := s.free + 26 }
  else s

/-! ## Resident launches (R174) -/

def DlmEntry.is (d : DlmEntry) (ctx serial : Nat) : Bool := d.ctx == ctx && d.serial == serial

/-- The entry of a launch whose LAUNCH operation completes is freed (R208). -/
def freeDlm (ctx serial : Nat) (s : State) : State := { s with dlm := s.dlm.filter fun d => !d.is ctx serial }

/-- A resident LAUNCH operation completes: with its audit record (R179), and its deadline entry freed (R208). -/
def completeResident (l : Launch) (s : State) : State :=
  completeLaunchOp l stOK 0 0 (noteAudit l l false
    (freeDlm l.ctx l.serial (s.modLaunch l.ctx l.serial fun l => { l with residentDone := true, op := none })))

/-- A root's descriptor has landed: a resident LAUNCH operation completes with the last of them (R174). -/
def residentLanded (ctx serial node : Nat) (s : State) : State :=
  match s.launch? ctx serial with
  | some l =>
    let keys := l.rootKeys.filter fun k => k.1 != node
    let s1 := s.modLaunch ctx serial fun l => { l with rootKeys := keys, roots := keys.length }
    if l.resident && !l.residentDone && !l.cancelled && !l.rootKeys.isEmpty && keys.isEmpty then completeResident l s1
    else s1
  | none => s

end Sys2Proof.Machine
end

