-- ==== Sys2Proof/Machine/Hub.lean ====
section
/-! DEFINITION. The hub shards (02_hub_shards_and_cellar.md): arrivals, parking, refill, tokens. -/

namespace Sys2Proof.Machine

/-! ## Cores that affinity names (R79 to R81) -/

/-- The near core of an address (R81). -/
def State.nearCore (s : State) (a : Nat) : Option Nat :=
  let n := a / 2 ^ s.fld K.DSP_CFG 7 3 % 256
  let e := s.fld (K.DSP_CHMAPn (n / 4)) (n % 4 * 8 + 7) (n % 4 * 8)
  if 128 ≤ e then some (e % 128) else none

/-- Entry of the last-run table (R80). -/
def lastRunIdx (ctx tid node : Nat) : Nat := ((tid % 4096) ^^^ (node % 4096) ^^^ (ctx * 64)) % 4096

def State.lastRunCore (s : State) (ctx tid node : Nat) : Option Nat :=
  match Tab.get (64, 0, 0, 0) s.disp.lastRun (lastRunIdx ctx tid node) with
  | (c, t, n, core) => if c = ctx ∧ t = tid ∧ n = node then some core else none

/-- near_core of an instance: that of its first STABLE input region. -/
def State.nearCoreOf (s : State) (l : Launch) (v : Slot) (n : Node) : Option Nat :=
  match (nodeRegions (s.imageOf l) n).find? fun r => !r.2.produced with
  | some r => s.nearCore (regionAddr r.2 l.params v.sprPtr)
  | none => none

/-- hint_core of an instance, by AFF_MODE. -/
def State.hintCore (s : State) (l : Launch) (v : Slot) (n : Node) : Option Nat :=
  match n.affMode with
  | 0 => none
  | 1 => s.lastRunCore l.ctx l.template n.index
  | 2 => some n.affCore
  | _ =>
    match (nodeRegions (s.imageOf l) n).find? fun r => r.1 == n.affCore % 16 with
    | some r => s.nearCore (regionAddr r.2 l.params v.sprPtr)
    | none => none

/-! ## Steep requests (R95, R96) -/

def State.steepThr (s : State) (ctx : Nat) : Nat := if s.isG4 then s.fld (K.DSP_CTXn ctx) 31 30 else 0

/-- Staging held or in flight for an instance, or its request on the way. -/
def State.hasSteep (s : State) (sh n gen : Nat) : Bool :=
  s.disp.steeps.any (·.ofSlot sh n gen) || s.disp.steepReqs.any fun r => r.shard == sh && r.slot == n && r.gen == gen

/-- The steep request of an arrival that left COUNTER at `after` from `before` (R95). -/
def steepNotice (sh n before after : Nat) (created : Bool) (s : State) : State :=
  let v := s.slot sh n
  let thr := s.steepThr v.ctx
  if (thr == 1 || thr == 2) && decide (1 ≤ after) && decide (after ≤ thr) && (created || decide (thr < before)) &&
      v.cls != clsJoin && !s.hasSteep sh n v.gen then
    match s.slotLaunch? v, s.slotNode? v with
    | some l, some nd =>
      match (s.hintCore l v nd).orElse fun _ => s.nearCoreOf l v nd with
      | some core => { s with disp := { s.disp with steepReqs := s.disp.steepReqs ++ [⟨sh, n, v.gen, core⟩] } }
      | none => s
    | _, _ => s
  else s

/-! ## Parking (R56 to R59) -/

def ParkedItem.ctx : ParkedItem → Nat
  | .edge a => a.ctx
  | .spr r => r.ctx

/-- The launch serial that an item carries (R65). -/
def ParkedItem.serial : ParkedItem → Nat
  | .edge a => ordSerial a.ordinal
  | .spr r => ordSerial r.baseOrd

/-- Positions in a pool block: 1 for an edge, 2 for a sprout record (R59). -/
def ParkedItem.size : ParkedItem → Nat
  | .edge _ => 1
  | .spr _ => 2

def Parked.inBucket (p : Parked) (ctx sh tree : Nat) : Bool := p.ctx == ctx && p.shard == sh && p.tree == tree

/-- Whether a context has items parked for a shard. -/
def State.hasParked (s : State) (ctx sh : Nat) : Bool := s.hub.parked.any fun p => p.ctx == ctx && p.shard == sh

def State.onBlock (s : State) (sh : Nat) : Nat := (s.hub.parked.filter fun p => p.shard == sh && !p.inCellar).length
def State.onBlockOf (s : State) (ctx sh : Nat) : Nat :=
  (s.hub.parked.filter fun p => p.shard == sh && p.ctx == ctx && !p.inCellar).length
def State.cellarItems (s : State) (ctx : Nat) : Nat := (s.hub.parked.filter fun p => p.ctx == ctx && p.inCellar).length

def CelBucket.empty : CelBucket := ⟨[]⟩
def State.celBucket (s : State) (ctx sh tree : Nat) : CelBucket := Tab.get CelBucket.empty s.hub.cellar (ctx, sh, tree)
def State.setCelBucket (s : State) (ctx sh tree : Nat) (b : CelBucket) : State :=
  { s with hub := { s.hub with cellar := Tab.put s.hub.cellar (ctx, sh, tree) b } }

/-- Pool pages that a context's cellar has in use. -/
def State.poolUsed (s : State) (ctx : Nat) : Nat :=
  ((s.hub.cellar.filter fun e => e.1.1 == ctx).map fun e => e.2.blocks.length).sum

/-- Whether `n` positions fit in a bucket's last block. -/
def CelBucket.tailFits (b : CelBucket) (n : Nat) : Bool :=
  match b.blocks.getLast? with
  | some u => decide (u.used + n ≤ 255)
  | none => false

/-- A bucket with an item of `n` positions more, in its last block or on the fresh page, with the page and the position that
the item takes. -/
def CelBucket.place (b : CelBucket) (n fresh : Nat) : CelBucket × Nat × Nat :=
  match b.blocks.getLast? with
  | some u =>
    if u.used + n ≤ 255 then (⟨b.blocks.dropLast ++ [{ u with used := u.used + n }]⟩, u.page, u.used)
    else (⟨b.blocks ++ [⟨fresh, 0, n⟩]⟩, fresh, 0)
  | none => (⟨[⟨fresh, 0, n⟩]⟩, fresh, 0)

/-- `n` positions read from the head: a block whose used positions have all been read returns to the pool. -/
def CelBucket.read (b : CelBucket) (n : Nat) : CelBucket :=
  match b.blocks with
  | u :: t => if u.used ≤ u.start + n then ⟨t⟩ else ⟨{ u with start := u.start + n } :: t⟩
  | [] => b

/-- The first block; page 0, which is no block's, when there is none. -/
def CelBucket.first (b : CelBucket) : CelBlock := b.blocks.headD ⟨0, 0, 0⟩

/-- The pool pages in use in a context's cellar, and the lowest free one, which heads the free list (the block's choice, log
entry 85). -/
def State.poolPages (s : State) (ctx : Nat) : List Nat :=
  (s.hub.cellar.filter fun e => e.1.1 == ctx).flatMap fun e => e.2.blocks.map (·.page)

def State.freshPage (s : State) (ctx : Nat) : Nat :=
  let used := s.poolPages ctx
  ((List.range (used.length + 1)).map (· + 577)).find? (fun p => !used.contains p) |>.getD 577

/-- The words of a parked item (Tables 02-4 and 04-1). -/
def ParkedItem.words : ParkedItem → List Word
  | .edge a => edgeWords a
  | .spr r => sproutWords r

/-- The header page, and the head of a bucket with the header of a block, as the cellar holds them; the places of their fields
are the model's (DESIGN CHOICE, log entry 85). -/
def celHeader (ctx : Nat) (s : State) : State :=
  writeWords uDispatch (some ctx) (s.celPage ctx 0)
    [word [(63, 32, s.freshPage ctx), (31, 0, s.poolUsed ctx)], BitVec.ofNat 64 (s.cellarItems ctx)] s

def celHead (ctx sh tree : Nat) (s : State) : State :=
  let b := s.celBucket ctx sh tree
  let n := (s.hub.parked.filter fun p => p.inBucket ctx sh tree && p.inCellar).length
  writeWords (uShard sh) (some ctx) (addr48 (s.celPage ctx 1 + 16 * (sh * 4096 + tree)))
    [word [(63, 32, b.first.page), (31, 0, (b.blocks.getLastD ⟨0, 0, 0⟩).page)], word [(63, 32, n), (31, 0, b.first.start)]] s

def celBlock (ctx sh next : Nat) (u : CelBlock) (s : State) : State :=
  writeWords (uShard sh) (some ctx) (s.celPage ctx u.page)
    [word [(63, 32, u.start), (31, 0, next)], BitVec.ofNat 64 u.used] s

/-- An item appended to the cellar part of a bucket: its record, the header of its block, the link of the block before it, the
bucket head and the header page. -/
def celAppend (c sh tree : Nat) (it : ParkedItem) (s : State) : State :=
  let b := s.celBucket c sh tree
  let (b1, page, pos) := b.place it.size (s.freshPage c)
  let s1 := s.setCelBucket c sh tree b1
  let s2 := { s1 with hub := { s1.hub with parked := s1.hub.parked ++ [⟨c, sh, tree, true, it⟩] } }
  let s3 := writeWords (uShard sh) (some c) (addr48 (s2.celPage c page + 16 + 16 * pos)) it.words s2
  let s4 := celBlock c sh 0 (b1.blocks.getLastD ⟨page, 0, pos + it.size⟩) s3
  let s5 := match b.blocks.getLast? with
    | some u => if u.page = page then s4 else celBlock c sh page u s4
    | none => s4
  celHeader c (celHead c sh tree s5)

/-- Whether the cellar can take an item of `n` positions (R59, R65). -/
def State.celHasRoom (s : State) (ctx sh tree n : Nat) : Bool :=
  decide (s.cellarItems ctx < (s.reg (K.CEL_LIMIT ctx)).toNat) &&
    ((s.celBucket ctx sh tree).tailFits n || decide (s.poolUsed ctx + 577 < (s.reg (K.CEL_SIZE ctx)).toNat))

def settleArr (a : Arrival) (s : State) : State :=
  match a.srec with
  | some rid => settleRec rid a.ctx (ordSerial a.ordinal) s
  | none => subOut a.ctx (ordSerial a.ordinal) 1 s

def settleItem (p : ParkedItem) (s : State) : State :=
  match p with
  | .edge a => settleArr a s
  | .spr r => settleWholeRec r s

/-- An item that must wait is filed in its bucket: on-block while R58 allows and it is not diverted, else in the cellar,
else it is lost and its launch fails (R65). -/
def parkItem (sh tree : Nat) (divert : Bool) (it : ParkedItem) (s : State) : State :=
  let c := it.ctx
  if !divert && !(s.hub.parked.any fun p => p.inBucket c sh tree && p.inCellar) &&
      decide (s.onBlock sh < s.fld K.HUB_CFG 31 20 * 64) &&
      decide (s.onBlockOf c sh < s.fld (K.CEL_CTRL c) 19 8 * 64) then
    { s with hub := { s.hub with parked := s.hub.parked ++ [⟨c, sh, tree, false, it⟩] } }
  else if s.celHasRoom c sh tree it.size then
    pmc sh 0x04 (some c) 1 (bump (K.CEL_SPILL c) 1 (celAppend c sh tree it s))
  else
    reportLaunch (uShard sh) 0x12 c it.serial 2 (BitVec.ofNat 64 sh) (settleItem it (bump (K.CEL_LOST c) 1 s))

/-! ## Applying an arrival -/

/-- The count of an arrival: AMOUNT for LATE, else 1. -/
def Arrival.count (a : Arrival) : Nat := if a.kind = .late then a.amount else 1

/-- An arrival to a counter that cannot give it (R68, R119). -/
def decZero (sh : Nat) (ctx handle : Nat) (s : State) : State :=
  errContained (uShard sh) 0x11 (some ctx) none (word [(63, 32, handle)]) (bumpWrap (K.SHD_DEC_ZERO sh) 1 s)

/-- COUNTER of an instance lowered by an arrival, which may make it ready (R34, R115, R117). -/
def applyTo (sh n : Nat) (a : Arrival) (created : Bool) (s : State) : State :=
  let v := s.slot sh n
  let k := a.count
  let v' := { v with counter := v.counter - k
                     sprPtr := if a.kind = .sprout ∧ !v.sprSet then a.ptr else v.sprPtr
                     sprSet := v.sprSet || a.kind == .sprout }
  let s1 := s.setSlot sh n v'
  if v.counter = k then becomeReady sh n s1
  else if a.kind = .late then s1
  else steepNotice sh n v.counter (v.counter - k) created s1

/-- An arrival that finds its instance (R32, R68). -/
def applyExisting (sh n : Nat) (a : Arrival) (s : State) : State :=
  let v := s.slot sh n
  if v.counter < a.count then settleArr a (decZero sh v.ctx (handleOf sh n v.gen) s)
  else settleArr a (applyTo sh n a false s)

/-- The instance of an arrival is created in slot `n` and the arrival applied to it, in one update (R32, R33). An arrival that
brings more than PRED_COUNT finds a counter that cannot give it: the instance is left WAITING, and never becomes ready (R35,
R68). One whose node record cannot be read is dropped with its launch (R172, R68). -/
def createAt (sh n : Nat) (a : Arrival) (reserved : Bool) (s : State) : State :=
  match s.launch? a.ctx (ordSerial a.ordinal) with
  | none => settleArr a (cancelDrop sh s)
  | some l =>
    match s.nodeBad l a.node, node? (s.imageOf l) a.node with
    | some x, _ => settleArr a (cancelDrop sh (dataFault (uShard sh) a.ctx (ordSerial a.ordinal) x s))
    | none, none => settleArr a (cancelDrop sh (reportBreach (uShard sh) a.ctx (ordSerial a.ordinal) s))
    | none, some nd =>
      let v : Slot := ⟨(s.slot sh n).gen, .waiting, a.ctx, a.vslot, nd.effPrio l.prio, nd.cls, nd.pred, a.ordinal, a.node,
        0, 0, 0, false, reserved, 0, 0, false⟩
      if a.kind = .root then
        settleArr a (addOut a.ctx (ordSerial a.ordinal) 1 (becomeReady sh n (s.setSlot sh n { v with counter := 0 })))
      else if nd.pred < a.count then
        settleArr a (decZero sh a.ctx (handleOf sh n v.gen) (addOut a.ctx (ordSerial a.ordinal) 1 (s.setSlot sh n v)))
      else settleArr a (addOut a.ctx (ordSerial a.ordinal) 1 (applyTo sh n a true (s.setSlot sh n v)))

/-- Whether a shard may create instances (R67). -/
def State.shardCreates (s : State) (sh : Nat) : Bool := s.active (.shard sh)

/-- R56: whether an arrival without an instance must park. -/
def State.mustPark (s : State) (sh ctx : Nat) : Bool :=
  decide (s.freeOrdinary sh = 0) || s.hasParked ctx sh || !s.shardCreates sh

/-- A sprout arrival parks as ONE: its record's account is settled and the ONE counted in its place (R109). -/
def parkOne (sh : Nat) (divert : Bool) (a : Arrival) (s : State) : State :=
  parkItem sh (ordTree a.ordinal) divert (.spr (oneRec a s.hub.nextRid))
    (addOut a.ctx (ordSerial a.ordinal) 1 (settleArr a { s with hub := { s.hub with nextRid := s.hub.nextRid + 1 } }))

/-- An arrival that has to wait is filed in its bucket (R57, R114). -/
def parkArr (sh : Nat) (divert : Bool) (a : Arrival) (s : State) : State :=
  if a.kind = .sprout then parkOne sh divert a s else parkItem sh (ordTree a.ordinal) divert (.edge a) s

/-- An arrival at its shard, off the crossbar (R56, R68, R114). One of a context that is being saved, is saved or is
being restored parks in its cellar, whatever its key (R203; for RESTORING log entry 20). -/
def arriveAt (sh pick : Nat) (a : Arrival) (s : State) : State :=
  let s0 := pmc sh 0x02 (some a.ctx) 1 (perturbed 1 s)
  if s0.dropsItem a.ctx (ordSerial a.ordinal) then settleArr a (cancelDrop sh s0)
  else if s0.saveHeld a.ctx then parkArr sh true a s0
  else
    match s0.findKey sh a.ctx a.node a.ordinal with
    | some (n, _) => applyExisting sh n a s0
    | none =>
      let (divert, s1) := perturb 5 s0
      let park := divert || s1.mustPark sh a.ctx ||
        (a.kind == .sprout && decide (s1.freeOrdinary sh ≤ s1.fld K.SPR_CFG 15 0))
      match park, s1.pickSlot sh pick with
      | false, some n => createAt sh n a false s1
      | _, _ => parkArr sh divert a s1

/-- The link of a crossbar source (Table 14-9). -/
def linkOfSrc (src : Nat) : Nat := if src < 16 then 0x8000 + src else if src < 20 then 0xA000 + (src - 16) else 0xE000

/-- An item put on its path (R55). -/
def sendItem (x : XItem) (s : State) : State :=
  ifThen (x.src != x.dst) (linkSent (linkOfSrc x.src) 1) { s with hub := { s.hub with xbar := s.hub.xbar ++ [x] } }

/-- An arrival of a shard or a fold unit put on its path. -/
def sendArr (src dst : Nat) (a : Arrival) (s : State) : State := sendItem ⟨src, dst, a, none⟩ s

def XItem.onPath (x : XItem) (src dst : Nat) : Bool := x.src == src && x.dst == dst

/-- Whether an arrival brings an instance to READY, which forms an L2 record: the shard intake holds it under back-pressure
(R397). -/
def State.holdsReady (s : State) (sh : Nat) (a : Arrival) : Bool :=
  s.traceHoldsFor a.ctx && !s.dropsItem a.ctx (ordSerial a.ordinal) &&
    match s.findKey sh a.ctx a.node a.ordinal with
    | some (_, v) => v.counter == a.count
    | none =>
      match (s.launch? a.ctx (ordSerial a.ordinal)).bind fun l => node? (s.imageOf l) a.node with
      | some nd => nd.pred == a.count || a.kind == .root
      | none => false

/-- The arrival at the head of a path, if it is of this kind, reaches its shard (R55). -/
def takeArrival (kind : ArrKind) (src dst pick : Nat) (s : State) : State :=
  match s.hub.xbar.find? (·.onPath src dst) with
  | some x =>
    if x.arr.kind = kind ∧ dst < s.shards ∧ s.holdsReady dst x.arr = false then
      arriveAt dst pick x.arr (ifThen (src != dst) (linkRecv (linkOfSrc src) 1)
        { s with hub := { s.hub with xbar := dropFirst (·.onPath src dst) s.hub.xbar } })
    else s
  | none => s

/-- DEC_ARRIVAL (R34). -/
def execDecArrival (src dst pick : Nat) (s : State) : Res := .next (whenRunning (takeArrival .dec src dst pick) s)

/-- LATE_ARRIVAL (R117, R119). -/
def execLateArrival (src dst pick : Nat) (s : State) : Res := .next (whenRunning (takeArrival .late src dst pick) s)

/-- SPROUT_ARRIVAL (R114). -/
def execSproutArrival (src dst pick : Nat) (s : State) : Res := .next (whenRunning (takeArrival .sprout src dst pick) s)

/-! ## Refill (R60, R68, R116) -/

/-- The arrival that a parked ONE or LATE record stands for. -/
def recArrival (sh : Nat) (r : SprRec) : Arrival :=
  if r.kind = 2 then ⟨.sprout, r.ctx, r.node, r.baseOrd, r.vslot, 0, r.ptr, sh, none⟩
  else ⟨.late, r.ctx, r.node, r.baseOrd, r.vslot, r.amount, 0, sh, some r.rid⟩

/-- The head of the lowest-tree bucket of a context for a shard. -/
def State.bucketHead (s : State) (ctx sh : Nat) : Option Parked :=
  match leastBy (fun a b : Parked => decide (a.tree < b.tree)) (s.hub.parked.filter fun p => p.ctx == ctx && p.shard == sh) with
  | some p => some p
  | none => none

/-- The head item leaves its bucket. -/
def unpark (p : Parked) (s : State) : State :=
  let s1 := { s with hub := { s.hub with parked := dropFirst (fun q => q.inBucket p.ctx p.shard p.tree) s.hub.parked } }
  if p.inCellar then
    celHeader p.ctx (celHead p.ctx p.shard p.tree
      (s1.setCelBucket p.ctx p.shard p.tree ((s1.celBucket p.ctx p.shard p.tree).read p.item.size)))
  else s1

/-- The address of a bucket's next cellar record, and whether the memory port answers its block with POISON. -/
def State.celNext (s : State) (p : Parked) : Nat :=
  let b := s.celBucket p.ctx p.shard p.tree
  addr48 (s.celPage p.ctx b.first.page + 16 + 16 * b.first.start)

def State.celPoison (s : State) (p : Parked) : Bool := p.inCellar && !s.readOk (s.celNext p) (16 * p.item.size)

/-- The read of a cellar record (R60). -/
def celRead (p : Parked) (s : State) : State :=
  ifThen p.inCellar (noteRead (uShard p.shard) (some p.ctx) (s.celNext p) (16 * p.item.size)) s

/-- The item leaves because refill has taken it. -/
def unparkRefill (p : Parked) (s : State) : State :=
  pmc p.shard 0x05 (some p.ctx) 1 (ifThen p.inCellar (bump (K.CEL_REFILL p.ctx) 1) (unpark p (celRead p s)))

/-- Items of the bucket's first cellar block, from its head, by their positions. -/
def firstBlockItems : Nat → List Parked → Nat
  | _, [] => 0
  | room, p :: t => if p.item.size ≤ room then firstBlockItems (room - p.item.size) t + 1 else 0

/-- A cellar block read as POISON (R68, R380): its items are not applied. DETAIL is the address of the record read. -/
def refillPoison (p : Parked) (s : State) : State :=
  let b := s.celBucket p.ctx p.shard p.tree
  let items := s.hub.parked.filter fun q => q.inBucket p.ctx p.shard p.tree
  let n := firstBlockItems (b.first.used - b.first.start) items
  let s1 := { s with hub := { s.hub with
    parked := (List.range n).foldl (fun l _ => dropFirst (fun q => q.inBucket p.ctx p.shard p.tree) l) s.hub.parked } }
  let s2 := celHeader p.ctx (celHead p.ctx p.shard p.tree (s1.setCelBucket p.ctx p.shard p.tree ⟨b.blocks.drop 1⟩))
  auditMark 0x5 (2 ^ p.ctx) 0x04
    (errContained (uShard p.shard) 0x04 (some p.ctx) none (word [(47, 0, s.celNext p)]) (pmc 22 0x4B none 1 s2))

/-- Instance `i` of a SPROUT record as an arrival (R113). -/
def sproutInstance (s : State) (sh : Nat) (r : SprRec) (i : Nat) : Option (Nat × Arrival) :=
  match s.launch? r.ctx (ordSerial r.baseOrd) with
  | none => none
  | some l =>
    match node? (s.imageOf l) r.node with
    | none => none
    | some _ =>
      let o := sproutOrdinal (hdrHops (s.imageOf l)) r.rule r.baseOrd i
      some (shardOf s.shards r.ctx r.node o, ⟨.sprout, r.ctx, r.node, o, r.vslot, 0, addr48 (r.ptr + i * r.pstride), sh, some r.rid⟩)

/-- Refill of a SPROUT record at a bucket head: its next instance is issued, and it stays until its last (R116). -/
def refillSprout (p : Parked) (r : SprRec) (s : State) : State :=
  match sproutInstance s p.shard r r.next with
  | none => settleItem p.item (reportBreach (uShard p.shard) r.ctx (ordSerial r.baseOrd) (unparkRefill p s))
  | some (dst, a) =>
    if r.count ≤ r.next + 1 then sendArr p.shard dst a (unparkRefill p s)
    else
      sendArr p.shard dst a { s with hub := { s.hub with
        parked := updFirst (fun q => q.inBucket p.ctx p.shard p.tree) (fun q => { q with item := .spr { r with next := r.next + 1 } })
          s.hub.parked } }

/-- An item of kind edge, ONE or LATE refilled: to its instance, an ordinary slot, or a reserved one; `none` when it
waits for a slot. -/
def refillArr (p : Parked) (a : Arrival) (pick : Nat) (s : State) : Option State :=
  if s.holdsReady p.shard a then none
  else
  match s.findKey p.shard a.ctx a.node a.ordinal with
  | some (n, _) => some (applyExisting p.shard n a (unparkRefill p s))
  | none =>
    if !s.shardCreates p.shard then none
    else
      match s.pickSlot p.shard pick with
      | none => none
      | some n =>
        if 0 < s.freeOrdinary p.shard then some (createAt p.shard n a false (unparkRefill p s))
        else if s.reservedHeld p.shard a.ctx < s.rsv a.ctx then some (createAt p.shard n a true (unparkRefill p s))
        else none

/-- Refill of a context's head item for a shard. A dropped item counts in CEL_DROP when it comes from the cellar part of its
bucket, a sprout record too, where R68 and R120 differ (DEDUCED, log entry 86). -/
def refillCtx (sh pick : Nat) (poison : Bool) (c : Nat) (s : State) : Option State :=
  match if s.saveHeld c then none else s.bucketHead c sh with
  | none => none
  | some p =>
    if p.inCellar && poison || s.celPoison p then some (refillPoison p s)
    else if s.dropsItem c p.item.serial then
      some (settleItem p.item (if p.inCellar then bump (K.CEL_DROP c) 1 (unpark p (celRead p s)) else cancelDrop sh (unpark p s)))
    else
      match p.item with
      | .edge a => refillArr p a pick s
      | .spr r => if r.kind = 0 then some (refillSprout p r s) else refillArr p (recArrival sh r) pick s

/-- The first context of a list whose item can be refilled. -/
def refillFirst (sh pick : Nat) (poison : Bool) (s : State) : List Nat → State
  | [] => s
  | c :: t =>
    match refillCtx sh pick poison c s with
    | some s1 => { s1 with hub := { s1.hub with refillRR := Tab.put s1.hub.refillRR sh c } }
    | none => refillFirst sh pick poison s t

/-- REFILL (R60): contexts round robin from the last served. -/
def execRefill (shard pick : Nat) (poison : Bool) (s : State) : Res :=
  .next (whenRunning (fun s => if shard < s.shards then
    refillFirst shard pick poison s (rrFrom (Tab.get 63 s.hub.refillRR shard + 1) 64) else s) s)

/-! ## Ready rings (R66, R74) -/

/-- The first entry of a list at a place moves on. -/
def moveFirst (src dst : Place) (ctx cls prio : Nat) (s : State) : State :=
  match s.hub.ready.find? fun e => e.inList ctx cls prio && e.place == src with
  | none => s
  | some e =>
    let l := dropFirst (fun e => e.inList ctx cls prio && e.place == src) s.hub.ready
    let s1 := { s with hub := { s.hub with ready := l } }
    if dst == .ring then ringInsert e s1
    else
      noteRead uDispatch (some ctx) (s.ringSlot ctx cls prio e.pos) 16
        { s1 with hub := { s1.hub with ready := insertBy ReadyEntry.before { e with place := dst, pos := 0 } l } }

/-- READY_RING_REFILL: the head of a list's ring moves to the directory. -/
def execReadyRingRefill (ctx cls prio : Nat) (s : State) : Res :=
  .next (whenRunning (fun s => if s.dirHasRoom ctx then moveFirst .ring .directory ctx cls prio s else s) s)

/-- READY_LINK_TO_RING: the oldest slot-linked entry of a list moves to its ring. -/
def execReadyLinkToRing (ctx cls prio : Nat) (s : State) : Res :=
  .next (whenRunning (fun s => if s.ringHeld ctx cls prio < 2048 then moveFirst .linked .ring ctx cls prio s else s) s)

/-! ## Completion tokens (R68, R87, R88) -/

def tokenDetail (t : Token) : Word := word [(63, 32, t.handle), (9, 0, t.engine)]

/-- The shard at which a token is counted: that of its handle, and with an absent one the present shard of the same low
bits (DEDUCED, log entry 11). -/
def State.tokenShard (s : State) (handle : Nat) : Nat := hShard handle % s.shards

def tokenDrop (stale : Bool) (t : Token) (s : State) : State :=
  let sh := s.tokenShard t.handle
  errContained (uShard sh) 0x10 (some t.ctx) none (tokenDetail t)
    (bumpWrap (if stale then K.SHD_TOK_STALE sh else K.SHD_TOK_DUP sh) 1 s)

/-- The stages that an accepted token serves: capacity has been freed on a reserved engine (R92, R93). -/
def noteFreed (eng : Nat) (preempted : Bool) (s : State) : State :=
  { s with disp := { s.disp with pre := s.disp.pre.map fun p =>
      if (p.victim == some eng && preempted) || (p.core.isSome && p.reserved.contains eng) then { p with acked := true } else p } }

/-- The granules of a task that ends are freed (R100). -/
def endSteep (sh n gen : Nat) (s : State) : State :=
  { s with disp := { s.disp with steeps := s.disp.steeps.filter fun t => !(t.ofSlot sh n gen && t.granted == some true) } }

/-- What every accepted token counts (R393, Table 14-1, Table 14-5). -/
def tokenCounts (sh n : Nat) (v : Slot) (t : Token) (s : State) : State :=
  let tg := s.slotTags v
  trace2 sh 0x13 (some v.ctx) t.engine (s.slotTask sh n) (word [(63, 32, t.busy), (17, 10, t.status), (9, 0, t.engine)])
    (pmcTask sh 0x01 v.ctx tg.1 tg.2 (light v.ctx 1 1 (light v.ctx 2 t.busy s)))

def isCkptNode (s : State) (v : Slot) : Bool :=
  match s.slotNode? v with
  | some nd => nd.ckpt
  | none => false

/-- A token that passed the checks, by its STATUS (R88). -/
def tokenAccept (sh n : Nat) (v : Slot) (t : Token) (s : State) : State :=
  let s1 := noteFreed t.engine (t.status == 1) (tokenCounts sh n v t s)
  if t.status = 1 then
    let v' := { v with state := .ready, engine := 0 }
    if s1.dropsItem v.ctx (ordSerial v.ordinal) then freeCancelled sh n (s1.setSlot sh n v')
    else readyEnter (slotEntry sh n v' true t.engine) (s1.setSlot sh n v')
  else
    let s2 := endSteep sh n v.gen s1
    if t.status = 0 then
      ifThen (isCkptNode s v) (noteCkpt v.ctx (ordSerial v.ordinal) v.node t.engine)
        (noteOverrun v (s2.setSlot sh n { v with state := .walking, partialPtr := t.partialPtr }))
    else
      reportLaunch (uShard sh) 0x14 v.ctx (ordSerial v.ordinal) 1 (tokenDetail t)
        (s2.setSlot sh n { v with state := .walking, silent := true })

/-- A token at its shard: the checks of R68 in order, then its STATUS. -/
def tokenTake (t : Token) (s : State) : State :=
  let sh := hShard t.handle
  let n := hSlot t.handle
  let v := s.slot sh n
  if t.handle = 0 ∨ s.shards ≤ sh then tokenDrop true t s
  else if v.gen ≠ hGen t.handle then tokenDrop true t s
  else if v.state ≠ .running ∨ v.engine ≠ t.engine then tokenDrop false t s
  else tokenAccept sh n v t (noteAcc ⟨3, t.partialPtr, 32, some v.ctx⟩ s)

/-- Whether back-pressure of the trace holds a token (R397). -/
def State.tokenHeld (s : State) (r : Rec4) : Bool := s.traceHoldsFor (parseToken r).ctx

/-- A token off lane T: the draw of R408, then its intake. -/
def tokenRun (r : Rec4) (s : State) : State := tokenTake (parseToken r) (perturbed 2 s)

/-- TOKEN_INTAKE (R88): a record of lane T. -/
def execTokenIntake (eng : Nat) (r : Rec4) (s : State) : Res :=
  .next (laneTake 0 eng 1 r (·.tokenHeld r) (tokenRun r) s)

end Sys2Proof.Machine
end

