-- ==== Sys2Proof/Machine/Arbiter.lean ====
section
/-! DEFINITION. Dispatch (03_dispatch.md): eligibility, selection and grants, work queues, express pre-emption, steeping, the
stations and their context masks. -/

namespace Sys2Proof.Machine

/-! ## Engines and stations -/

/-- The engines of a class on a core, in local order. -/
def coreEngines (core cls : Nat) : List Nat :=
  ((List.range 8).filter fun l => localClass l == cls).map fun l => core * 8 + l

/-- The context mask that a station applies (R197, R198). -/
def State.mask (s : State) (core : Nat) : Nat := Tab.get allCtxs s.disp.masks core
def State.admits (s : State) (core ctx : Nat) : Bool := (s.mask core).testBit ctx

/-- What one dispatch cycle has used: lanes left, and the engines that have received a descriptor. -/
structure Cycle where
  lanes : Nat
  used : List Nat
  deriving DecidableEq, Repr

/-- Entries in use in an engine's work queue, those granted and not landed included (R84). -/
def State.ringFill (s : State) (e : Nat) : Nat :=
  let g := s.engine e
  (g.pi + g.landing.length + 128 - g.ci) % 128

def PreStage.holds (p : PreStage) (e : Nat) : Bool := p.victim == some e || p.reserved.contains e

/-- An engine free for an entry in this cycle (R77, R197). -/
def State.engineFree (s : State) (cy : Cycle) (r : ReadyEntry) (e : Nat) : Bool :=
  s.active (.station (engCore e)) && s.disp.outOfReset.contains e && decide (s.ringFill e < 64) &&
  decide (s.outstanding e < s.fld (K.DSP_ELIMk (engClass e)) 13 0) &&
  !(s.disp.pre.any fun p => !(p.ofSlot r.shard r.slot r.gen) && p.holds e) &&
  !cy.used.contains e && decide ((cy.used.filter fun u => engCore u == engCore e).length < 2) &&
  (r.resume || s.admits (engCore e) r.ctx)

/-- A core's free engine of the entry's class with the fewer outstanding tasks, the lower on a tie (R79). -/
def State.bestFree (s : State) (cy : Cycle) (r : ReadyEntry) (core : Nat) : Option Nat :=
  leastBy (fun a b => decide (s.outstanding a < s.outstanding b)) ((coreEngines core r.cls).filter (s.engineFree cy r))

/-- The core on which an instance has staging held or in flight. -/
def State.steepCore (s : State) (r : ReadyEntry) : Option Nat :=
  (s.disp.steeps.find? (·.ofSlot r.shard r.slot r.gen)).map (·.core)

/-- The candidate cores of an affinity entry after its steep core. -/
def State.hintCores (s : State) (r : ReadyEntry) : List Nat :=
  let v := s.slot r.shard r.slot
  match s.slotLaunch? v, s.slotNode? v with
  | some l, some nd => (s.hintCore l v nd).toList ++ (s.nearCoreOf l v nd).toList
  | _, _ => []

/-- place (R79): the engine, and whether the scan returned it. -/
def State.place (s : State) (cy : Cycle) (r : ReadyEntry) (affinity : Bool) : Option (Nat × Bool) :=
  if r.resume then (if s.engineFree cy r r.resumeEng then some (r.resumeEng, false) else none)
  else
    let cands := (s.steepCore r).toList ++ (if affinity then s.hintCores r else [])
    match cands.findSome? (s.bestFree cy r) with
    | some e => some (e, false)
    | none => ((rrFrom (Tab.get 0 s.disp.scanPtr r.cls) 128).findSome? (s.bestFree cy r)).map fun e => (e, true)

/-! ## Eligibility (R76, R196, R309) -/

/-- Whether the frame in which an instance may run has started. -/
def State.frameAllows (s : State) (v : Slot) : Bool :=
  match s.slotLaunch? v, s.slotNode? v with
  | some l, some nd => !(l.framed && nd.frameEn) || s.ticked (l.startFrame + nd.frame)
  | _, _ => true

def State.eligible (s : State) (r : ReadyEntry) : Bool :=
  let v := s.slot r.shard r.slot
  r.place == .directory && decide (r.hc + 2 ≤ s.hc) && !s.dropsItem r.ctx (ordSerial v.ordinal) && s.frameAllows v &&
  ((s.ctx r.ctx).state == .enabled || (r.resume && ((s.ctx r.ctx).state == .paused || (s.ctx r.ctx).state == .saving)))

/-! ## Grants (R80, R82, R86, R99) -/

/-- The partition of a dispatch, and whether the node's request was denied (R24). -/
def State.partitionOf (s : State) (ctx : Nat) (nd : Node) : Nat × Bool :=
  if nd.partUse then
    if s.flag (K.CTX_PART ctx) (16 + nd.partition) then (nd.partition, false) else (s.fld (K.CTX_PART ctx) 3 0, true)
  else (s.fld (K.CTX_PART ctx) 3 0, false)

/-- The dispatch descriptor (Table 03-2). -/
def descriptor (s : State) (r : ReadyEntry) (v : Slot) (l : Launch) (nd : Node) (st : Option Steep) : Rec8 :=
  ⟨word [(63, 32, handleOf r.shard r.slot v.gen), (31, 26, v.ctx), (25, 22, (s.partitionOf v.ctx nd).1), (21, 19, v.prio),
     (18, 16, v.cls), (15, 15, b2n r.resume), (14, 14, b2n st.isSome), (13, 13, b2n (decide (v.prio < 2)))],
   v.ordinal, word [(63, 32, nd.kernel), (31, 16, nd.layer), (15, 0, nd.opId)], nd.arg0, nd.arg1,
   word [(63, 44, v.node), (43, 28, l.template), (27, 13, match st with | some t => t.mask | none => 0)],
   word [(47, 0, v.sprPtr)],
   word [(63, 48, match st with | some t => t.gran | none => 0), (47, 0, s.lrecAddr l.ctx l.serial)]⟩

/-- How a grant to a core uses the staging of an instance (R99, R100): HIT with STEEPED 1, else MISS. Staging that was answered
with POISON is a MISS (DESIGN CHOICE, log entry 87). -/
def useSteep (r : ReadyEntry) (core : Nat) (tg : Nat × Nat) (s : State) : Option Steep × State :=
  match s.disp.steeps.find? (·.ofSlot r.shard r.slot r.gen) with
  | none => (none, s)
  | some t =>
    let set (f : Steep → Option Steep) (s : State) : State :=
      { s with disp := { s.disp with steeps := s.disp.steeps.filterMap fun u => if u.ofSlot r.shard r.slot r.gen then f u else some u } }
    if t.core = core ∧ t.acked ∧ t.granted ≠ some false then
      (some t, pmcTask 16 0x12 r.ctx tg.1 tg.2 (bump (K.STN_STEEP_HIT t.core) 1 (set (fun u => some { u with granted := some true }) s)))
    else
      (none, pmcTask 16 0x13 r.ctx tg.1 tg.2 (bump (K.STN_STEEP_MISS t.core) 1
        (set (fun u => if u.acked then none else some { u with granted := some false }) s)))

/-- What a dispatch reads of an instance's template and launch record that is answered with POISON (R172): its address. -/
def State.dispatchBad (s : State) (l : Launch) (nd : Node) : Option Nat :=
  (s.nodeBad l nd.index).orElse fun _ => (s.regionBad l nd).orElse fun _ => s.lrecBad l

/-- The grant is one of the present hub cycle (R82). -/
def noteGrant (sh n gen : Nat) (s : State) : State := { s with cyc := { s.cyc with grants := s.cyc.grants ++ [(sh, n, gen)] } }

/-- A grant: the slot RUNNING on the engine, the last-run table and scan pointer, the descriptor on its way (R82). -/
def grantTo (r : ReadyEntry) (e : Nat) (scanned : Bool) (s : State) : State :=
  let v := s.slot r.shard r.slot
  match s.slotLaunch? v, s.slotNode? v with
  | some l, some nd =>
    let core := engCore e
    let (st, s1) := useSteep r core (nd.layer, nd.opId) s
    let d := descriptor s1 r v l nd st
    let s2 := ifThen (s.partitionOf v.ctx nd).2 (bump (K.CTX_PART_DENY v.ctx) 1) s1
    let s3 := endStages r.shard r.slot r.gen (removeReady r.shard r.slot (s2.setSlot r.shard r.slot { v with state := .running, engine := e }))
    let s4 := { noteGrant r.shard r.slot v.gen s3 with disp := { s3.disp with
      lastRun := Tab.put s3.disp.lastRun (lastRunIdx v.ctx l.template v.node) (v.ctx, l.template, v.node, core)
      scanPtr := if scanned then Tab.put s3.disp.scanPtr r.cls ((core + 1) % 128) else s3.disp.scanPtr
      steepReqs := s3.disp.steepReqs.filter fun q => !(q.shard == r.shard && q.slot == r.slot && q.gen == r.gen) } }
    let g := s4.engine e
    let s5 := s4.setEngine e { g with landing := g.landing ++ [⟨r.shard, r.slot, v.gen, d⟩] }
    trace2 16 0x11 (some v.ctx) e (taskWord nd.layer nd.opId (handleOf r.shard r.slot v.gen))
      (word [(9, 0, e), (10, 10, b2n st.isSome), (11, 11, b2n r.resume), (14, 12, v.prio)])
      (pmcTask 16 0x10 v.ctx nd.layer nd.opId s5)
  | _, _ => s

/-- The input regions of a granted instance (R21, R401). -/
def noteInputs (v : Slot) (l : Launch) (rs : List (Nat × Region)) (s : State) : State :=
  rs.foldl (fun t r => noteAcc ⟨2, regionAddr r.2 l.params v.sprPtr, r.2.length, some v.ctx⟩ t) s

/-- The entry that selection chose is granted, unless its template or launch record reads as POISON, which fails its launch
(R172). -/
def grant (r : ReadyEntry) (e : Nat) (scanned : Bool) (s : State) : State :=
  let v := s.slot r.shard r.slot
  match s.slotLaunch? v, s.slotNode? v with
  | some l, some nd =>
    match s.dispatchBad l nd with
    | some a => dataFault uDispatch v.ctx (ordSerial v.ordinal) a s
    | none => grantTo r e scanned (noteInputs v l (nodeRegions (s.imageOf l) nd) s)
  | _, _ => s

/-! ## Express pre-emption (R90 to R94) -/

/-- Outstanding tasks of priority 2 to 7 of an engine. -/
def State.yieldable (s : State) (e : Nat) : Nat :=
  (s.hub.slots.filter fun x => x.2.state == .running && x.2.engine == e && decide (2 ≤ x.2.prio)).length

def State.preemptsAt (s : State) (core : Nat) : Nat :=
  (s.disp.pre.filter fun p => match p.victim with | some v => engCore v == core | none => false).length

/-- An engine that can be chosen as victim for an entry (R90, R197). -/
def State.victimOk (s : State) (r : ReadyEntry) (e : Nat) : Bool :=
  s.disp.outOfReset.contains e && s.enabled (.station (engCore e)) && s.admits (engCore e) r.ctx &&
  !(s.disp.pre.any (·.holds e)) && decide (0 < s.yieldable e) && decide (s.preemptsAt (engCore e) < 8)

def allEngines (cls : Nat) : List Nat := (List.range 128).flatMap fun c => coreEngines c cls

def State.victim (s : State) (r : ReadyEntry) : Option Nat :=
  leastBy (fun a b => decide (s.yieldable b < s.yieldable a)) ((allEngines r.cls).filter (s.victimOk r))

def addStage (p : PreStage) (s : State) : State := { s with disp := { s.disp with pre := s.disp.pre ++ [p] } }

/-- No further pre-emption for the entry until it is placed or cancelled (R92, R93). -/
def preDone (sh n gen : Nat) (s : State) : State :=
  { s with disp := { s.disp with preDone := s.disp.preDone ++ [(sh, n, gen)] } }

/-- Outstanding tasks of a class on a core. -/
def State.coreLoad (s : State) (core cls : Nat) : Nat := ((coreEngines core cls).map s.outstanding).sum

/-- The cause word of CP_IRQ: handle, class, context (Table 03-5; the record's layout is the model's, log entry 8). -/
def cpCause (sh n gen cls ctx : Nat) : Rec4 := ⟨word [(63, 32, handleOf sh n gen), (8, 6, cls), (5, 0, ctx)], 0, 0, 0⟩

/-- The second stage (R92): the core of `at?` after a NACK, else the most loaded qualifying core; its engines of the
class that no other entry holds are reserved, and its control processor is interrupted. -/
def startCoreIrq (sh n gen ctx cls : Nat) (at? : Option Nat) (s : State) : State :=
  let okCore := fun c => s.enabled (.station c) && s.admits c ctx
  let core := match at? with
    | some c => if okCore c then some c else none
    | none => leastBy (fun a b => decide (s.coreLoad b cls < s.coreLoad a cls)) ((List.range 128).filter okCore)
  match core with
  | none => preDone sh n gen s
  | some c =>
    let res := (coreEngines c cls).filter fun e => !(s.disp.pre.any fun p => !(p.ofSlot sh n gen) && p.holds e)
    if res.isEmpty then preDone sh n gen s
    else
      sendLane (1024 + c) 0x5 (cpCause sh n gen cls ctx)
        (addStage ⟨sh, n, gen, ctx, cls, none, some c, res, s.tb, false, false⟩ s)

/-- start_preempt (R90): the victim is reserved and sent PREEMPT; without one, the second stage if CP_IRQ is 1. Table 03-4 names
what PREEMPT carries; the places of its two fields are the model's (DESIGN CHOICE, log entry 8). -/
def startPreempt (r : ReadyEntry) (s : State) : State :=
  match s.victim r with
  | some v =>
    pmc 16 0x15 (some r.ctx) 1
      (sendLane v 0x2 ⟨word [(63, 32, handleOf r.shard r.slot r.gen), (2, 0, 2)], 0, 0, 0⟩
        (addStage ⟨r.shard, r.slot, r.gen, r.ctx, r.cls, some v, none, [v], s.tb, false, false⟩ s))
  | none =>
    if s.flag (K.DSP_CTXn r.ctx) 28 then startCoreIrq r.shard r.slot r.gen r.ctx r.cls none s
    else preDone r.shard r.slot r.gen s

def State.mayPreempt (s : State) (r : ReadyEntry) : Bool :=
  s.flag (K.DSP_CTXn r.ctx) 29 && !(s.disp.pre.any (·.ofSlot r.shard r.slot r.gen)) &&
  !s.disp.preDone.contains (r.shard, r.slot, r.gen)

/-! ## The dispatch cycle (R78) -/

/-- The express order: stamp, shard, slot, context. -/
def expressBefore (a b : ReadyEntry) : Bool := a.before b || (!(b.before a) && decide (a.ctx < b.ctx))

def sortEntries (l : List ReadyEntry) : List ReadyEntry := l.foldl (fun acc e => insertBy expressBefore e acc) []

/-- An entry still in its list and eligible. -/
def State.stillEligible (s : State) (r : ReadyEntry) : Bool := s.hub.ready.contains r && s.eligible r

/-- The express pass over the entries of one priority. -/
def expressPass : List ReadyEntry → Cycle × State → Cycle × State
  | [], cs => cs
  | r :: t, (cy, s) =>
    if cy.lanes = 0 ∨ s.traceHoldsFor r.ctx then (cy, s)
    else
      match s.place cy r false with
      | some (e, sc) => expressPass t (⟨cy.lanes - 1, e :: cy.used⟩, grant r e sc s)
      | none => expressPass t (cy, if s.mayPreempt r then startPreempt r s else s)

/-- The first eligible entry of list (c, k, p) that can be placed. -/
def State.affinityPick (s : State) (cy : Cycle) (c k p : Nat) : Option (ReadyEntry × Nat × Bool) :=
  (s.hub.ready.filter fun e => e.inList c k p && s.eligible e).findSome? fun e =>
    (s.place cy e true).map fun pl => (e, pl.1, pl.2)

/-- One turn over contexts: one grant to each that has an entry that can be placed. -/
def affinityTurn (k p : Nat) : List Nat → Bool → Cycle × State → Bool × Cycle × State
  | [], served, cs => (served, cs)
  | c :: t, served, (cy, s) =>
    if cy.lanes = 0 ∨ s.traceHoldsFor c then (false, cy, s)
    else
      match s.affinityPick cy c k p with
      | none => affinityTurn k p t served (cy, s)
      | some (r, e, sc) =>
        let s1 := grant r e sc s
        affinityTurn k p t true (⟨cy.lanes - 1, e :: cy.used⟩,
          { s1 with disp := { s1.disp with rr := Tab.put s1.disp.rr (k, p) ((c + 1) % 64) } })

/-- Turns within a class and priority until one grants nothing; a turn that grants uses a lane, so `fuel` lanes bound
them. -/
def affinityTurns (k p : Nat) : Nat → Cycle × State → Cycle × State
  | 0, cs => cs
  | fuel + 1, (cy, s) =>
    match affinityTurn k p (rrFrom (Tab.get 0 s.disp.rr (k, p)) 64) false (cy, s) with
    | (true, cs) => affinityTurns k p fuel cs
    | (false, cs) => cs

/-- dispatch_cycle (R78). -/
def dispatchCycle (s : State) : State :=
  let k0 := s.disp.classPtr
  let s1 := { s with disp := { s.disp with classPtr := (k0 + 1) % 5 } }
  let express (p : Nat) (cs : Cycle × State) : Cycle × State :=
    expressPass (sortEntries (cs.2.hub.ready.filter fun e => e.prio == p && cs.2.eligible e)) cs
  let cs := express 1 (express 0 (⟨s1.grantRate, []⟩, s1))
  (([2, 3, 4, 5, 6, 7].flatMap fun p => (rrFrom k0 5).map fun k => (k, p)).foldl
    (fun cs kp => affinityTurns kp.1 kp.2 17 cs) cs).2

/-- DISPATCH_CYCLE (R78). -/
def execDispatchCycle (s : State) : Res := .next (whenRunning dispatchCycle s)

/-! ## Work queues (R83 to R85) -/

/-- The scratchpad window of a core (R252). -/
def scratchBase (core : Nat) : Nat := 0x80_0000_0000 + core * 0x40_0000

/-- The entry of a work queue at an index (R83, R84). -/
def State.wqAddr (s : State) (e i : Nat) : Nat :=
  scratchBase (engCore e) + s.fld (K.STN_AREA (engCore e)) 6 0 * 0x8000 + e % 8 * 4096 + i % 64 * 64

/-- DESCRIPTOR_LAND (R84): the oldest descriptor written for the engine is in its ring, and the producer index advances. -/
def descriptorLand (e : Nat) (s : State) : State :=
  let g := s.engine e
  match g.landing with
  | [] => s
  | d :: rest =>
    let v := s.slot d.shard d.slot
    if s.traceHoldsFor v.ctx then s
    else
      let tg := s.slotTags v
      let pi := (g.pi + 1) % 128
      let s1 := (writeWords uDispatch (some v.ctx) (s.wqAddr e g.pi) (words8 d.words) s).setEngine e { g with pi := pi, landing := rest }
      let s2 := light v.ctx 0 1 (bump (K.STN_DISP (engCore e)) 1 (sendLane e 0x1 ⟨BitVec.ofNat 64 pi, 0, 0, 0⟩ s1))
      residentLanded v.ctx (ordSerial v.ordinal) v.node
        (trace2 16 0x12 (some v.ctx) e (taskWord tg.1 tg.2 (handleOf d.shard d.slot d.gen)) (word [(9, 0, e), (16, 10, g.pi)])
          (pmcTask 16 0x11 v.ctx tg.1 tg.2 s2))

def execDescriptorLand (eng : Nat) (s : State) : Res := .next (whenRunning (descriptorLand eng) s)

/-- CONSUMER_INDEX_REPORT (R84): the 7-bit consumer index that the engine reports. -/
def execConsumerIndexReport (eng ci : Nat) (s : State) : Res :=
  .next (portTake (0x4000 + eng) 6 [BitVec.ofNat 64 (ci % 128)]
    (fun s => linkPass (0x4000 + eng) (s.setEngine eng { s.engine eng with ci := ci % 128 })) s)

/-! ## Answers and timeouts of pre-emption -/

def PreStage.forVictim (p : PreStage) (eng : Nat) (h : W32) : Bool :=
  p.victim == some eng && handleOf p.shard p.slot p.gen == h.toNat

/-- ACK_YIELD (R91, R93): counted; the stage, if it has not ended, is answered. -/
def execAckYield (eng : Nat) (handle : W32) (s : State) : Res :=
  .next (portTake (0x4000 + eng) 6 [BitVec.ofNat 64 handle.toNat] (fun s =>
    let s1 := linkPass (0x4000 + eng) (bumpFld (K.STN_PREEMPT (engCore eng)) 31 16 1 s)
    { s1 with disp := { s1.disp with pre := updFirst (·.forVictim eng handle) (fun p => { p with answered := true }) s1.disp.pre } }) s)

/-- A stage ends and nothing is started in its place. -/
def dropStage (p : PreStage) (s : State) : State := { s with disp := { s.disp with pre := dropFirst (fun q => q == p) s.disp.pre } }

/-- NACK (R92, R93): counted; the stage gives way to the interrupt of the victim's core when CP_IRQ is 1, and is released
otherwise. -/
def execNack (eng : Nat) (handle : W32) (s : State) : Res :=
  .next (portTake (0x4000 + eng) 6 [BitVec.ofNat 64 handle.toNat] (fun s =>
    let s1 := linkPass (0x4000 + eng) (bumpFld (K.STN_PREEMPT (engCore eng)) 15 0 1 s)
    match s1.disp.pre.find? (·.forVictim eng handle) with
    | none => s1
    | some p =>
      if s1.flag (K.DSP_CTXn p.ctx) 28 then startCoreIrq p.shard p.slot p.gen p.ctx p.cls (some (engCore eng)) (dropStage p s1)
      else preDone p.shard p.slot p.gen (dropStage p s1)) s)

/-- CP_ACK (R92): a cause has been read. The record carries nothing; that it answers the oldest interrupt of the core whose cause
has not been read is the model's (DESIGN CHOICE, log entry 88). -/
def execCpAck (core : Nat) (s : State) : Res :=
  .next (portTake (0x4000 + 1024 + core) 6 [0] (fun s =>
    let s1 := linkPass (0x4000 + 1024 + core) s
    { s1 with disp := { s1.disp with pre := updFirst (fun p => p.core == some core && !p.answered) (fun p => { p with answered := true }) s1.disp.pre } }) s)

/-- PRE_TIMEOUT in ns (Table 03-9). -/
def State.preTimeout (s : State) : Nat := s.fld K.DSP_CFG 31 16 * 16

def PreStage.expired (p : PreStage) (s : State) : Bool := decide (p.start + s.preTimeout ≤ s.tb)

/-- A stage that has come to its PRE_TIMEOUT ends (R93). It counts when it is unanswered or no capacity has been freed; one that
was answered and served, its entry still not placed, ends without a count (DEDUCED, log entry 89). -/
def stageTimeout (p : PreStage) (k : RegKey) (hi lo : Nat) (s : State) : State :=
  preDone p.shard p.slot p.gen (ifThen (!(p.answered && p.acked)) (bumpFld k hi lo 1) (dropStage p s))

/-- PREEMPT_TIMEOUT (R93): the PREEMPT stage of an engine ends. -/
def execPreemptTimeout (eng : Nat) (s : State) : Res :=
  .next (whenRunning (fun s =>
    withSome (s.disp.pre.find? fun p => p.victim == some eng && p.expired s) s
      fun p => stageTimeout p (K.STN_TIMEOUT (engCore eng)) 31 16 s) s)

/-- CP_IRQ_TIMEOUT (R93): an interrupt of a core is lowered. -/
def execCpIrqTimeout (core : Nat) (s : State) : Res :=
  .next (whenRunning (fun s =>
    withSome (s.disp.pre.find? fun p => p.core == some core && p.expired s) s
      fun p => stageTimeout p (K.STN_TIMEOUT core) 15 0 s) s)

/-! ## Steeping (R97 to R100) -/

/-- The regions that a station stages: STABLE, of LENGTH 1 to STEEP_MAX × 4 KiB, the first 4 (R97). -/
def State.steepRegions (s : State) (img : List Word) (nd : Node) : List (Nat × Region) :=
  ((nodeRegions img nd).filter fun r =>
    !r.2.produced && decide (1 ≤ r.2.length) && decide (r.2.length ≤ s.fld K.DSP_CFG 15 8 * 4096)).take 4

/-- Granules of 256 bytes that regions take (R86). -/
def granules (rs : List (Nat × Region)) : Nat := (rs.map fun r => ceilDiv r.2.length 256).sum

/-- Whether granules [g, g + n) lie in a station's steep area and are free. -/
def State.granFree (s : State) (core g n : Nat) : Bool :=
  let base := s.fld (K.STN_AREA core) 13 8 * 256
  decide (base ≤ g) && decide (g + n ≤ base + s.fld (K.STN_STEEP_SZ core) 5 0 * 256) &&
  !(s.disp.steeps.any fun t => t.core == core && decide (t.gran < g + n) && decide (g < t.gran + t.count))

/-- The granules given for a staging: those asked for, or the lowest free ones (the block's choice, log entry 4). -/
def State.granPick (s : State) (core g n : Nat) : Option Nat :=
  if s.granFree core g n then some g
  else ((List.range (s.fld (K.STN_STEEP_SZ core) 5 0 * 256)).map (· + s.fld (K.STN_AREA core) 13 8 * 256)).find? fun x => s.granFree core x n

def steepSkip (core ctx : Nat) (tg : Nat × Nat) (s : State) : State :=
  pmcTask 16 0x14 ctx tg.1 tg.2 (bump (K.STN_STEEP_SKIP core) 1 s)

/-- STEEP_REQUEST at its station (R97, R98): all regions staged, or none. -/
def steepRequest (core gran : Nat) (s : State) : State :=
  match s.disp.steepReqs.find? fun q => q.core == core with
  | none => s
  | some q =>
    let s1 := { s with disp := { s.disp with steepReqs := dropFirst (fun q => q.core == core) s.disp.steepReqs } }
    let v := s1.slot q.shard q.slot
    if v.gen ≠ q.gen ∨ !(v.state == .waiting || v.state == .ready) then s1
    else
      match s1.slotLaunch? v, s1.slotNode? v with
      | some l, some nd =>
        match s1.dispatchBad l nd with
        | some a => dataFault uDispatch v.ctx (ordSerial v.ordinal) a s1
        | none =>
        let tg := (nd.layer, nd.opId)
        let (refused, s2) := perturb 4 s1
        let rs := s2.steepRegions (s2.imageOf l) nd
        let n := granules rs
        let inFlight := (s2.disp.steeps.filter fun t => t.core == core && !t.acked).length
        if refused || rs.isEmpty || decide (64 ≤ inFlight) || !s2.active (.station core) || !s2.admits core v.ctx ||
            Tab.get 0 s2.disp.steepHc core == s2.hc + 1 then steepSkip core v.ctx tg s2
        else
          match s2.granPick core gran n with
          | none => steepSkip core v.ctx tg s2
          | some g =>
            let m := (rs.map fun r => 2 ^ r.1).sum
            let areas := rs.map fun r => (regionAddr r.2 l.params v.sprPtr, r.2.length)
            let s3 := { s2 with disp := { s2.disp with
              steeps := s2.disp.steeps ++ [⟨q.shard, q.slot, q.gen, v.ctx, core, g, n, m, false, none, false, areas⟩]
              steepHc := Tab.put s2.disp.steepHc core (s2.hc + 1) } }
            let part := (s2.partitionOf v.ctx nd).1
            areas.foldl (fun t r => noteReadIn uDispatch (some v.ctx) part r.1 r.2 (emit (.steepRead core r.1 r.2 part) t)) s3
      | _, _ => s1

def execSteepRequest (core gran : Nat) (s : State) : Res := .next (whenRunning (steepRequest core gran) s)

/-- The staged copies of the regions, each an address and a length, from the first granule upward. -/
def stageCopies (core ctx : Nat) : Nat → List (Nat × Nat) → State → State
  | _, [], s => s
  | g, r :: t, s =>
    stageCopies core ctx (g + ceilDiv r.2 256) t
      (writeBytes uDispatch (some ctx) (scratchBase core + g * 256) (s.bytesAt r.1 r.2) s)

/-- The first staged region that the memory port answers with POISON: its address. -/
def State.stagedBad (s : State) (t : Steep) : Option Nat := (t.regions.find? fun r => !s.readOk r.1 r.2).map (·.1)

/-- STEEP_WRITE_ACK: the last staged write of an instance is acknowledged (R98 to R100), of the regions that its staging
took, whatever holds the slot by then. A region read as POISON is reported against the context, naming no launch, and its staging
is not used (DESIGN CHOICE, log entry 87). -/
def steepWriteAck (shard n : Nat) (s : State) : State :=
  match s.disp.steeps.find? fun t => t.shard == shard && t.slot == n && !t.acked with
  | none => s
  | some t =>
    let bad := s.stagedBad t
    let s0 := match bad with
      | some a => errContained uDispatch 0x04 (some t.ctx) none (word [(47, 0, a)]) s
      | none => s
    let s1 := stageCopies t.core t.ctx t.gran (t.regions.filter fun r => s.readOk r.1 r.2) s0
    let l := if t.gone || t.granted == some false then dropFirst (fun u => u == t) s1.disp.steeps
      else updFirst (fun u => u == t)
        (fun u => { u with acked := true, granted := if bad.isSome then some false else u.granted }) s1.disp.steeps
    { s1 with disp := { s1.disp with steeps := l } }

def execSteepWriteAck (shard slot : Nat) (s : State) : Res := .next (whenRunning (steepWriteAck shard slot) s)

/-! ## Stations and shards: enable, drain, context masks (R67, R104, R198) -/

/-- A write of ENABLE through the window of a type (R359). -/
def windowEnable (o : Origin) (ty : Nat) (u : Nat → UnitId) (r : EnableRule) (v : W32) (s : State) : State :=
  enableGate (fun s => withSome (s.winInst o ty) s fun i => writeEnable (u i) false r (bit v 0) s) s

def execStnCtrlEnableWrite (o : Origin) (v : W32) (s : State) : Res :=
  .next (windowEnable o 5 .station alwaysEnable v s)

/-- The drain condition of a station (R104). -/
def State.stationEmpty (s : State) (core : Nat) : Bool :=
  ((List.range 8).all fun l => s.outstanding (core * 8 + l) == 0 && s.ringFill (core * 8 + l) == 0) &&
  !(s.disp.steeps.any fun t => t.core == core)

/-- A drain completion: when the unit drains and its condition holds. -/
def drainWhen (u : UnitId) (r : EnableRule) (cond : State → Bool) (s : State) : State :=
  if (s.unit u).draining && cond s then finishDrain u r s else s

def execStationDrainComplete (core : Nat) (s : State) : Res :=
  .next (whenRunning (drainWhen (.station core) alwaysEnable fun s => s.stationEmpty core) s)

def execShdCtrlEnableWrite (o : Origin) (v : W32) (s : State) : Res :=
  .next (windowEnable o 3 .shard alwaysEnable v s)

def execShardDrainComplete (shard : Nat) (s : State) : Res :=
  .next (whenRunning (drainWhen (.shard shard) alwaysEnable fun s => s.usedSlots shard == 0) s)

/-- STN_CTXM_WRITE (R198): the register holds the new mask, and the station switches until it applies it. -/
def execStnCtxmWrite (o : Origin) (hi : Bool) (v : W32) (s : State) : Res :=
  .next (hostWrite (fun s => withSome (s.winInst o 5) s fun c =>
    let s1 := s.setReg (if hi then K.STN_CTXM_HI c else K.STN_CTXM_LO c) v
    { s1 with disp := { s1.disp with switching := if s1.disp.switching.contains c then s1.disp.switching else s1.disp.switching ++ [c] } }) s)

/-- CTX_MASK_APPLY (R198): the station applies the mask that its registers hold. -/
def execCtxMaskApply (core : Nat) (s : State) : Res :=
  .next (if s.live && s.disp.switching.contains core then
    { s with disp := { s.disp with
        masks := Tab.put s.disp.masks core ((s.reg (K.STN_CTXM_LO core)).toNat + (s.reg (K.STN_CTXM_HI core)).toNat * 2 ^ 32)
        switching := s.disp.switching.filter fun c => c != core } }
    else s)

end Sys2Proof.Machine
end

