-- ==== Sys2Proof/Machine/FabHold.lean ====
section
/-! DEFINITION. Items that the fabric port has received: acknowledgements, lateness, remote decrements into the hub, orphans
(R315, R316, R321, R324). -/

namespace Sys2Proof.Machine

/-- Source ID of the fabric port (Table 08-4). -/
def srcFabric : Nat := 0xC000

/-- The ACK of one item, in ENTRY0 (R324; one entry a packet: log entry 23). -/
def ackItem (chip seq : Nat) (lost : Bool) (s : State) : State :=
  fabSend (packet s 5 chip 0 srcFabric 0 (word [(59, 59, 1), (58, 58, b2n lost), (57, 40, seq)]) 0) s

def ackOf (p : Rec8) (lost : Bool) (s : State) : State := ackItem (pSrcChip p) (pSeq p) lost s

/-- DETAIL of code 0x19. -/
def fabDetail (chip seq : Nat) : Word := word [(9, 0, chip), (49, 32, seq)]

/-- An item dropped at the port: counted in FAB_DISCARD and acknowledged LOST (R315). -/
def fabDiscard (p : Rec8) (s : State) : State := ackOf p true (bumpWrap K.FAB_DISCARD 1 s)

def pApply (p : Rec8) : Nat := p.w2.toNat

/-- Whether an item waits for the start of its APPLY_FRAME (R321). -/
def State.mustHold (s : State) (p : Rec8) : Bool := pApply p != 0 && !s.ticked (pApply p)

/-- An item that arrives at or after the start of its APPLY_FRAME (R321). -/
def State.isLate (s : State) (p : Rec8) : Bool := pApply p != 0 && s.ticked (pApply p)

def noteLate (p : Rec8) (s : State) : State :=
  pmc 21 0x42 (some (pCtx p)) 1 (bump (K.FRM_OVRn (pCtx p)) 1 (bump K.FAB_LATE 1 s))

/-! ## DEC packets (R315, R316) -/

def dOrd (p : Rec8) : Word := p.w3
def dSerial (p : Rec8) : Nat := ordSerial p.w3
def dNode (p : Rec8) : Nat := bits p.w4 63 44
def dKind (p : Rec8) : Nat := bits p.w4 43 42
def dAmount (p : Rec8) : Nat := bits p.w4 41 26

/-- The arrival of a DEC packet. -/
def decArr (p : Rec8) (vslot : Nat) : Arrival :=
  ⟨if dKind p = 1 then .late else .dec, pCtx p, dNode p, dOrd p, vslot, if dKind p = 1 then dAmount p else 1, 0, 0, none⟩

/-- A resolved DEC packet enters the hub (R315). -/
def decEnter (p : Rec8) (s : State) : State :=
  let vs := match s.launch? (pCtx p) (dSerial p) with
    | some l => l.vslot
    | none => 0
  ackOf p false (sendItem ⟨20, shardOf s.shards (pCtx p) (dNode p) (dOrd p), decArr p vs, some p⟩ s)

/-- A DEC packet that resolves: counted in OUTSTANDING (R428), held for its frame, or into the hub. -/
def decResolved (p : Rec8) (late : Bool) (s : State) : State :=
  let s1 := addOut (pCtx p) (dSerial p) 1
    (ifThen late (fun s => s.modLaunch (pCtx p) (dSerial p) fun l => { l with overrun := true }) s)
  if s1.mustHold p then { s1 with fab := { s1.fab with hold := s1.fab.hold ++ [p] } } else decEnter p s1

/-- The orphans of a launch that pins now, ahead of every later packet for it (R316). -/
def releaseOrphans (ctx serial : Nat) (s : State) : State :=
  let mine := fun o : Orphan => pCtx o.p == ctx && dSerial o.p == serial
  (s.fab.orphans.filter mine).foldl (fun t o => decResolved o.p o.late t)
    { s with fab := { s.fab with orphans := s.fab.orphans.filter fun o => !mine o } }

end Sys2Proof.Machine
end

