-- ==== Sys2Proof/Machine/Fold.lean ====
section
/-! DEFINITION. The fold units (05_ordered_fold.md): routing items, groups, the decision procedure, combine requests and
acknowledgements. -/

namespace Sys2Proof.Machine

/-! ## Units, descriptors, keys -/

/-- A fold unit after reset. The wait-area round robin starts with context 0 (DESIGN CHOICE, log entry 7). -/
def FoldUnit.empty : FoldUnit := ⟨[], [], [], [], 63⟩
def State.foldUnit (s : State) (u : Nat) : FoldUnit := Tab.get FoldUnit.empty s.fold u
def State.setFoldUnit (s : State) (u : Nat) (v : FoldUnit) : State := { s with fold := Tab.put s.fold u v }

/-- fold_unit_of (R125). -/
def foldUnitOf (ctx serial desc : Nat) : Nat :=
  let x0 : W32 := BitVec.ofNat 32 serial ^^^ BitVec.ofNat 32 desc ^^^ (BitVec.ofNat 32 ctx <<< 14)
  let x1 := x0 ^^^ (x0 >>> 16)
  let x2 := x1 ^^^ (x1 >>> 8)
  let x3 := x2 ^^^ (x2 >>> 4)
  let x4 := x3 ^^^ (x3 >>> 2)
  bits x4 1 0

/-- Table 05-1. -/
def parseFoldDesc (w : List Word) : FoldDesc :=
  let f0 := wordAt w 0; let f1 := wordAt w 1; let f2 := wordAt w 2; let f3 := wordAt w 3
  { sealNode := bits f0 63 44, doneNode := bits f0 43 24, doneEn := bit f0 23, keyHi := bits f0 22 17, keyLo := bits f0 16 11,
    elem := bits f0 10 8, op := bits f0 7 6, emptyFill := bit f0 5, dstSrc := bits f0 4 0,
    keyMin := bits f1 63 48, keyMax := bits f1 47 32, window := bits f1 31 16, idxHi := bits f1 15 10, idxLo := bits f1 9 4,
    idxEn := bit f1 0, dstOffset := bits f2 63 16, length := bits f3 63 32, dstStride := bits f3 31 0 }

/-- KW, the key width. -/
def FoldDesc.kw (d : FoldDesc) : Nat := d.keyHi - d.keyLo + 1

/-- The limits of R124. -/
def FoldDesc.ok (d : FoldDesc) : Bool :=
  decide (d.keyLo ≤ d.keyHi) && decide (d.kw ≤ 16) && decide (d.keyMin ≤ d.keyMax) && decide (d.keyMax < 2 ^ d.kw) &&
  decide (1 ≤ d.window) && decide (d.window ≤ d.keyMax - d.keyMin + 1) && decide (d.length ≠ 0) &&
  decide (d.length % 32 = 0) && (!d.idxEn || decide (d.idxHi - d.idxLo < 32))

/-- The destination of a group (R124). The base of a reserved DST_SRC is open: FREE VALUE, log entry 6. -/
def foldDest (d : FoldDesc) (params : List Word) (sealOrd : Word) : Nat :=
  let base := if d.dstSrc ≤ 16 then regionBase d.dstSrc params 0 else (Config.openWord d.dstSrc).toNat
  let idx := if d.idxEn then bits sealOrd d.idxHi d.idxLo else 0
  addr48 (base + d.dstOffset + idx * d.dstStride)

/-- The address of a descriptor in its table (R123). -/
def State.foldDescAddr (s : State) (ctx k : Nat) : Nat := addr48 (s.addrOf (K.FLDW_TBL_LO ctx) (K.FLDW_TBL_HI ctx) + 32 * k)

/-! ## Slots (R137, R138) -/

/-- The slots reserved by a group. -/
def FGroup.reserved (g : FGroup) : Nat := if g.released then 0 else g.d.window

def FoldUnit.reserved (u : FoldUnit) (p : FGroup → Bool) : Nat := ((u.groups.filter p).map FGroup.reserved).sum

def State.foldRsv (s : State) (ctx : Nat) : Nat := s.fld (K.FLD_CTXn ctx) 30 16
def State.foldRsvSum (s : State) : Nat :=
  ((List.range 64).map fun c => if s.enabled (.ctx c) then s.foldRsv c else 0).sum

/-- Whether a unit has a group record left: it never has more than 16,384 groups. -/
def FoldUnit.recordFree (u : FoldUnit) : Bool := decide (u.groups.length < 16384)

/-- Whether a group of `w` slots can open, and whether it takes them from the reserve; never beyond the unit's 16,384 slots and
group records. -/
def State.foldRoom (s : State) (u : FoldUnit) (ctx w : Nat) : Option Bool :=
  if 16384 < w + u.reserved (fun _ => true) ∨ u.recordFree = false then none
  else if w + u.reserved (fun g => !g.reserve) ≤ 16384 - s.foldRsvSum then some false
  else if w + u.reserved (fun g => g.reserve && g.ctx == ctx) ≤ s.foldRsv ctx then some true
  else none

/-- What a leaf shows once its slot has been freed. -/
def freedSlot : Nat := 16384

/-- Slots that a group has in use. -/
def FGroup.slotsUsed (g : FGroup) : List Nat :=
  if g.released then []
  else if g.arrival then g.running.toList.map (·.2) ++ g.queue.map (·.2)
  else (g.leaves.filterMap fun l => l.val.map (·.2)).filter fun x => decide (x < freedSlot)

/-- The lowest free slot of a unit. -/
def FoldUnit.newSlot (u : FoldUnit) : Nat :=
  let used := u.groups.flatMap FGroup.slotsUsed
  ((List.range (used.length + 1)).find? fun x => !used.contains x).getD 0

/-- The lowest group record not in use. -/
def FoldUnit.newGid (u : FoldUnit) : Nat :=
  ((List.range (u.groups.length + 1)).find? fun x => !(u.groups.any fun g => g.gid == x)).getD 0

/-! ## The decision procedure (R129, R130) -/

/-- A node of a group's tree. -/
inductive NodeVal where
  | undecided | empty
  | held (ptr slot : Nat)
  deriving DecidableEq, Repr

/-- Node (level, prefix) of a group. A node whose leaves all lie outside [KEY_MIN, KEY_MAX], or have received nothing when
the group is sealed, is EMPTY. -/
def nodeVal (g : FGroup) : Nat → Nat → NodeVal
  | 0, p =>
    match g.leaves.find? fun l => l.key == p with
    | some l => match l.val with
      | some v => .held v.1 v.2
      | none => .empty
    | none => if p < g.d.keyMin ∨ g.d.keyMax < p ∨ g.state ≠ .opened then .empty else .undecided
  | l + 1, p =>
    if g.leaves.any fun x => x.key / 2 ^ (l + 1) == p then
      match nodeVal g l (2 * p), nodeVal g l (2 * p + 1) with
      | .undecided, _ => .undecided
      | _, .undecided => .undecided
      | .empty, b => b
      | a, .empty => a
      | .held a x, .held _ _ => if g.combined.any fun c => c.1 == l + 1 && c.2 == p then .held a x else .undecided
    else if (p + 1) * 2 ^ (l + 1) ≤ g.d.keyMin ∨ g.d.keyMax < p * 2 ^ (l + 1) ∨ g.state ≠ .opened then .empty
    else .undecided

/-- The combines that the procedure issues in the subtree of a node: both children nonempty and decided. -/
def readyCombines (g : FGroup) : Nat → Nat → List FReq
  | 0, _ => []
  | l + 1, p =>
    if g.leaves.any fun x => x.key / 2 ^ (l + 1) == p then
      readyCombines g l (2 * p) ++ readyCombines g l (2 * p + 1) ++
      match nodeVal g l (2 * p), nodeVal g l (2 * p + 1) with
      | .held a x, .held b y =>
        if g.combined.any fun c => c.1 == l + 1 && c.2 == p then [] else [⟨g.gid, false, l + 1, p, 0, a, b, x, y, none⟩]
      | _, _ => []
    else []

/-- Tree order (R135): level, then prefix. -/
def FReq.before (a b : FReq) : Bool := decide (a.level < b.level) || (a.level == b.level && decide (a.pfx < b.pfx))

def FReq.same (a b : FReq) : Bool := a.grp == b.grp && a.fin == b.fin && a.level == b.level && a.pfx == b.pfx

/-- The root of a group: of its tree, or the running value of arrival mode once nothing waits for it (R136). -/
def FGroup.root (g : FGroup) : NodeVal :=
  if g.arrival then
    match g.running, g.queue with
    | some v, [] => .held v.1 v.2
    | none, _ => if g.state = .opened then .undecided else .empty
    | _, _ => .undecided
  else nodeVal g g.d.kw 0

def FoldUnit.setGroup (u : FoldUnit) (g : FGroup) : FoldUnit := { u with groups := updFirst (fun h => h.gid == g.gid) (fun _ => g) u.groups }
def FoldUnit.group? (u : FoldUnit) (gid : Nat) : Option FGroup := u.groups.find? fun g => g.gid == gid
def FoldUnit.dropGroup (u : FoldUnit) (gid : Nat) : FoldUnit := { u with groups := u.groups.filter fun g => g.gid != gid }

/-- The combines that fall due for a group. -/
def newCombines (u : FoldUnit) (g : FGroup) : List FReq :=
  if g.arrival then
    match g.running, g.queue with
    | some a, b :: _ => if u.reqs.any (fun r => r.grp == g.gid) then [] else [⟨g.gid, false, 0, 0, 0, a.1, b.1, a.2, b.2, none⟩]
    | _, _ => []
  else ((readyCombines g g.d.kw 0).filter fun r => !(u.reqs.any (·.same r))).foldl (fun acc r => insertBy FReq.before r acc) []

/-! ## Arrivals that a fold unit issues (R127, R131) -/

/-- An arrival of fold unit `u` for a node of a launch, counted in OUTSTANDING (R428). SRC_SHARD of a seal instance's arrival is
the shard that issued the contribution; a done arrival, which no shard issued, carries 0 (DESIGN CHOICE, log entry 92). -/
def foldArrival (u ctx serial vslot srcShard node : Nat) (o : Word) (s : State) : State :=
  addOut ctx serial 1
    (sendArr (16 + u) (shardOf s.shards ctx node o) ⟨.dec, ctx, node, o, vslot, 1, 0, srcShard, none⟩ s)

/-- The ordinal of a node's instance from a predecessor ordinal, by the image that the launch pins; `none` for a breach. -/
def State.deriveFor (s : State) (ctx serial node : Nat) (pred : Word) : Option Word :=
  match s.launch? ctx serial with
  | none => none
  | some l =>
    match node? (s.imageOf l) node with
    | none => none
    | some nd => derive? (hdrHops (s.imageOf l)) nd pred

/-- The group is finished: its slots are released and its done arrival is sent (R129, R131). -/
def finishGroup (u : Nat) (g : FGroup) (s : State) : State :=
  let s1 := s.setFoldUnit u ((s.foldUnit u).dropGroup g.gid)
  if g.d.doneEn then
    match s1.launchNodeBad g.ctx g.serial g.d.doneNode, s1.deriveFor g.ctx g.serial g.d.doneNode g.sealOrd with
    | some a, _ => dataFault (uFold u) g.ctx g.serial a s1
    | none, some o => foldArrival u g.ctx g.serial g.vslot 0 g.d.doneNode o s1
    | none, none => reportBreach (uFold u) g.ctx g.serial s1
  else s1

/-- The destination of a group of a launch in flight. -/
def State.destOf (s : State) (g : FGroup) : Nat :=
  match s.launch? g.ctx g.serial with
  | some l => foldDest g.d l.params g.sealOrd
  | none => 0

/-- The MOVE or FILL of finish(g) falls due. -/
def issueFinish (u : Nat) (g : FGroup) (opc b : Nat) (v : FoldUnit) (s : State) : State :=
  let r : FReq := ⟨g.gid, true, 0, 0, opc, s.destOf g, b, 0, 0, none⟩
  s.setFoldUnit u ({ v with reqs := v.reqs ++ [r] }.setGroup { g with state := .finishing })

/-- decide(g) with finish(g) (R129). -/
def runGroup (u gid : Nat) (s : State) : State :=
  let v := s.foldUnit u
  match v.group? gid with
  | none => s
  | some g =>
    if g.dead then s
    else
      let v1 := { v with reqs := v.reqs ++ newCombines v g }
      match g.state, g.root with
      | .isSealed, .held p _ => issueFinish u g 1 p v1 s
      | .isSealed, .empty =>
        if g.d.emptyFill then issueFinish u g 2 0 v1 s else finishGroup u g (s.setFoldUnit u v1)
      | _, _ => s.setFoldUnit u v1

/-! ## Routing items (R125, R126, R139, R143) -/

def FoldItem.serial (i : FoldItem) : Nat := ordSerial i.ordinal

/-- DETAIL of code 0x15. -/
def foldDetail (desc u : Nat) : Word := word [(51, 32, desc), (1, 0, u)]

/-- A dropped item that fails its launch (R143, R172). -/
def foldDrop (k : RegKey) (u : Nat) (i : FoldItem) (s : State) : State :=
  reportLaunch (uFold u) 0x15 i.ctx i.serial 4 (foldDetail i.desc u) (bumpWrap k 1 s)

/-- What an item that is not dropped at once is: its descriptor with the seal ordinal of its group. -/
inductive ItemView where
  | cancelled | badDesc
  | poison (a : Nat)
  | breach
  | isSeal (d : FoldDesc)
  | part (d : FoldDesc) (sealOrd : Word)
  deriving DecidableEq, Repr

/-- Whether an item belongs to a group by the group's copy of the descriptor (R123, R126). -/
def State.itemOf (s : State) (i : FoldItem) (g : FGroup) : Bool :=
  g.ctx == i.ctx && g.serial == i.serial && g.desc == i.desc && !g.dead &&
    (if g.d.sealNode = i.node then g.sealOrd == i.ordinal
     else s.deriveFor i.ctx i.serial g.d.sealNode i.ordinal == some g.sealOrd)

/-- The open group of an item, and what its copy of the descriptor makes of the item. -/
def State.openGroupOf (s : State) (i : FoldItem) : Option FGroup :=
  (s.foldUnit (foldUnitOf i.ctx i.serial i.desc)).groups.find? (s.itemOf i)

def FGroup.view (g : FGroup) (i : FoldItem) : ItemView := if g.d.sealNode = i.node then .isSeal g.d else .part g.d g.sealOrd

/-- What the descriptor in the table makes of an item. -/
def State.readView (s : State) (i : FoldItem) : ItemView :=
  if (s.reg (K.FLDW_TBL_N i.ctx)).toNat ≤ i.desc then .badDesc
  else
    match s.readWords (s.foldDescAddr i.ctx i.desc) 4 with
    | none => .poison (s.foldDescAddr i.ctx i.desc)
    | some w =>
      let d := parseFoldDesc w
      if !d.ok then .breach
      else if d.sealNode = i.node then .isSeal d
      else
        match s.launchNodeBad i.ctx i.serial d.sealNode, s.deriveFor i.ctx i.serial d.sealNode i.ordinal with
        | some a, _ => .poison a
        | none, some o => .part d o
        | none, none => .breach

/-- The first rows of Table 05-10, cancellation first (R144). An item of an open group goes by the copy that the group took when
it opened; only an item without one is looked up in the table (R123). -/
def State.viewItem (s : State) (i : FoldItem) : ItemView :=
  if s.dropsItem i.ctx i.serial then .cancelled
  else
    match s.openGroupOf i with
    | some g => g.view i
    | none => s.readView i

def ItemView.isSealItem : ItemView → Bool
  | .isSeal _ => true
  | _ => false

/-- The open group of an item (R126). -/
def FoldUnit.groupOf (u : FoldUnit) (i : FoldItem) (sealOrd : Word) : Option FGroup :=
  u.groups.find? fun g => g.ctx == i.ctx && g.serial == i.serial && g.desc == i.desc && g.sealOrd == sealOrd && !g.dead

/-- ORDERED of a context (R136). -/
def State.orderedCtx (s : State) (ctx : Nat) : Bool := s.flag (K.FLD_CTXn ctx) 31

def accepted (i : FoldItem) (s : State) : State := bump (K.FLDW_ACCEPT i.ctx) 1 s

/-- A contribution accepted by group `gid`: its leaf is decided, its DEC arrival goes to the seal instance, and the group
is run (R127). -/
def acceptPart (u gid : Nat) (i : FoldItem) (s : State) : State :=
  let v := s.foldUnit u
  match v.group? gid with
  | none => s
  | some g =>
    let x := v.newSlot
    let val : Option (Nat × Nat) := if i.ptr = 0 then none else some (i.ptr, x)
    let g1 := { g with leaves := g.leaves ++ [⟨bits i.ordinal g.d.keyHi g.d.keyLo, val⟩], accepted := g.accepted + 1 }
    let g2 := if g.arrival then
        match val, g.running with
        | some w, none => { g1 with running := some w }
        | some w, some _ => { g1 with queue := g1.queue ++ [w] }
        | none, _ => g1
      else g1
    runGroup u gid
      (foldArrival u i.ctx i.serial i.vslot i.srcShard g.d.sealNode g.sealOrd (accepted i (s.setFoldUnit u (v.setGroup g2))))

/-- A contribution to an open group: the rows of Table 05-10 that look at the group, then acceptance. -/
def takePart (u : Nat) (g : FGroup) (i : FoldItem) (s : State) : State :=
  let key := bits i.ordinal g.d.keyHi g.d.keyLo
  if g.state ≠ .opened ∨ g.leaves.any (fun l => l.key == key) then foldDrop (K.FLDW_DUP i.ctx) u i s
  else if g.d.window ≤ g.accepted then foldDrop (K.FLDW_OVER i.ctx) u i s
  else acceptPart u g.gid i s

/-- The read of a descriptor that opens a group (R123). -/
def readDesc (u : Nat) (i : FoldItem) (s : State) : State := noteRead (uFold u) (some i.ctx) (s.foldDescAddr i.ctx i.desc) 32 s

/-- Opens the group of a contribution and accepts it. -/
def openGroup (u : Nat) (i : FoldItem) (d : FoldDesc) (sealOrd : Word) (reserve : Bool) (s : State) : State :=
  let v := s.foldUnit u
  let gid := v.newGid
  let g : FGroup := ⟨gid, i.serial, i.desc, i.ctx, i.vslot, .opened, !s.orderedCtx i.ctx, reserve, sealOrd, 0, s.tb, d, [], [],
    none, [], false, false⟩
  acceptPart u gid i (readDesc u i (s.setFoldUnit u { v with groups := v.groups ++ [g] }))

/-- Items of a context in its wait area, of all units. -/
def State.foldWaiting (s : State) (ctx : Nat) : Nat :=
  ((List.range 4).map fun u => ((s.foldUnit u).waiting.filter fun i => i.ctx == ctx).length).sum

/-- The address of a position of a context's wait area, and the lowest free position (the block's choice, log entry 93). -/
def State.waitAddr (s : State) (ctx pos : Nat) : Nat := addr48 (s.addrOf (K.FLDW_WAIT_LO ctx) (K.FLDW_WAIT_HI ctx) + 32 * pos)

def State.waitPos (s : State) (ctx : Nat) : Nat :=
  let used := (List.range 4).flatMap fun u => ((s.foldUnit u).waiting.filter fun i => i.ctx == ctx).map (·.pos)
  ((List.range (used.length + 1)).find? fun p => !used.contains p).getD 0

/-- Table 05-2. -/
def foldItemWords (i : FoldItem) : List Word :=
  [word [(63, 44, i.node), (43, 24, i.desc), (23, 18, i.ctx), (17, 16, i.vslot)], i.ordinal, word [(47, 0, i.ptr)],
   BitVec.ofNat 64 i.stamp]

/-- An item is filed in its context's wait area, or lost when that is full (R139, R65's counterpart in Table 05-10). -/
def fileItem (u : Nat) (i : FoldItem) (s : State) : State :=
  if s.foldWaiting i.ctx < (s.reg (K.FLDW_WAIT_N i.ctx)).toNat then
    let v := s.foldUnit u
    let i' := { i with pos := s.waitPos i.ctx }
    writeWords (uFold u) (some i.ctx) (s.waitAddr i.ctx i'.pos) (foldItemWords i') (s.setFoldUnit u { v with waiting := v.waiting ++ [i'] })
  else reportLaunch (uFold u) 0x12 i.ctx i.serial 4 (BitVec.ofNat 64 u) (bumpWrap (K.FLDW_LOST i.ctx) 1 s)

/-- A seal (R128). One that finds no open group waits while every group record is in use (DESIGN CHOICE, log entry 94). -/
def takeSeal (u : Nat) (i : FoldItem) (d : FoldDesc) (s : State) : State :=
  let v := s.foldUnit u
  match v.groupOf i i.ordinal with
  | some g =>
    if g.state ≠ .opened then foldDrop (K.FLDW_DUP i.ctx) u i s
    else runGroup u g.gid (accepted i (s.setFoldUnit u (v.setGroup { g with state := .isSealed })))
  | none =>
    if v.recordFree then
      let gid := v.newGid
      let g : FGroup := ⟨gid, i.serial, i.desc, i.ctx, i.vslot, .isSealed, !s.orderedCtx i.ctx, false, i.ordinal, 0, s.tb, d, [], [],
        none, [], false, true⟩
      runGroup u gid (accepted i (readDesc u i (s.setFoldUnit u { v with groups := v.groups ++ [g] })))
    else fileItem u i s

/-- The rows of Table 05-10 that need no group. -/
def dropView (u : Nat) (i : FoldItem) (w : ItemView) (s : State) : State :=
  match w with
  | .cancelled => bumpWrap (K.FLDW_CANCEL i.ctx) 1 s
  | .badDesc => foldDrop (K.FLDW_REFUSED i.ctx) u i s
  | .poison a =>
    reportLaunch (uFold u) 0x04 i.ctx i.serial 5 (BitVec.ofNat 64 a) (bumpWrap (K.FLDW_REFUSED i.ctx) 1 (pmc 22 0x4B none 1 s))
  | .breach => reportBreach (uFold u) i.ctx i.serial (bumpWrap (K.FLDW_REFUSED i.ctx) 1 s)
  | _ => s

/-- A contribution whose key lies outside [KEY_MIN, KEY_MAX]. -/
def keyOutside (i : FoldItem) (d : FoldDesc) : Bool :=
  decide (bits i.ordinal d.keyHi d.keyLo < d.keyMin) || decide (d.keyMax < bits i.ordinal d.keyHi d.keyLo)

/-- Whether a contribution can be taken now: its group is open, or can open (R138). -/
def State.canTake (s : State) (u : Nat) (i : FoldItem) (d : FoldDesc) (sealOrd : Word) : Bool :=
  ((s.foldUnit u).groupOf i sealOrd).isSome || (s.foldRoom (s.foldUnit u) i.ctx d.window).isSome

/-- A contribution that is taken, to its group or to a new one. -/
def takeNow (u : Nat) (i : FoldItem) (d : FoldDesc) (sealOrd : Word) (s : State) : State :=
  match (s.foldUnit u).groupOf i sealOrd with
  | some g => takePart u g i s
  | none =>
    match s.foldRoom (s.foldUnit u) i.ctx d.window with
    | some reserve => openGroup u i d sealOrd reserve s
    | none => fileItem u i s

/-- A newly arrived item (R138, R139, R143; R203 for a context that is saved). -/
def takeItem (u : Nat) (i : FoldItem) (s : State) : State :=
  match s.viewItem i with
  | .isSeal d => if s.saveHeld i.ctx then fileItem u i s else takeSeal u i d s
  | .part d o =>
    if keyOutside i d then foldDrop (K.FLDW_REFUSED i.ctx) u i s
    else if s.saveHeld i.ctx then fileItem u i s
    else if ((s.foldUnit u).groupOf i o).isNone && (s.foldUnit u).waiting.any (fun j => j.ctx == i.ctx) then fileItem u i s
    else takeNow u i d o s
  | w => dropView u i w s

/-! ## The wait area (R139) -/

/-- The sample tree of a waiting item's group. -/
def State.itemTree (s : State) (i : FoldItem) : Nat :=
  match s.viewItem i with
  | .part _ o => ordTree o
  | _ => ordTree i.ordinal

/-- The waiting items of a context in admission order. -/
def State.waitOrder (s : State) (u ctx : Nat) : List FoldItem :=
  ((s.foldUnit u).waiting.filter fun i => i.ctx == ctx).foldl
    (fun acc i => insertBy (fun a b => decide (s.itemTree a < s.itemTree b)) i acc) []

/-- Whether a waiting item can be admitted: only the first of its context may open a group. -/
def State.admissible (s : State) (u : Nat) (first : Bool) (i : FoldItem) : Bool :=
  match s.viewItem i with
  | .part d o => if first then s.canTake u i d o else ((s.foldUnit u).groupOf i o).isSome
  | .isSeal _ => ((s.foldUnit u).groupOf i i.ordinal).isSome || (s.foldUnit u).recordFree
  | _ => true

/-- The item that a context has admitted next. -/
def State.nextAdmit (s : State) (u ctx : Nat) : Option FoldItem :=
  if s.saveHeld ctx then none
  else
    match s.waitOrder u ctx with
    | [] => none
    | i :: t => if s.admissible u true i then some i else t.find? (s.admissible u false)

/-- The next admission of a unit: contexts round robin. -/
def State.firstAdmit? (s : State) (u : Nat) : Option FoldItem :=
  (rrFrom ((s.foldUnit u).waitRR + 1) 64).findSome? (s.nextAdmit u)

/-- An admitted item leaves the wait area. -/
def leaveWait (u : Nat) (i : FoldItem) (s : State) : State :=
  let v := s.foldUnit u
  s.setFoldUnit u { v with waiting := dropFirst (· == i) v.waiting, waitRR := i.ctx }

/-- POISON on a wait-area item (R380, Table 13-9): the item is gone and its context's account uncertain. -/
def waitPoison (u : Nat) (i : FoldItem) (s : State) : State :=
  auditMark 0x8 (2 ^ i.ctx) 0x04 (errContained (uFold u) 0x04 (some i.ctx) none (word [(47, 0, s.waitAddr i.ctx i.pos)])
    (pmc 22 0x4B none 1 (leaveWait u i s)))

def admitItem (u : Nat) (i : FoldItem) (s : State) : State :=
  let s1 := leaveWait u i (noteRead (uFold u) (some i.ctx) (s.waitAddr i.ctx i.pos) 32 s)
  match s1.viewItem i with
  | .isSeal d => takeSeal u i d s1
  | .part d o => takeNow u i d o s1
  | w => dropView u i w s1

/-- FOLD_WAIT_ADMIT (R139); `poison` says that the memory port answers the read of the item with POISON. -/
def execFoldWaitAdmit (unit : Nat) (poison : Bool) (s : State) : Res :=
  .next (whenRunning (fun s =>
    match s.firstAdmit? unit with
    | none => s
    | some i => if poison || !s.readOk (s.waitAddr i.ctx i.pos) 32 then waitPoison unit i s else admitItem unit i s) s)

/-! ## Items off the routing paths -/

/-- The head item of a path, of which `want` tells the kind; an admissible waiting item goes first (R139). -/
def routingItem (want : ItemView → Bool) (src unit : Nat) (s : State) : State :=
  match (s.foldUnit unit).routing.find? fun i => i.srcShard == src with
  | none => s
  | some i =>
    if !want (s.viewItem i) || (s.firstAdmit? unit).isSome then s
    else
      let v := s.foldUnit unit
      let i' := { i with stamp := s.tb }
      takeItem unit i'
        (bump (K.FLDW_ROUTED i.ctx) 1 (pmc 17 0x20 (some i.ctx) 1 (perturbed 3 (linkRecv (0x9000 + src * 4 + unit) 1
          (s.setFoldUnit unit { v with routing := dropFirst (fun j => j.srcShard == src) v.routing })))))

/-- FOLD_CONTRIBUTION (R127, R138, R143): also an item dropped before its kind is known. -/
def execFoldContribution (src unit : Nat) (s : State) : Res :=
  .next (whenRunning (routingItem (fun w => !w.isSealItem) src unit) s)

/-- FOLD_SEAL (R128). -/
def execFoldSeal (src unit : Nat) (s : State) : Res := .next (whenRunning (routingItem ItemView.isSealItem src unit) s)

/-! ## Combine requests and acknowledgements (R132, R343) -/

/-- Requests in flight to a CMB engine, from all units. -/
def State.combinesTo (s : State) (eng : Nat) : Nat :=
  ((List.range 4).map fun u => ((s.foldUnit u).reqs.filter fun r => r.eng == some eng).length).sum

/-- The requests that a unit may issue, in the order in which they fell due (R150 holds those of a context being saved). -/
def State.issuable (s : State) (u : Nat) : List FReq :=
  (s.foldUnit u).reqs.filter fun r => r.eng.isNone &&
    match (s.foldUnit u).group? r.grp with
    | some g => !g.dead && !s.saveHeld g.ctx
    | none => false

/-- Table 05-3. -/
def combineWords (u : Nat) (s : State) (g : FGroup) (r : FReq) : Rec4 :=
  ⟨word [(63, 62, r.opc), (61, 59, g.d.elem), (58, 57, g.d.op), (56, 51, g.ctx), (50, 47, s.fld (K.CTX_PART g.ctx) 3 0),
     (46, 45, u), (44, 31, r.slotA)], word [(47, 0, r.a)], word [(47, 0, r.b)], word [(63, 32, g.d.length), (31, 12, g.desc)]⟩

/-- COMBINE_REQUEST_ISSUE: one of the requests that wait (which: the block's choice, log entry 4) to a CMB engine that
has a credit. -/
def combineIssue (u eng k : Nat) (s : State) : State :=
  let l := s.issuable u
  match l[k % l.length]? with
  | none => s
  | some r =>
    match (s.foldUnit u).group? r.grp with
    | none => s
    | some g =>
      if engClass eng ≠ 4 ∨ 1024 ≤ eng ∨ 8 ≤ s.combinesTo eng ∨ s.traceHoldsFor g.ctx then s
      else
        let v := s.foldUnit u
        let rest := dropFirst (fun q => q.eng.isNone && q.same r) v.reqs
        trace2 17 0x15 (some g.ctx) 0 (foldDetail g.desc u) (word [(63, 62, r.opc), (13, 0, r.slotA)])
          (pmc 17 0x21 (some g.ctx) 1 (sendLane eng 0x6 (combineWords u s g r)
            (perturbed 8 (s.setFoldUnit u { v with reqs := rest ++ [{ r with eng := some eng }] }))))

def execCombineRequestIssue (unit eng k : Nat) (s : State) : Res := .next (whenRunning (combineIssue unit eng k) s)

/-- A dead group goes with its last request in flight (R144). -/
def reapGroup (u gid : Nat) (s : State) : State :=
  let v := s.foldUnit u
  if v.reqs.any fun r => r.grp == gid then s else s.setFoldUnit u (v.dropGroup gid)

/-- The tag that a request carries as SLOT. -/
def FReq.tag (r : FReq) : Nat := if r.fin then 0 else r.slotA

/-- A node whose combine is acknowledged: the value of its right subtree is consumed and its slot freed (R132). -/
def combineNode (g : FGroup) (level pfx : Nat) : FGroup :=
  { g with
    combined := g.combined ++ [(level, pfx)]
    leaves := g.leaves.map fun l =>
      if l.key / 2 ^ (level - 1) = 2 * pfx + 1 then { l with val := l.val.map fun v => (v.1, freedSlot) } else l }

/-- A request of a live group acknowledged DONE. -/
def combineDone (u : Nat) (g : FGroup) (r : FReq) (s : State) : State :=
  if r.fin then finishGroup u g s
  else
    let g1 := if g.arrival then { g with queue := g.queue.drop 1 } else combineNode g r.level r.pfx
    runGroup u g.gid (s.setFoldUnit u ((s.foldUnit u).setGroup g1))

/-- A request of a live group that failed (Table 05-10): the group fails, its slots are released at once (DEDUCED, log
entry 22), and its launch fails. -/
def combineFault (u : Nat) (g : FGroup) (s : State) : State :=
  let s1 := reportLaunch (uFold u) 0x15 g.ctx g.serial 4 (foldDetail g.desc u) (bumpWrap (K.FLDW_FAULT g.ctx) 1 s)
  match (s1.foldUnit u).group? g.gid with
  | some h => reapGroup u g.gid (s1.setFoldUnit u ((s1.foldUnit u).setGroup { h with dead := true, released := true }))
  | none => s1

/-- The acknowledgement of request `r` of unit `u`. -/
def settleReq (u : Nat) (r : FReq) (ok : Bool) (s : State) : State :=
  let v := s.foldUnit u
  let s1 := s.setFoldUnit u { v with reqs := dropFirst (fun q => q == r) v.reqs }
  match v.group? r.grp with
  | none => s1
  | some g => if g.dead then reapGroup u g.gid s1 else if ok then combineDone u g r s1 else combineFault u g s1

/-- COMBINE_ACK (R129, R132): matched to the oldest request in flight to that engine with its UNIT and SLOT. -/
def combineAck (r : Rec4) (s : State) : State :=
  let eng := bits r.w0 63 54
  let u := bits r.w0 53 52
  let x := bits r.w0 51 38
  match (s.foldUnit u).reqs.find? fun q => q.eng == some eng && q.tag == x with
  | some q => settleReq u q (decide (bits r.w0 37 30 = 0)) s
  | none =>
    let (w, s1) := openWord s
    errContained (uFold u) 0x15 none none (foldDetail w.toNat u) s1

def execCombineAck (eng : Nat) (r : Rec4) (s : State) : Res :=
  .next (portTake (0x3000 + eng) 6 (words4 r) (fun s => linkPass (0x3000 + eng) (combineAck r s)) s)

end Sys2Proof.Machine
end

