-- ==== Sys2Proof/Machine/SyncOps.lean ====
section
/-! DEFINITION. Synchronisation objects (08_sync_objects_and_barriers.md): translation of names, application of signals,
release of waiters, intake of waits. -/

namespace Sys2Proof.Machine

/-! ## Source IDs (Table 08-4) -/

def srcRing (ring : Nat) : Nat := 0x4000 + ring
def srcExit : Nat := 0x8000
def srcBarrier : Nat := 0x8001

/-- The class bits of a source ID: 0 engine or control processor, 1 front end, 2 block unit, 3 fabric port. -/
def srcClass (src : Nat) : Nat := src / 2 ^ 14 % 4

/-- The core of an engine or control-processor source. -/
def srcCore (src : Nat) : Nat := if src % 2 ^ 11 < 1024 then src % 2 ^ 11 / 8 else src % 2 ^ 11 - 1024

/-- One observer (R251): each engine, each control processor, and the front end as a whole. -/
def sameObserver (chipA a chipB b : Nat) : Bool := chipA == chipB && (a == b || (srcClass a == 1 && srcClass b == 1))

/-- The containment of Table 09-2: whether scope `sc` of observer `a` contains `b`. On a G4E FABRIC acts as CHIP. -/
def scopeHas (sc chipA a chipB b : Nat) : Bool :=
  match sc with
  | 0 => sameObserver chipA a chipB b
  | 1 => sameObserver chipA a chipB b ||
      (chipA == chipB && srcClass a == 0 && srcClass b == 0 && srcCore a == srcCore b)
  | 2 => chipA == chipB
  | _ => true

/-! ## Objects and names (R215, R218, R220) -/

def State.obj? (s : State) (p : Nat) : Option Obj := Tab.get none s.sync.objs p
def State.setObj (s : State) (p : Nat) (o : Option Obj) : State := { s with sync := { s.sync with objs := Tab.put s.sync.objs p o } }

/-- The address of an object-table entry. -/
def State.vtAddr (s : State) (ctx v : Nat) : Nat := addr48 (s.addrOf (K.SYN_VT_LOn ctx) (K.SYN_VT_HIn ctx) + 8 * v)

inductive Name where
  | unmapped | poison
  | phys (p : Nat)
  deriving DecidableEq, Repr

/-- The physical object of a name (R220). -/
def State.nameOf (s : State) (ctx v : Nat) : Name :=
  if (s.reg (K.SYN_VT_Nn ctx)).toNat ≤ v then .unmapped
  else
    match s.readWords (s.vtAddr ctx v) 1 with
    | none => .poison
    | some w =>
      let e := wordAt w 0
      match s.obj? (bits e 17 0) with
      | some o => if bit e 63 && o.ctx == ctx then .phys (bits e 17 0) else .unmapped
      | none => .unmapped

/-- The read of an object-table entry by a translation. The translation cache keeps nothing here: each translation reads its
entry, where R220 leaves the block free (DESIGN CHOICE, log entry 98). -/
def readVt (ctx v : Nat) (s : State) : State :=
  ifThen (decide (v < (s.reg (K.SYN_VT_Nn ctx)).toNat)) (noteRead uSync (some ctx) (s.vtAddr ctx v) 8) s

/-- An entry of the object table written (Table 08-2). -/
def writeVt (ctx v : Nat) (valid token : Bool) (p : Nat) (s : State) : State :=
  writeWords uSync (some ctx) (s.vtAddr ctx v) [word [(63, 63, b2n valid), (62, 61, if token then 2 else 1), (17, 0, p)]] s

/-- The report of a POISON on an entry of the object table (R220, R380). -/
def notePoison (ctx v : Nat) (s : State) : State :=
  auditMark 0x10 (2 ^ ctx) 0x04
    (errContained uSync 0x04 (some ctx) none (BitVec.ofNat 64 (s.vtAddr ctx v)) s)

/-- A use of an unmapped name: counted and reported, with the POISON in addition (R220). -/
def noteUnmapped (ctx v : Nat) (poison : Bool) (s : State) : State :=
  errContained uSync 0x16 (some ctx) none (word [(23, 0, v)]) (bump K.SYN_UNMAPPED 1
    (ifThen poison (notePoison ctx v) s))

/-! ## Waiters (R228 to R233) -/

/-- Release order: priority, arrival stamp, source ID (R230). -/
def Waiter.before (a b : Waiter) : Bool :=
  decide (a.prio < b.prio) || (a.prio == b.prio && (decide (a.stamp < b.stamp) || (a.stamp == b.stamp && decide (a.src < b.src))))

def sortWaiters (l : List Waiter) : List Waiter := l.foldl (fun acc w => insertBy Waiter.before w acc) []

def State.waitersOf (s : State) (p : Nat) : List Waiter := sortWaiters (s.sync.waiters.filter fun w => w.phys == p)

/-- WHO of a waiter (Table 08-5). -/
def Waiter.who (w : Waiter) : Nat := if w.isEng then w.handle else w.ring % 8 * 2 ^ 29 + w.pos % 2 ^ 20

/-- P0 of a WAIT or RELEASE record (Table 14-5). -/
def State.waiterTask (s : State) (w : Waiter) : Word :=
  if w.isEng && w.handle != 0 then
    let tg := s.slotTags (s.slot (hShard w.handle) (hSlot w.handle))
    taskWord tg.1 tg.2 w.handle
  else BitVec.ofNat 64 w.who

/-- A release notice (R231). -/
def notice (handle st : Nat) (value : Word) : Rec4 := ⟨word [(63, 32, handle), (31, 24, st)], value, 0, 0⟩

/-- The pool of Table 08-5 on this variant. -/
def State.poolFull (s : State) : Bool := decide (s.poolSize ≤ s.sync.waiters.length)

/-- A waiter is answered with a status and the object's value (R231). `chip` and `src` name the signaller. -/
def answerWaiter (w : Waiter) (st value chip src : Nat) (s : State) : State :=
  let s1 := if w.isEng then sendLane (w.src % 2048) 0x3 (notice w.handle st (BitVec.ofNat 64 value)) (linkPass 0xC000 s)
    else completeOp w.ring w.idx w.pos st 0 0 s
  trace1 18 0x02 (some w.ctx) src (s.waiterTask w) (word [(63, 54, chip), (53, 38, src), (37, 30, st), (17, 0, w.phys)])
    (pmc 18 0x29 (some w.ctx) 1 s1)

def dropWaiter (w : Waiter) (s : State) : State :=
  { s with sync := { s.sync with waiters := dropFirst (· == w) s.sync.waiters } }

/-- The status of a release on the strength of a signal (R233). -/
def scopeStatus (w : Waiter) (chip src sc : Nat) (s : State) : Nat × State :=
  if scopeHas sc chip src s.chipId w.src && scopeHas w.scope s.chipId w.src chip src then (stOK, s)
  else
    (if s.flag K.SYN_CFG 31 then stSCOPE_MISMATCH else stOK, pmc 18 0x2C (some w.ctx) 1 (bump K.SCOPE_MM 1 s))

/-- A waiter is released by a signal. -/
def releaseBy (w : Waiter) (value chip src sc : Nat) (s : State) : State :=
  let (st, s1) := scopeStatus w chip src sc s
  answerWaiter w st value chip src (dropWaiter w s1)

/-! ## Signals (R216, R217, R227, R229, R230) -/

def maxVal : Nat := 2 ^ 64 - 1

/-- The object's count or value after a signal of `n`, with the waiters it releases and whether it saturates. -/
def signalEffect (o : Obj) (ws : List Waiter) (add : Bool) (n : Nat) : Nat × List Waiter × Bool :=
  if o.token then
    let r := ws.take n
    (min (o.value + (n - r.length)) maxVal, r, decide (maxVal < o.value + (n - r.length)))
  else
    let v := if add then min (o.value + n) maxVal else max o.value n
    (v, ws.filter fun w => decide (w.threshold ≤ v), add && decide (maxVal < o.value + n))

/-- SYN_OVF (R216). -/
def noteOverflow (o : Obj) (s : State) : State :=
  errContained uSync 0x16 (some o.ctx) none (word [(23, 0, o.virt)]) (bump K.SYN_OVF 1 s)

/-- The waiters that a signal to an object may release: none while its context is SAVING, whose releases take effect at restore
(R203, R236; before its quiescence the object itself holds the value: DEDUCED, log entry 74). -/
def State.releasable (s : State) (p : Nat) (o : Obj) : List Waiter :=
  if (s.ctx o.ctx).state = .saving then [] else s.waitersOf p

/-- A signal applied to physical object `p`. -/
def signalObj (p : Nat) (g : Sig) (task : Word) (s : State) : State :=
  match s.obj? p with
  | none => s
  | some o =>
    if o.abandoned then bump K.SYN_ABSIG 1 s
    else
      let (v, rel, ovf) := signalEffect o (s.releasable p o) g.add g.value
      let o' := { o with value := v, lastChip := g.chip, lastSrc := g.src, lastScope := g.scope, lastAdd := g.add,
                         signalled := true, lastStamp := s.tb }
      let s1 := trace1 18 0x03 (some g.ctx) g.src task (word [(63, 46, p), (45, 0, satTo 46 v)])
        (pmc 18 0x28 (some g.ctx) 1 (ifThen ovf (noteOverflow o) (s.setObj p (some o'))))
      rel.foldl (fun t w => releaseBy w v g.chip g.src g.scope t) s1

/-! ## Intake of a wait (R228, R233, R237) -/

/-- The scope check of a release at intake: against the object's last signal, none while SIGNALLED is 0. -/
def intakeStatus (w : Waiter) (o : Obj) (s : State) : Nat × State :=
  if o.signalled then scopeStatus w o.lastChip o.lastSrc o.lastScope s else (stOK, s)

/-- A stamped waiter on a mapped object: tested, then released or queued. -/
def intakeOn (w : Waiter) (o : Obj) (s : State) : State :=
  let s0 := trace1 18 0x01 (some w.ctx) w.src (s.waiterTask w) (word [(63, 46, w.phys), (45, 0, satTo 46 w.threshold)]) s
  if o.abandoned then answerWaiter w stABANDONED o.value o.lastChip o.lastSrc s0
  else if o.token then
    if 1 ≤ o.value then
      let (st, s1) := intakeStatus w o (s0.setObj w.phys (some { o with value := o.value - 1 }))
      answerWaiter w st (o.value - 1) o.lastChip o.lastSrc s1
    else { s0 with sync := { s0.sync with waiters := s0.sync.waiters ++ [{ w with threshold := 0 }] } }
  else if w.threshold ≤ o.value then
    let (st, s1) := intakeStatus w o s0
    answerWaiter w st o.value o.lastChip o.lastSrc s1
  else { s0 with sync := { s0.sync with waiters := s0.sync.waiters ++ [w] } }

/-- The saved objects of a context whose save has reached its objects (R203, R236). -/
def State.savedOf (s : State) (ctx : Nat) : Option Saved := (s.ctx ctx).saved

/-- Position of the saved object of a name. -/
def Saved.find (v : Saved) (virt : Nat) : Option Nat := (v.objs.zipIdx.find? fun e => e.1.virt == virt).map (·.2)

/-- A waiter on an object of a saved context joins the saved waiters; what releases it takes effect at restore. One on an ABANDONED
object is released at once (R237). -/
def saveWaiter (ctx : Nat) (w : Waiter) (v : Saved) (s : State) : State :=
  match v.objs[w.phys]? with
  | some o =>
    if o.abandoned then answerWaiter w stABANDONED o.value o.lastChip o.lastSrc s
    else s.setCtx ctx { s.ctx ctx with saved := some { v with waiters := v.waiters ++ [w] } }
  | none => s

/-- The front-end WAIT at (ring, idx, pos), stamped now: an unmapped name completes UNSUPPORTED. -/
def intakeFe (ring idx pos : Nat) (s : State) : State :=
  match s.cb? ring idx with
  | none => s
  | some c =>
    match c.inst? pos with
    | none => s
    | some i =>
      let w := fun p : Nat => (⟨false, ring, opSCOPE i.m, p, srcRing ring, i.m.w2.toNat, s.tb, ring, idx, pos, 0, c.ctx⟩ : Waiter)
      match s.savedOf c.ctx with
      | some v =>
        match v.find (opOBJ i.m) with
        | some k => saveWaiter c.ctx (w k) v s
        | none => completeOp ring idx pos stUNSUPPORTED 0 0 (noteUnmapped c.ctx (opOBJ i.m) false s)
      | none =>
      match s.nameOf c.ctx (opOBJ i.m) with
      | .phys p =>
        match s.obj? p with
        | some o => intakeOn (w p) o (readVt c.ctx (opOBJ i.m) s)
        | none => s
      | n => completeOp ring idx pos stUNSUPPORTED 0 0
          (noteUnmapped c.ctx (opOBJ i.m) (n == .poison) (readVt c.ctx (opOBJ i.m) s))

/-- The held WAITs that the pool has room for again are stamped, in the order in which they started (R228). -/
def admitHeld : Nat → State → State
  | 0, s => s
  | n + 1, s =>
    match s.sync.heldWaits with
    | [] => s
    | h :: t =>
      if s.poolFull then s
      else
        let s1 := { s with sync := { s.sync with heldWaits := t } }
        admitHeld n (intakeFe h.ring h.idx h.pos s1)

def admitHeldWaits (s : State) : State := admitHeld s.sync.heldWaits.length s

/-- A front-end WAIT starts: held unstamped while the pool is full. -/
def startWait (ring idx pos : Nat) (s : State) : State :=
  if s.poolFull then { s with sync := { s.sync with heldWaits := s.sync.heldWaits ++ [⟨ring, idx, pos⟩] } }
  else intakeFe ring idx pos s

/-! ## Signals by name -/

/-- The place of a saved object's value in the save area (Table 07-5, R236). -/
def State.savedValAddr (s : State) (ctx i : Nat) : Nat :=
  addr48 (s.addrOf (K.CTX_SAVE_LO ctx) (K.CTX_SAVE_HI ctx) + 0x500000 + 16 * i + 8)

/-- A signal to an object of a saved context: applied to its saved record; a release that it causes takes effect at
restore (R203, R236). A token count may stand above 0 there while waiters are saved. A record that reads as POISON takes no
signal, and its context's sync account is uncertain (R380; DEDUCED, log entry 99). -/
def signalSaved (g : Sig) (v : Saved) (s : State) : State :=
  match (v.objs.zipIdx.find? fun e => e.1.virt == g.virt) with
  | none => noteUnmapped g.ctx g.virt false s
  | some (o, i) =>
    let a := s.savedValAddr g.ctx i
    let s0 := noteRead uSync (some g.ctx) (a - 8) 16 s
    if o.abandoned then bump K.SYN_ABSIG 1 s
    else if !s.readOk (a - 8) 16 then
      auditMark 0x10 (2 ^ g.ctx) 0x04 (errContained uSync 0x04 (some g.ctx) none (BitVec.ofNat 64 (a - 8)) s0)
    else
      let (x, _, ovf) := signalEffect o [] g.add g.value
      let s1 := s0.setCtx g.ctx { s0.ctx g.ctx with saved := some { v with objs := v.objs.set i { o with value := x } } }
      pmc 18 0x28 (some g.ctx) 1 (ifThen ovf (noteOverflow o) (writeWords uSync (some g.ctx) a [BitVec.ofNat 64 x] s1))

/-- A signal to a named object; an unmapped name discards it (R220). Answers whether the name was mapped. -/
def signalNamed (g : Sig) (task : Word) (s : State) : Bool × State :=
  match s.savedOf g.ctx with
  | some v => (v.objs.any fun o => o.virt == g.virt, signalSaved g v s)
  | none =>
    match s.nameOf g.ctx g.virt with
    | .phys p => (true, admitHeldWaits (signalObj p g task (readVt g.ctx g.virt s)))
    | n => (false, noteUnmapped g.ctx g.virt (n == .poison) (readVt g.ctx g.virt s))

/-- Whether a signal is discarded: its name unmapped (R220), its object ABANDONED (R237), or its saved record unreadable. -/
def State.discards (s : State) (g : Sig) : Bool :=
  match s.savedOf g.ctx with
  | some v =>
    match v.objs.zipIdx.find? fun e => e.1.virt == g.virt with
    | some (o, i) => o.abandoned || !s.readOk (s.savedValAddr g.ctx i - 8) 16
    | none => true
  | none =>
    match s.nameOf g.ctx g.virt with
    | .phys p => (s.obj? p).any (·.abandoned)
    | _ => true

/-! ## Withdrawals and abandonment (R185, R219, R232, R237) -/

/-- A front-end WAIT is withdrawn from the pool, from the saved waiters, or from among the held ones. -/
def dropWait (ring idx pos : Nat) (s : State) : State :=
  let keep := fun w : Waiter => w.isEng || !(w.ring == ring && w.idx == idx && w.pos == pos)
  let s1 : State := { s with ctxs := s.ctxs.map fun e =>
    (e.1, { e.2 with saved := e.2.saved.map fun v => { v with waiters := v.waiters.filter keep } }) }
  { s1 with sync := { s1.sync with
    waiters := s.sync.waiters.filter keep
    heldWaits := s.sync.heldWaits.filter fun h => !(h.ring == ring && h.idx == idx && h.pos == pos) } }

/-- A withdrawal on its own: the room goes to a held WAIT. -/
def withdrawWait (ring idx pos : Nat) (s : State) : State := admitHeldWaits (dropWait ring idx pos s)

/-- Every waiter of an object is released with status ABANDONED. -/
def abandonWaiters (p : Nat) (s : State) : State :=
  match s.obj? p with
  | some o => (s.waitersOf p).foldl (fun t w => answerWaiter w stABANDONED o.value o.lastChip o.lastSrc (dropWaiter w t)) s
  | none => s

end Sys2Proof.Machine
end

