-- ==== Sys2Proof/Machine/Launch.lean ====
section
/-! DEFINITION. Launches (R26 to R31, R171 to R174, R208, R211, R316, R427): pin, capture, roots, holding, completion and
cancellation. -/

namespace Sys2Proof.Machine

/-! ## Version slots: pin and release (R45) -/

/-- The CURRENT version slot. -/
def Template.current (t : Template) : Option Nat := (List.range 4).find? fun k => (t.slot k).state == .current

/-- The slot FREE, its pages released; its number stays in VERSION (DEDUCED, log entry 24). -/
def VSlot.freed (v : VSlot) : VSlot := ⟨.free, 0, v.version, [], [], false⟩

/-- One launch fewer (Table 01-8). -/
def VSlot.unpinned (v : VSlot) : VSlot :=
  if v.state = .retiring ∧ v.launches ≤ 1 then v.freed else { v with launches := v.launches - 1 }

def unpin (ctx tid k : Nat) (s : State) : State := s.setVslot ctx tid k (s.vslot ctx tid k).unpinned

/-- The pin of a launch is released, once (R30). -/
def releasePin (l : Launch) (s : State) : State :=
  if l.pinned then unpin l.ctx l.template l.vslot (s.modLaunch l.ctx l.serial fun l => { l with pinned := false }) else s

/-- VERSION_BUSY counted (Table 01-11). -/
def noteBusy (ctx tid : Nat) (s : State) : State :=
  let t := s.template ctx tid
  (noteUpdOf ⟨2, ctx * 2 ^ 16 + tid, 4⟩ (BitVec.ofNat 32 t.busyCount) (raise32 1) s).setTemplate ctx tid
    { t with busyCount := countTo 32 (t.busyCount + 1) }

/-- Steps 1 and 2 of R26: the slot pinned, or the status with which the pin fails (R31). -/
def pinVersion (ctx tid : Nat) (s : State) : Nat ⊕ (Nat × State) :=
  match (s.template ctx tid).current with
  | none => .inl stUNSUPPORTED
  | some k =>
    let v := s.vslot ctx tid k
    if 1048575 ≤ v.launches then .inl stVERSION_BUSY
    else .inr (k, pmc 20 0x3A (some ctx) 1 (s.setVslot ctx tid k { v with launches := v.launches + 1 }))

/-! ## Serials (R28, R192) -/

def State.serialNext (s : State) (ctx : Nat) : Nat := s.fld (K.CTX_SERIAL ctx) 19 0

/-- The serial, or the launch record that R192 gives it, belongs to a launch in flight. -/
def State.serialBusy (s : State) (ctx : Nat) : Bool :=
  let v := s.serialNext ctx
  let n := (s.reg (K.CTX_LT_N ctx)).toNat
  s.launches.any fun l => l.ctx == ctx && (l.serial == v || l.serial % n == v % n)

/-- Step 4: the counter advances, modulo 2^20. -/
def takeSerial (ctx : Nat) (s : State) : State := s.setFld (K.CTX_SERIAL ctx) 19 0 ((s.serialNext ctx + 1) % 2 ^ 20)

/-! ## Roots (step 6 of R26, R33) -/

/-- The arrival that materialises a root. No shard issued it: SRC_SHARD 0 (DESIGN CHOICE, log entry 92). -/
def rootArr (l : Launch) (n : Nat) : Arrival := ⟨.root, l.ctx, n, ordNode l.serial n, l.vslot, 0, 0, 0, none⟩

/-- Root entry `k` of a launch, over the front end's path to the hub (Table 14-9, link 0xD). -/
def materialise (ctx serial pick k : Nat) (s : State) : State :=
  match s.launch? ctx serial with
  | none => s
  | some l =>
    match s.rootBad l k, root? (s.imageOf l) k with
    | some a, _ => dataFault uFrontEnd ctx serial a s
    | none, none => reportBreach uFrontEnd ctx serial s
    | none, some n =>
      arriveAt (shardOf s.shards ctx n (ordNode serial n)) pick (rootArr l n) (addOut ctx serial 1 (linkPass 0xD000 s))

/-- The dispatchable roots of a launch (R174). -/
def rootKeysOf (img : List Word) : List (Nat × Nat) :=
  ((List.range (hdrRoots img)).filterMap fun k =>
    match root? img k with
    | some n => match node? img n with
      | some nd => if nd.cls = clsJoin then none else some (n, 0)
      | none => none
    | none => none).foldl (fun acc x => if acc.contains x then acc else acc ++ [x]) []

/-- Every root is materialised; a resident launch without dispatchable roots completes its operation (R174). -/
def materialiseRoots (ctx serial pick : Nat) (s : State) : State :=
  match s.launch? ctx serial with
  | none => s
  | some l =>
    let keys := rootKeysOf (s.imageOf l)
    let s1 := s.modLaunch ctx serial fun l => { l with rootKeys := keys, roots := keys.length, started := true }
    let s2 := (List.range (hdrRoots (s.imageOf l))).foldl (fun t k => materialise ctx serial pick k t) s1
    if l.resident && keys.isEmpty then completeResident l s2 else s2

/-! ## LAUNCH (R26) -/

/-- ORDERED of a context as a bit of the launch (X0 [54]). -/
def newLaunch (s : State) (ctx serial tid k prio : Nat) (params : List Word) : Launch :=
  let fr := s.framed ctx
  ⟨ctx, serial, tid, (s.vslot ctx tid k).version, k, prio, fr, s.orderedCtx ctx, s.tb,
   if fr then alignUp (s.frameAt s.tb + 1) (s.alignLog ctx) else 0, 0, params, none, false, false, false, false, 0, 0, [],
   false, false, 0, false, false, true, true, none⟩

/-- Where the parameter words of a LAUNCH are read (step 3 of R26): its block, or the template's default block, which the front
end reads through the template's directory entry (DESIGN CHOICE, log entry 95). -/
def State.paramArea (s : State) (ctx tid ptr : Nat) : Nat × Nat := if ptr = 0 then (s.tplDir ctx tid, 64) else (ptr, 128)

/-- The parameter words of a LAUNCH (step 3 of R26, R27), or `none` on a data error (R427). -/
def State.captured (s : State) (ctx tid ptr : Nat) : Option (List Word) :=
  if ptr = 0 then
    if s.readOk (s.tplDir ctx tid) 64 then some ((List.range 16).map (wordAt (s.template ctx tid).defaults)) else none
  else s.readWords ptr 16

/-- The code of uncorrectable data: a host read error or POISON (R365). -/
def dataCode (a : Nat) : Nat := if hostAperture a then 0x05 else 0x04

/-- A data error in the parameter block, at `a` (R427): the pin is released and no launch exists. -/
def launchDataError (ctx ring idx pos tid k a : Nat) (s : State) : State :=
  completeOp ring idx pos stCANCELLED 1 5
    (errContained uFrontEnd (dataCode a) (some ctx) none (BitVec.ofNat 64 a) (unpin ctx tid k s))

/-- The deadline monitor's entry of a SERVE launch (R208). -/
def trackServe (l : Launch) (fb dl : Nat) (s : State) : State :=
  if s.flag K.DLM_CFG 0 && decide (s.dlm.length < 1024) then
    { s with dlm := s.dlm ++ [⟨l.serial, fb, .tracking, l.ctx, 0, l.pinStamp + dl, 0, 0, none, false, false⟩] }
  else bump K.DLM_UNTRACKED 1 s

/-- A launch enters flight: its record is written (step 5), and orphans of its serial enter (R316). -/
def enterFlight (l : Launch) (s : State) : State :=
  releaseOrphans l.ctx l.serial (writeLrec l { s with launches := s.launches ++ [l] })

/-- The steps of R26 for a LAUNCH that R28 does not hold. -/
def doLaunch (ctx ring idx pos : Nat) (m : Rec4) (pick : Nat) (s : State) : State :=
  let tid := opTID m
  match pinVersion ctx tid s with
  | .inl st => completeOp ring idx pos st 0 0 (noteOpenAudit ring idx pos m (ifThen (st == stVERSION_BUSY) (noteBusy ctx tid) s))
  | .inr (k, s1) =>
    let ptr := bits m.w2 47 0
    let area := s1.paramArea ctx tid ptr
    let s2 := noteRead uFrontEnd (some ctx) area.1 area.2 s1
    match s2.captured ctx tid ptr with
    | none => launchDataError ctx ring idx pos tid k area.1 (noteOpenAudit ring idx pos m s2)
    | some ps =>
      let serial := s2.serialNext ctx
      let l : Launch := { newLaunch s2 ctx serial tid k (opPRIO m) ps with
        op := some (ring, idx, pos), audit := opAUDIT m, serve := opSERVE m, resident := opRESIDENT m,
        exitObj := bits m.w3 23 0 }
      let s3 := enterFlight l (takeSerial ctx s2)
      let s4 := s3.modCb ring idx fun c => c.modInst pos fun i => { i with launch := some serial, held := false }
      let go := if (s1.vslot ctx tid k).breach then reportBreach uFrontEnd ctx serial else materialiseRoots ctx serial pick
      go (ifThen l.serve (trackServe l (bits m.w1 47 32) (bits m.w1 31 0)) s4)

/-- A LAUNCH operation that has started: held under R28, or carried out. -/
def startLaunch (ctx ring idx pos : Nat) (m : Rec4) (pick : Nat) (s : State) : State :=
  if s.serialBusy ctx || s.heldLaunches.any (fun h => h.ctx == ctx) then
    { s.modCb ring idx (fun c => c.modInst pos fun i => { i with held := true }) with
      heldLaunches := s.heldLaunches ++ [⟨ctx, ring, idx, pos, m⟩] }
  else doLaunch ctx ring idx pos m pick s

/-- LAUNCH_HOLD_RELEASE (R28): the first held LAUNCH of a context goes on once nothing holds it. -/
def holdRelease (ctx pick : Nat) (s : State) : State :=
  match s.heldLaunches.find? fun h => h.ctx == ctx with
  | none => s
  | some h =>
    if s.serialBusy ctx then s
    else doLaunch ctx h.ring h.idx h.pos h.m pick
      { s with heldLaunches := dropFirst (fun h => h.ctx == ctx) s.heldLaunches }

def execLaunchHoldRelease (ctx pick : Nat) (s : State) : Res := .next (whenRunning (holdRelease ctx pick) s)

/-! ## Completion (R171, R173) -/

/-- The exit of a resident launch (R174). -/
def residentExit (l : Launch) (s : State) : State :=
  if l.resident && l.exitObj != 0 then
    (signalNamed ⟨s.chipId, srcExit, l.ctx, l.exitObj, 1, true, 2⟩ 0 s).2
  else s

def State.slotBusy (s : State) (ctx serial : Nat) : Bool :=
  s.hub.slots.any fun e => e.2.ctx == ctx && ordSerial e.2.ordinal == serial && (e.2.state == .running || e.2.state == .walking)

/-- A fold group of the launch open, or an item of it waiting or on its way to its unit (DEDUCED for the last, log entry
25). -/
def State.foldBusy (s : State) (ctx serial : Nat) : Bool :=
  s.fold.any fun e =>
    (e.2.groups.any fun g => g.ctx == ctx && g.serial == serial) ||
    ((e.2.waiting ++ e.2.routing).any fun i => i.ctx == ctx && i.serial == serial)

/-- No instance RUNNING or WALKING and no combine request in flight (R173, R211 step 3). -/
def State.drained (s : State) (ctx serial : Nat) : Bool :=
  !s.slotBusy ctx serial && !(s.fold.any fun e => e.2.groups.any fun g => g.ctx == ctx && g.serial == serial)

/-- The launch leaves flight. -/
def endLaunch (l : Launch) (s : State) : State :=
  let s1 := releasePin l s
  { s1 with launches := dropFirst (·.is l.ctx l.serial) s1.launches }

/-- DLM_MISS (R208): a tracked launch that completes at or after its DEADLINE without a switch. -/
def noteMiss (ctx serial : Nat) (s : State) : State :=
  match s.dlm.find? (·.is ctx serial) with
  | some d => if d.state = .tracking ∧ d.deadline ≤ s.tb then bump K.DLM_MISS 1 s else s
  | none => s

/-- The primary of a fall-back that has completed: its LAUNCH completes FALLBACK (R211 step 4), and the switch is counted (the
example of Table 07-11 counts it here: log entry 47). -/
def endPrimary (f : Launch) (p : Nat) (s : State) : State :=
  match s.launch? f.ctx p with
  | none => s
  | some l =>
    pmc 20 0x3C (some l.ctx) 1 (bump K.DLM_SWITCH 1 (residentExit l (freeDlm l.ctx l.serial (endLaunch l
      (completeLaunchOp { l with overrun := l.overrun || f.overrun } stFALLBACK 0 0 (noteAudit l f true s))))))

/-- The launch completes (R171). -/
def finishLaunch (l : Launch) (s : State) : State :=
  match l.fbOf with
  | some p => endPrimary l p (endLaunch l s)
  | none =>
    residentExit l (freeDlm l.ctx l.serial (endLaunch l
      (completeLaunchOp l stOK 0 0 (noteAudit l l false (noteMiss l.ctx l.serial s)))))

/-- A fold group of the launch lies in the save area of its context. -/
def State.foldSaved (s : State) (ctx serial : Nat) : Bool :=
  (s.savedOf ctx).any fun v => v.groups.any fun g => g.2.serial == serial

/-- The conditions of R171. -/
def State.launchDone (s : State) (l : Launch) : Bool :=
  l.started && !l.cancelled && l.outstanding == 0 && !s.slotBusy l.ctx l.serial && !s.foldBusy l.ctx l.serial &&
    !s.foldSaved l.ctx l.serial

def execLaunchComplete (ctx serial : Nat) (s : State) : Res :=
  .next (whenRunning (fun s =>
    match s.launch? ctx serial with
    | some l => if s.launchDone l then finishLaunch l s else s
    | none => s) s)

/-- The LAUNCH of a cancelled launch completes CANCELLED (R173), with the cause of its failure or of the reset of its context
(R172, R206). -/
def finishCancelled (l : Launch) (s : State) : State :=
  let cause := if l.failed then l.cause else if (s.ctx l.ctx).state = .resetting then 7 else 0
  residentExit l (freeDlm l.ctx l.serial (endLaunch l
    (completeLaunchOp l stCANCELLED (b2n l.failed) cause (noteAudit l l false (noteMiss l.ctx l.serial s)))))

/-- A launch whose switch goes on keeps its LAUNCH open until its fall-back ends (R211). -/
def State.switchLive (s : State) (l : Launch) : Bool := s.dlm.any fun d => d.is l.ctx l.serial && d.state != .tracking && !d.dead

/-- A fall-back of the launch is still in flight. -/
def State.hasFallback (s : State) (l : Launch) : Bool := s.launches.any fun f => f.ctx == l.ctx && f.fbOf == some l.serial

/-- A cancelled launch that has drained, and whose fall-back, if it had one, has ended. -/
def State.cancelDone (s : State) (l : Launch) : Bool :=
  l.cancelled && s.drained l.ctx l.serial && !s.switchLive l && !s.hasFallback l

/-- The cancelled primary of a fall-back that has ended takes over the fall-back's failure (R211, R172) and the mark of its
cancellation with CAUSE 1 (R186). -/
def endDeadPrimary (f : Launch) (p : Nat) (s : State) : State :=
  let s1 := s.modLaunch f.ctx p fun l =>
    { l with failed := l.failed || f.failed, dlk := l.dlk || f.dlk
             cause := if f.failed && l.cause == 0 then f.cause else l.cause }
  match s1.launch? f.ctx p with
  | some l => if s1.cancelDone l then finishCancelled l s1 else s1
  | none => s1

/-- LAUNCH_CANCEL_COMPLETE (R173). -/
def execLaunchCancelComplete (ctx serial : Nat) (s : State) : Res :=
  .next (whenRunning (fun s =>
    match s.launch? ctx serial with
    | some l =>
      if s.cancelDone l then
        match l.fbOf with
        | some p => endDeadPrimary l p (endLaunch l s)
        | none => finishCancelled l s
      else s
    | none => s) s)

end Sys2Proof.Machine
end

