-- ==== Sys2Proof/Machine/Sprout.lean ====
section
/-! DEFINITION. Sprouting (04_sprouting.md): intake of sprout records, expansion, and the issue of their instances. -/

namespace Sys2Proof.Machine

/-! ## Intake (R108, R109) -/

/-- The first row of Table 04-2 but its class condition (R314 uses it too): a producer that is stale, not RUNNING, on
another engine or of another context. -/
def State.producerBad (s : State) (handle eng ctx : Nat) : Bool :=
  let v := s.slot (hShard handle) (hSlot handle)
  handle == 0 || decide (s.shards ≤ hShard handle) || v.gen != hGen handle || v.state != .running || v.engine != eng || v.ctx != ctx

/-- Whether a SPROUT record's instances all have an ordinal (Table 04-2, TREE and DOWN). -/
def sproutFits (hops : List Nat) (nd : Node) (r : SprRec) : Bool :=
  if nd.ordRule = 3 then decide (ordTree r.baseOrd + r.count ≤ 0xFFF)
  else if nd.ordRule = 4 then
    let d := ordDepth hops r.baseOrd
    ordTree r.baseOrd != 0xFFF && d != 8 && hops.getD d 0 != 0 && decide (r.count ≤ 2 ^ hops.getD d 0 - 1)
  else false

/-- The refusals of Table 04-2 for a record whose node record is `nd`. -/
def sproutRefused (hops : List Nat) (nd : Node) (r : SprRec) : Bool :=
  if r.kind = 0 then r.count == 0 || !sproutFits hops nd r
  else !nd.cntLate || r.count != 1 || r.amount == 0

def sprDetail (r : SprRec) : Word := word [(63, 32, r.producer)]

/-- SPR_REFUSED: counted, and the launch fails (R108, R172). -/
def sproutRefuse (sh : Nat) (r : SprRec) (serial : Nat) (s : State) : State :=
  reportLaunch (uShard sh) 0x13 r.ctx serial 3 (sprDetail r) (bumpFld (K.SPR_ERRn r.ctx) 31 16 1 s)

/-- The home shard of a record (R111). -/
def recHome (s : State) (hops : List Nat) (nd : Node) (r : SprRec) : Nat :=
  shardOf s.shards r.ctx r.node (if r.kind = 0 then sproutOrdinal hops nd.ordRule r.baseOrd 0 else r.baseOrd)

/-- An accepted record: counted into OUTSTANDING, and held with its home and its node's ORD_RULE until the walk of its task
forwards it (R109 to R111, R263). -/
def sproutAccept (sh n : Nat) (v : Slot) (r : SprRec) (rule home : Nat) (s : State) : State :=
  let rid := s.hub.nextRid
  let r' := { r with rid := rid, vslot := v.vslot, next := 0, rule := rule }
  let s1 := { s with hub := { s.hub with nextRid := rid + 1, sprLeft := Tab.put s.hub.sprLeft rid r.count,
                                         sprKept := s.hub.sprKept ++ [(home, r')] } }
  addOut r.ctx (ordSerial v.ordinal) 1
    (trace2 sh 0x14 (some r.ctx) v.engine (s.slotTask sh n) (word [(63, 44, r.node), (19, 0, r.count)])
      (pmc sh 0x09 (some r.ctx) 1 (bump (K.SPR_RECn r.ctx) 1 s1)))

/-- A record at its producer's shard: the rows of Table 04-2 in order. A PRODUCER that names a shard that is not present is
reported with the present shard of the same low bits (DEDUCED, log entry 11). -/
def sproutTake (eng : Nat) (r : SprRec) (s : State) : State :=
  let sh := hShard r.producer
  let n := hSlot r.producer
  let v := s.slot sh n
  let serial := ordSerial v.ordinal
  if s.producerBad r.producer eng r.ctx || v.cls != 0 then
    errContained (uShard (sh % s.shards)) 0x13 (some r.ctx) none (sprDetail r) (bumpFld (K.SPR_ERRn r.ctx) 15 0 1 s)
  else if s.dropsItem r.ctx serial then cancelDrop sh s
  else
    let img := s.slotImage v
    if decide (2 ≤ r.kind) || decide (hdrNodes img ≤ r.node) || ordSerial r.baseOrd != serial then sproutRefuse sh r serial s
    else
      match s.launchNodeBad r.ctx serial r.node, node? img r.node with
      | some a, _ => cancelDrop sh (dataFault (uShard sh) r.ctx serial a s)
      | none, none => cancelDrop sh (reportBreach (uShard sh) r.ctx serial s)
      | none, some nd =>
        if sproutRefused (hdrHops img) nd r then sproutRefuse sh r serial s
        else sproutAccept sh n v r nd.ordRule (recHome s (hdrHops img) nd r) (noteAcc ⟨3, r.ptr, 32, some r.ctx⟩ s)

/-- Whether back-pressure of the trace holds a sprout record (R397). -/
def State.sproutHeld (s : State) (r : Rec4) : Bool := s.traceHoldsFor (parseSprout r).ctx

/-- SPROUT_RECORD_INTAKE (R108). -/
def execSproutRecordIntake (eng : Nat) (r : Rec4) (s : State) : Res :=
  .next (laneTake 0 eng 2 r (·.sproutHeld r) (sproutTake eng (parseSprout r)) s)

/-! ## Expansion queues and the tree table (R111, R112) -/

/-- The sample tree of a record's next instance. -/
def SprRec.tree (r : SprRec) : Nat :=
  if r.kind = 0 ∧ r.rule = 3 then ordTree r.baseOrd + r.next else ordTree r.baseOrd

/-- The tree-table entry that a record holds: context, serial, tree; LATE records hold none. -/
def SprRec.key (r : SprRec) : Option (Nat × Nat × Nat) :=
  if r.kind = 0 then some (r.ctx, ordSerial r.baseOrd, r.tree) else none

def addNew {α : Type} [DecidableEq α] (l : List α) (a : α) : List α := if l.contains a then l else l ++ [a]

/-- The tree-table entries held: those of the SPROUT records in the expansion queues. -/
def State.trees (s : State) : List (Nat × Nat × Nat) := (s.hub.sprQueue.filterMap fun q => q.2.key).foldl addNew []

def State.treesHeld (s : State) (ctx : Nat) : Nat := (s.trees.filter fun t => t.1 == ctx).length

/-- Whether a record's entry is held already or can be taken (R112). -/
def State.treeOk (s : State) (r : SprRec) : Bool :=
  match r.key with
  | none => true
  | some k => s.trees.contains k ||
      (decide (s.trees.length < s.nTrees) && decide (s.treesHeld r.ctx < s.fld (K.SPR_CTXn r.ctx) 31 19))

/-- A forwarded record at its home shard: into the expansion queue, or parked (R111). Records that different shards forward
to one home reach it in the order in which they left, which the spec leaves open (DESIGN CHOICE, log entry 90). -/
def expansionEntry (sh : Nat) (s : State) : State :=
  match s.hub.sprHeld.find? fun q => q.1 == sh with
  | none => s
  | some (_, r) =>
    let from_ := hShard r.producer
    let s1 := ifThen (from_ != sh) (linkRecv (0x8000 + from_) 1)
      { s with hub := { s.hub with sprHeld := dropFirst (fun q => q.1 == sh) s.hub.sprHeld } }
    if s1.dropsItem r.ctx (ordSerial r.baseOrd) then sproutDrop sh r s1
    else if decide (64 ≤ (s1.hub.sprQueue.filter fun q => q.1 == sh).length) || s1.hasParked r.ctx sh || !s1.treeOk r then
      parkItem sh r.tree false (.spr r) s1
    else { s1 with hub := { s1.hub with sprQueue := s1.hub.sprQueue ++ [(sh, r)] } }

def execSproutExpansionEntry (shard : Nat) (s : State) : Res := .next (whenRunning (expansionEntry shard) s)

/-! ## Issue (R113) -/

/-- The record that a shard issues from next: contexts round robin from the last served, in arrival order within one. A
context whose save has begun issues none (R201). -/
def State.nextIssue (s : State) (sh : Nat) : Option SprRec :=
  (rrFrom (Tab.get 63 s.hub.sprRR sh + 1) 64).findSome? fun c =>
    if (s.ctx c).quiet then none else (s.hub.sprQueue.find? fun q => q.1 == sh && q.2.ctx == c).map (·.2)

def leaveQueue (sh : Nat) (r : SprRec) (s : State) : State :=
  { s with hub := { s.hub with sprQueue := dropFirst (fun q => q.1 == sh && q.2.rid == r.rid) s.hub.sprQueue } }

/-- The record `r0` goes on with its next instance, as `r`: in its place when it keeps the tree entry it has or can take the one
it then needs, else parked (R112). -/
def issueRest (sh : Nat) (r0 r : SprRec) (s : State) : State :=
  let s1 := leaveQueue sh r s
  if r.key = r0.key ∨ s1.treeOk r = true then
    { s with hub := { s.hub with
      sprQueue := updFirst (fun q => q.1 == sh && q.2.rid == r.rid) (fun _ => (sh, r)) s.hub.sprQueue } }
  else parkItem sh r.tree false (.spr r) s1

def issueOne (sh : Nat) (r : SprRec) (s : State) : State :=
  if s.dropsItem r.ctx (ordSerial r.baseOrd) then sproutDrop sh r (leaveQueue sh r s)
  else if r.kind = 0 then
    match sproutInstance s sh r r.next with
    | none => settleWholeRec r (reportBreach (uShard sh) r.ctx (ordSerial r.baseOrd) (leaveQueue sh r s))
    | some (dst, a) =>
      let s1 := sendArr sh dst a s
      if r.count ≤ r.next + 1 then leaveQueue sh r s1 else issueRest sh r { r with next := r.next + 1 } s1
  else
    let a := recArrival sh r
    sendArr sh (shardOf s.shards r.ctx r.node r.baseOrd) a (leaveQueue sh r s)

/-- SPROUT_ISSUE (R113): one instance. The round robin turns to the next context after every instance (DESIGN CHOICE, log
entry 90). -/
def execSproutIssue (shard : Nat) (s : State) : Res :=
  .next (whenRunning (fun s =>
    match s.nextIssue shard with
    | none => s
    | some r => issueOne shard r { s with hub := { s.hub with sprRR := Tab.put s.hub.sprRR shard r.ctx } }) s)

end Sys2Proof.Machine
end

