-- ==== Sys2Proof/Machine/Flags.lean ====
section
/-! DEFINITION. What the registers show: the read-only fields that follow from other state of the block, and the words of 64
bits of the windows (field maps of the chapters; R410 to R417). The bits that the register bank holds are added to them. -/

namespace Sys2Proof.Machine

/-! ## Codes -/

def Phase.code : Phase → Nat
  | .boot => 1 | .setup => 2 | .ready => 3 | .run => 4

def CtxState.code : CtxState → Nat
  | .disabled => 0 | .enabled => 1 | .paused => 2 | .saving => 3 | .saved => 4 | .restoring => 5 | .resetting => 6

def QKind.code : QKind → Nat
  | .free => 0 | .route => 1 | .ring => 2 | .head => 3 | .workq => 4 | .internal => 5

def QState.code : QState → Nat
  | .closed => 0 | .opened => 1 | .draining => 2 | .closing => 3

def VState.code : VState → Nat
  | .free => 0 | .building => 1 | .current => 2 | .retiring => 3

def DlmState.code : DlmState → Nat
  | .tracking => 1 | .switching => 2 | .fallback => 3

def GState.code : GState → Nat
  | .opened => 1 | .isSealed => 2 | .finishing => 3

/-- ENABLED, ENABLE_PENDING, DRAINING and ENABLE of a unit (Table 12-9). -/
def State.unitBits (s : State) (u : UnitId) : Nat :=
  let e := s.unit u
  packNat [(31, 31, b2n e.enabled), (30, 30, b2n e.pending), (29, 29, b2n e.draining), (0, 0, b2n e.enable)]

/-! ## Global region (Tables 11-6, 12-13, 13-11, 15-2, 15-3) -/

def State.cap0 (s : State) : Nat := if s.isG4 then 0x10879040 else 0x11409040
def State.cap1 (s : State) : Nat := if s.isG4 then 0x84990840 else 0x7C56F7A0

def State.gblStat (s : State) : Nat :=
  packNat [(31, 24, if s.glb.initDone then 0 else 0x0B), (23, 20, s.glb.phase.code), (19, 19, b2n s.glb.siDone),
    (18, 18, b2n s.glb.bistFail), (17, 12, s.glb.bistUnit), (11, 11, b2n s.glb.initDone), (10, 10, b2n s.glb.enable)]

def State.errStat (s : State) : Nat :=
  packNat [(31, 31, b2n s.glb.fatal), (23, 16, s.glb.fatalCode), (15, 10, s.glb.fatalUnit), (8, 0, s.glb.errLog.length)]

def State.dumpStat (s : State) : Nat :=
  packNat [(31, 31, b2n s.glb.dumpBusy), (30, 30, b2n s.glb.dumpDone), (29, 29, b2n s.glb.dumpError)]

def overlayGlobal (s : State) (off : Nat) : Nat :=
  match off with
  | 0x00 => packNat [(1, 1, b2n s.glb.initDone), (0, 0, b2n s.glb.enable)]
  | 0x04 => s.gblStat
  | 0x08 => s.cap0
  | 0x0C => s.cap1
  | 0x30 => packNat [(31, 31, b2n s.glb.rstBusy), (25, 10, s.glb.rstCount), (9, 0, s.glb.rstEng)]
  | 0x34 => s.fmhz
  | 0x100 => s.tb % 2 ^ 32
  | 0x104 => s.tb / 2 ^ 32
  | 0x114 => s.frameNow % 2 ^ 32
  | 0x118 => s.frameNow / 2 ^ 32
  | 0x404 => s.errStat
  | 0x45C => s.dumpStat
  | _ => 0

/-! ## Front end (Tables 06-11, 07-9) -/

def Ring.zero : Ring := ⟨0, 0, 0, 0, 0, true, [], [], none, none⟩
def State.ring (s : State) (r : Nat) : Ring := Tab.get Ring.zero s.rings r
def State.setRing (s : State) (r : Nat) (v : Ring) : State := { s with rings := Tab.put s.rings r v }

def State.cbsRunning (s : State) (r : Nat) : Nat := (s.cbs.filter fun c => c.ring == r && c.state == .running).length

def State.feStat (s : State) : Nat :=
  packNat [(15, 8, (s.cbs.filter fun c => c.state == .running).length),
    (7, 0, ((List.range 8).map fun r => if s.cbsRunning r = 0 then 0 else 2 ^ r).sum)]

def overlayRing (s : State) (r off : Nat) : Nat :=
  let x := s.ring r
  match off with
  | 0x00 => s.unitBits (.ring r)
  | 0x20 => x.csnNext % 2 ^ 32
  | 0x24 => x.csnNext / 2 ^ 32
  | 0x28 => x.done % 2 ^ 32
  | 0x2C => x.done / 2 ^ 32
  | 0x30 => x.db
  | 0x34 => x.fetch
  | _ => 0

def overlayFrontEnd (s : State) (off : Nat) : Nat :=
  if off = 0x1004 then s.feStat
  else if off = 0x1804 then s.dlm.length
  else if 0x1100 ≤ off ∧ off < 0x1500 then overlayRing s ((off - 0x1100) / 0x80) ((off - 0x1100) % 0x80)
  else 0

/-! ## Hub, dispatch, fold, sync, channel and fabric regions -/

def overlayHub (s : State) (off : Nat) : Nat :=
  if off = 0x2000 then s.rsvSum
  else if off = 0x2008 then s.trees.length
  else if 0x2100 ≤ off ∧ off < 0x2200 then s.treesHeld ((off - 0x2100) / 4)
  else 0

def overlayFold (s : State) (off : Nat) : Nat :=
  if off = 0x4000 then s.foldRsvSum
  else if 0x4010 ≤ off ∧ off < 0x4020 then
    let u := s.foldUnit ((off - 0x4010) / 4)
    packNat [(30, 16, 16384 - u.reserved fun _ => true), (14, 0, u.groups.length)]
  else 0

def State.objUsed (s : State) : Nat := (s.sync.objs.filter fun e => e.2.isSome).length

def overlaySync (s : State) (off : Nat) : Nat :=
  match off with
  | 0x5004 => s.objUsed
  | 0x5008 => s.sync.waiters.length
  | 0x501C => packNat [(31, 31, b2n s.sync.cmdBusy), (7, 0, s.sync.cmdStatus)]
  | 0x5020 => s.sync.pend.length
  | _ => 0

def Queue.zero (i : Nat) : Queue := ⟨if i < 1024 then .workq else .free, 0, .closed, 0, 0, 0, 0, 0, 0, [], [], [], 0, []⟩
def State.queue (s : State) (i : Nat) : Queue := Tab.get (Queue.zero i) s.queues i
def State.setQueue (s : State) (i : Nat) (q : Queue) : State := { s with queues := Tab.put s.queues i q }

def State.queuesUsed (s : State) : Nat := (s.queues.filter fun e => decide (1024 ≤ e.1) && e.2.kind != .free).length

/-- The master of the time tree (R301). -/
def State.isMaster (s : State) : Bool := s.isG4 && s.fld K.FAB_CFG 21 12 == s.fld K.FAB_CFG 31 22

/-- The filtered offset (R301; the filter is a free value, log entry 6). -/
def State.offset (s : State) : Int := if s.fab.offsets.isEmpty then 0 else Config.offsetFilter s.fab.offsets

/-- 16 bits two's complement, saturating. -/
def sat16 (i : Int) : Nat := (BitVec.ofInt 16 (max (-32768) (min 32767 i))).toNat

/-- Items held as received: for their frame, as orphans, and behind a gap. -/
def State.fabHeld (s : State) : Nat :=
  s.fab.hold.length + s.fab.orphans.length + (s.fab.gaps.map fun g => g.held.length).sum

def overlayFabric (s : State) (off : Nat) : Nat :=
  match off with
  | 0x7008 => packNat [(31, 31, b2n (s.isMaster || s.fab.locked)), (15, 0, sat16 s.offset)]
  | 0x7010 => packNat [(31, 31, b2n s.fab.startDone), (30, 30, b2n s.fab.startArrived)]
  | 0x7020 => s.fab.unacked.length
  | 0x7024 => s.fabHeld
  | _ => 0

/-! ## Observation and tests (Tables 14-6, 14-9, 15-9) -/

def overlayObs (s : State) (off : Nat) : Nat :=
  match off with
  | 0x8004 => packNat [(31, 31, b2n s.obs.snap.isSome)]
  | 0x8014 => s.obs.trace.length
  | 0x8064 => packNat [(31, 31, b2n s.obs.hangBusy), (30, 30, b2n s.obs.hangDone)]
  | 0x8084 => packNat [(31, 31, b2n s.glb.stopped), (30, 30, b2n s.glb.armed), (29, 26, s.glb.stopCause)]
  | _ => 0

def overlayTest (s : State) (off : Nat) : Nat :=
  if off = 0x901C then packNat [(31, 31, b2n s.glb.inj.isSome)] else 0

/-! ## Windows -/

def State.inflight (s : State) (c : Nat) : Nat := (s.launches.filter fun l => l.ctx == c).length

def overlayContext (s : State) (c off : Nat) : Nat :=
  match off with
  | 0x00 =>
    let x := s.ctx c
    packNat [(31, 31, b2n (x.state != .disabled)), (30, 29, bits (BitVec.ofNat 32 (s.unitBits (.ctx c))) 30 29),
      (28, 26, x.state.code), (25, 25, b2n x.refused), (1, 1, b2n x.pause), (0, 0, b2n (s.unit (.ctx c)).enable)]
  | 0x38 => s.inflight c
  | _ => 0

/-- Pages that a version slot holds and no other live slot shares (Table 01-13). -/
def Template.pagesOwned (t : Template) (k : Nat) : Nat :=
  ((t.slot k).pages.filter fun p =>
    !((List.range 4).any fun j => j != k && (t.slot j).state != .free && (t.slot j).pages.contains p)).length

def Template.live (t : Template) : Nat := ((List.range 4).filter fun k => (t.slot k).state != .free).length

/-- The template window (Tables 01-9 to 01-13). CUR_VERSION and CUR_SLOT read 0 while no CURRENT version exists, as after reset; what
they show after an UNLOAD the spec leaves open (DESIGN CHOICE, log entry 101). -/
def overlayTemplate (s : State) (i off : Nat) : Nat :=
  let t := s.template (i / 2 ^ 16) (i % 2 ^ 16)
  let k := (off - 0x10) / 8
  if off = 0x00 then
    packNat [(31, 16, match t.current with | some c => (t.slot c).version | none => 0), (15, 14, t.current.getD 0),
      (13, 13, b2n ((List.range 4).any fun j => (t.slot j).state == .building)), (12, 10, t.live), (0, 0, b2n t.current.isSome)]
  else if off = 0x04 then t.busyCount
  else if 0x10 ≤ off ∧ off < 0x30 then
    if off % 8 = 0 then packNat [(31, 30, (t.slot k).state.code), (19, 0, (t.slot k).launches)]
    else packNat [(31, 16, (t.slot k).version), (15, 0, t.pagesOwned k)]
  else 0

def overlayShard (s : State) (sh : Nat) (x : Selector) (off : Nat) : Nat :=
  match off with
  | 0x00 => s.unitBits (.shard sh)
  | 0x04 => packNat [(30, 16, s.usedSlots sh), (14, 0, (s.slotsWhere fun a _ v => a == sh && v.state == .ready).length)]
  | 0x08 => s.onBlock sh
  | 0x20 => x.slotSel
  | _ => 0

def overlayCellar (s : State) (c off : Nat) : Nat :=
  match off with
  | 0x14 => s.cellarItems c
  | 0x18 => (s.hub.ready.filter fun e => e.ctx == c && e.place == .ring).length
  | _ => 0

/-- STN_ENG of a global engine. -/
def State.engWord (s : State) (e : Nat) : Nat :=
  let x := s.engine e
  packNat [(31, 25, x.pi), (24, 18, x.ci), (17, 17, b2n (s.disp.pre.any fun p => p.reserved.contains e)),
    (16, 16, b2n (s.disp.pre.any fun p => p.victim == some e)), (13, 0, s.outstanding e)]

def overlayStation (s : State) (core : Nat) (x : Selector) (off : Nat) : Nat :=
  match off with
  | 0x00 => s.unitBits (.station core)
  | 0x24 => x.engSel
  | 0x28 => s.engWord (core * 8 + x.engSel)
  | 0x34 => b2n (s.disp.switching.contains core)
  | _ => 0

def overlayFoldW (s : State) (c : Nat) (x : Selector) (off : Nat) : Nat :=
  match off with
  | 0x20 => s.foldWaiting c
  | 0x3C => x.fldwSel.toNat
  | _ => 0

def BarGen.count (g : BarGen) : Nat := g.cores.length + g.fes.length
def Bar.zero : Bar := ⟨0, ⟨[], []⟩, ⟨[], []⟩, [], false, 0, false⟩
def State.bar (s : State) (u : Nat) : Bar := Tab.get Bar.zero s.sync.bars u
def State.setBar (s : State) (u : Nat) (b : Bar) : State := { s with sync := { s.sync with bars := Tab.put s.sync.bars u b } }
def Grp.zero : Grp := ⟨[], none⟩
def State.grp (s : State) (g : Nat) : Grp := Tab.get Grp.zero s.sync.grps g
def State.setGrp (s : State) (g : Nat) (v : Grp) : State := { s with sync := { s.sync with grps := Tab.put s.sync.grps g v } }

/-- The local unit of a fabric group. -/
def State.grpUnit (s : State) (g : Nat) : Nat := s.fld (K.GRP_CFG g) 21 16

/-- Arrive packets counted at the root for the open generation. -/
def State.grpArrived (s : State) (g : Nat) : Nat :=
  ((s.grp g).arrived.filter fun a => a.1 == (s.bar (s.grpUnit g)).gen).length

def overlayBarrier (s : State) (u off : Nat) : Nat :=
  let b := s.bar u
  match off with
  | 0x00 => s.unitBits (.bar u) + 2 ^ 28 * b2n b.abandoned
  | 0x08 => b.gen
  | 0x0C => packNat [(24, 16, b.cur.count), (8, 0, b.next.count)]
  | _ => 0

def overlayGroup (s : State) (g off : Nat) : Nat :=
  match off with
  | 0x00 => s.unitBits (.grp g)
  | 0x08 => s.grpArrived g
  | _ => 0

def QKind.landing : QKind → Bool
  | .ring | .head => true
  | _ => false

/-- Z of a ring landing. -/
def State.ringSize (s : State) (q : Nat) : Nat := 2 ^ (s.fld (K.LD_CFG q) 24 21 + 9)

/-- The credit of a landing (R280, R284): none unless it is OPEN. -/
def State.credit (s : State) (q : Nat) : Nat :=
  let x := s.queue q
  let used := (x.prod + 2 ^ 32 - x.cons) % 2 ^ 32
  if x.state = .opened then
    match x.kind with
    | .ring => s.ringSize q - 32 - used
    | .head => 512 - used
    | _ => 0
  else 0

def State.qCtrl (s : State) (q : Nat) : Nat :=
  let x := s.queue q
  let e := s.unit (.queue q)
  packNat [(31, 31, b2n (x.state != .closed)), (30, 30, b2n e.pending), (29, 29, b2n (x.state == .draining || x.state == .closing)),
    (28, 26, x.state.code), (25, 23, x.kind.code), (22, 17, x.owner), (15, 8, x.cfgStatus), (0, 0, b2n e.enable)]

def overlayLanding (s : State) (q off : Nat) : Nat :=
  let x := s.queue q
  match off with
  | 0x0C => x.prod
  | 0x10 => x.cons
  | 0x14 => packNat [(31, 16, x.epoch), (15, 0, x.seq)]
  | 0x18 => s.credit q
  | _ => 0

/-! ## Words of 64 bits -/

def FGroup.words (g : FGroup) : List Word :=
  [word [(63, 44, g.serial), (43, 24, g.desc), (23, 18, g.ctx), (17, 16, g.vslot), (15, 14, g.state.code),
     (13, 13, b2n g.arrival), (12, 12, b2n g.reserve)], g.sealOrd,
   word [(63, 48, g.accepted), (47, 32, g.d.window), (31, 16, g.slotsUsed.length)], BitVec.ofNat 64 g.openStamp]

/-- The node that a slot of a group in ordered mode holds: the highest one decided by its value. -/
def FGroup.slotNode (g : FGroup) (n : Nat) : Nat × Nat × Nat :=
  match g.leaves.find? fun l => l.val.any fun v => v.2 == n with
  | none => (0, 0, 0)
  | some l =>
    ((List.range (g.d.kw + 1)).foldl (fun acc lv =>
      match nodeVal g lv (l.key / 2 ^ lv) with
      | .held p x => if x = n then (lv, l.key / 2 ^ lv, p) else acc
      | _ => acc) (0, l.key, (l.val.map (·.1)).getD 0))

/-- The pending-partial slot (Table 05-8). A slot of an arrival-mode group, which has no tree, shows LEVEL and PREFIX 0 (DESIGN CHOICE,
log entry 75). -/
def FoldUnit.slotWords (u : FoldUnit) (n : Nat) : List Word :=
  match u.groups.find? fun g => g.slotsUsed.contains n with
  | none => [0, 0]
  | some g =>
    let st := if u.reqs.any fun r => r.grp == g.gid && r.eng.isSome && !r.fin && r.slotB == n then 3
      else if u.reqs.any fun r => r.grp == g.gid && r.eng.isSome && !r.fin && r.slotA == n then 2 else 1
    let x := if g.arrival then
        (0, 0, (((g.running.toList ++ g.queue).find? fun v => v.2 == n).map (·.1)).getD 0)
      else g.slotNode n
    [word [(63, 62, st), (61, 57, x.1), (56, 41, x.2.1), (40, 27, g.gid)], word [(47, 0, x.2.2)]]

/-- Table 08-1. -/
def objWords (s : State) (p : Nat) : List Word :=
  match s.obj? p with
  | none => [0, 0, 0, 0]
  | some o =>
    [word [(63, 62, if o.token then 2 else 1), (61, 61, b2n o.abandoned), (60, 55, o.ctx), (54, 31, o.virt),
       (30, 14, (s.sync.waiters.filter fun w => w.phys == p).length)], BitVec.ofNat 64 o.value,
     word [(63, 54, o.lastChip), (53, 38, o.lastSrc), (37, 36, o.lastScope), (35, 35, b2n o.lastAdd), (34, 34, b2n o.signalled)],
     BitVec.ofNat 64 o.lastStamp]

/-- Table 08-5. -/
def waiterWords (w : Waiter) : List Word :=
  [word [(63, 63, b2n w.isEng), (62, 60, w.prio), (59, 58, w.scope), (57, 40, w.phys), (39, 24, w.src)],
   BitVec.ofNat 64 w.threshold, BitVec.ofNat 64 w.stamp, word [(63, 32, w.who)]]

/-- Table 07-8. -/
def dlmWords (d : DlmEntry) : List Word :=
  [word [(63, 44, d.serial), (43, 28, d.fb), (27, 26, d.state.code), (25, 20, d.ctx), (19, 0, d.fbSerial)],
   BitVec.ofNat 64 d.deadline, BitVec.ofNat 64 d.switchStamp, BitVec.ofNat 64 d.projection]

/-- A word of the register bank in two halves. -/
def State.bank64 (s : State) (k : RegKey) : Word := join32 (s.reg k) (s.reg { k with off := k.off + 4 })

def State.setBank64 (s : State) (k : RegKey) (v : Nat) : State :=
  (s.setReg k (BitVec.ofNat 32 v)).setReg { k with off := k.off + 4 } (BitVec.ofNat 32 (v / 2 ^ 32))

/-- A counter as its address shows it: units 0 to 23, index 0 PMC_FIXED, `k + 1` PMC_CNTk (R383, R389). -/
def Pmc.zero : Pmc := ⟨0, false, false⟩
def State.unitPresent (s : State) (u : Nat) : Bool := s.isG4 || !(decide (8 ≤ u) && decide (u < 16) || u == 21)
def State.pmcOf (t : Tab (Nat × Nat) Pmc) (u k : Nat) : Pmc := Tab.get Pmc.zero t (u, k)
def Pmc.toWord (p : Pmc) : Word := word [(63, 63, b2n p.ovf), (47, 0, p.count)]
def State.pmcWord (s : State) (u k : Nat) : Word :=
  if s.unitPresent u then
    if s.flag K.OBS_CTRL 30 then (State.pmcOf (s.obs.snap.getD []) u k).toWord else (State.pmcOf s.obs.pmc u k).toWord
  else 0

/-- The entry that LCAP_SEL shows (Table 14-9). -/
def State.lcapLink (s : State) : Link := Tab.get ⟨0, 0, []⟩ s.obs.links (s.fld K.LCAP_SEL 31 16)
def State.lcapItem (s : State) : Option (Nat × Nat × List Word) := s.lcapLink.items[s.fld K.LCAP_SEL 4 0]?

def State.lcapWord (s : State) (i : Nat) : Word :=
  match s.lcapItem with
  | none => 0
  | some (kind, size, ws) =>
    if i = 0 then word [(63, 56, kind % 256), (55, 48, size), (0, 0, kind / 256)] else wordAt ws (i - 1)

/-- The word of 64 bits at a place, where a field map names one. -/
def State.word64 (s : State) (x : Selector) (k : RegKey) : Option Word :=
  let o := k.off
  match k.ty with
  | 0 =>
    if 0x420 ≤ o ∧ o < 0x440 ∧ o % 8 = 0 then
      some (match s.glb.errLog with | r :: _ => wordAt (words4 r) ((o - 0x420) / 8) | [] => 0)
    else if o = 0x8008 then some (s.bank64 K.OBS_SNAP)
    else if o = 0x8088 then some (BitVec.ofNat 64 s.glb.tStop)
    else if o = 0x8090 then some (BitVec.ofNat 64 s.glb.stopCut)
    else if o = 0x80A0 then some (word [(63, 32, s.lcapLink.sent), (31, 0, s.lcapLink.recv)])
    else if 0x80A8 ≤ o ∧ o < 0x80F0 ∧ o % 8 = 0 then some (s.lcapWord ((o - 0x80A8) / 8))
    else if 0x8800 ≤ o ∧ o < 0x8EC0 ∧ o % 8 = 0 then some (s.pmcWord ((o - 0x8800) / 0x48) ((o - 0x8800) % 0x48 / 8))
    else none
  | 1 => if 0x40 ≤ o ∧ o < 0x60 ∧ o % 8 = 0 then some (BitVec.ofNat 64 (Tab.get 0 s.obs.lt (k.idx, (o - 0x40) / 8))) else none
  | 3 => if 0x28 ≤ o ∧ o < 0x48 ∧ o % 8 = 0 then some (wordAt (slotWords (s.slot k.idx x.slotSel)) ((o - 0x28) / 8)) else none
  | 6 =>
    let u := s.foldUnit (bits x.fldwSel 31 30)
    if 0x40 ≤ o ∧ o < 0x60 ∧ o % 8 = 0 then
      some (match u.group? (bits x.fldwSel 27 14) with | some g => wordAt g.words ((o - 0x40) / 8) | none => 0)
    else if 0x60 ≤ o ∧ o < 0x70 ∧ o % 8 = 0 then some (wordAt (u.slotWords (bits x.fldwSel 13 0)) ((o - 0x60) / 8))
    else none
  | 7 =>
    if o < 0x20 ∧ o % 8 = 0 then some (wordAt (objWords s k.idx) (o / 8))
    else if 0x28 ≤ o ∧ o < 0x48 ∧ o % 8 = 0 then
      some (match (s.waitersOf k.idx)[x.wtrSel]? with | some w => wordAt (waiterWords w) ((o - 0x28) / 8) | none => 0)
    else none
  | 8 => if o = 0x20 then some (BitVec.ofNat 64 (s.bar k.idx).rel) else none
  | _ => none

/-! ## A register of 32 bits -/

/-- The bits that other state of the block gives. -/
def State.overlay (s : State) (x : Selector) (k : RegKey) : Nat :=
  match k.ty with
  | 0 =>
    match k.off / 0x1000 with
    | 0 => overlayGlobal s k.off
    | 1 => overlayFrontEnd s k.off
    | 2 => overlayHub s k.off
    | 3 => if k.off = 0x3004 then s.dirUsed else 0
    | 4 => overlayFold s k.off
    | 5 => overlaySync s k.off
    | 6 => if k.off = 0x6004 then s.queuesUsed else 0
    | 7 => overlayFabric s k.off
    | 8 => overlayObs s k.off
    | 9 => overlayTest s k.off
    | _ => 0
  | 1 => overlayContext s k.idx k.off
  | 2 => overlayTemplate s k.idx k.off
  | 3 => overlayShard s k.idx x k.off
  | 4 => overlayCellar s k.idx k.off
  | 5 => overlayStation s k.idx x k.off
  | 6 => overlayFoldW s k.idx x k.off
  | 7 => if k.off = 0x20 then x.wtrSel else 0
  | 8 => overlayBarrier s k.idx k.off
  | 9 => if k.off = 0 then s.qCtrl k.idx else 0
  | 10 => overlayGroup s k.idx k.off
  | 11 => if k.off = 0 then s.qCtrl k.idx else overlayLanding s k.idx k.off
  | _ => 0

/-- Bits that read 0 on a G4E (Table 00-3, R411): the fabric region, STEEP_MAX, STEEP_THR, HEAD_WAIT, STOP_CTRL FABRIC, and a
station's STEEP_BASE and STEEP_SIZE. -/
def absentMask (k : RegKey) : Nat :=
  if k.ty = 5 then (if k.off = 0x04 then 0x3F00 else if k.off = 0x08 then 0xFFFFFFFF else 0)
  else if k.ty ≠ 0 then 0
  else if 0x7000 ≤ k.off ∧ k.off < 0x8000 then 0xFFFFFFFF
  else if k = K.DSP_CFG then 0xFF00
  else if 0x3100 ≤ k.off ∧ k.off < 0x3200 then 0xC0000000
  else if k = K.CH_CFG then 0xFFFF0000
  else if k = K.STOP_CTRL then 0x40000000
  else 0

/-- Clears the bits absent from the variant; CHIPS reads 1 on a G4E (R329). -/
def State.present (s : State) (k : RegKey) (v : W32) : W32 :=
  if s.isG4 then v
  else if k.ty = 0 ∧ 0x200 ≤ k.off ∧ k.off < 0x300 then withBits v 23 13 1
  else v &&& ~~~(BitVec.ofNat 32 (absentMask k))

/-- PMC_CFG as it reads: USER is 0 while CTX_EN is 0 (R392). -/
def userMasked (k : RegKey) (v : W32) : W32 :=
  if k.ty = 0 ∧ 0x8200 ≤ k.off ∧ k.off < 0x8800 ∧ (k.off - 0x8200) % 0x40 < 0x20 ∧ bit v 19 = false then withBits v 30 30 0 else v

/-- What a register of 32 bits, or a half of a word of 64, shows. -/
def State.show32 (s : State) (x : Selector) (k : RegKey) : W32 :=
  match s.word64 x k with
  | some w => lo32 w
  | none =>
    match if k.off % 8 = 4 then s.word64 x { k with off := k.off - 4 } else none with
    | some w => hi32 w
    | none =>
      s.present k (userMasked k ((if (regDesc k).isSome then s.reg k else 0) ||| BitVec.ofNat 32 (s.overlay x k)))

/-! ## Window data -/

/-- The register that offset `off` of a window's instance shows: the registers of a barrier index follow its bit 8 (R249),
those of a queue its KIND (R300). A descriptor that is neither route nor landing has none beyond Q_CTRL (DEDUCED, log entry
51). -/
def State.viewKey (s : State) (ty i off : Nat) : RegKey :=
  match ty with
  | 8 => if 256 ≤ i then ⟨10, i - 256, off⟩ else ⟨8, i, off⟩
  | 9 =>
    if off < 4 then ⟨9, i, off⟩
    else
      match (s.queue i).kind with
      | .route => ⟨9, i, off⟩
      | .ring | .head => ⟨11, i, off⟩
      | _ => ⟨12, i, off⟩
  | _ => ⟨ty, i, off⟩

end Sys2Proof.Machine
end

