-- ==== Sys2Proof/Machine/Barrier.lean ====
section
/-! DEFINITION. Barrier units and fabric barrier groups (R238 to R243, R250, R320): arrivals, releases, enable and drain. -/

namespace Sys2Proof.Machine

/-! ## Units -/

def State.barOwner (s : State) (u : Nat) : Nat := s.fld (K.BAR_CTRL u) 27 22
def State.barExpect (s : State) (u : Nat) : Nat := s.fld (K.BAR_FE u) 7 0
def State.barHas (s : State) (u core : Nat) : Bool := s.flag (K.BAR_MASKk u (core / 32)) (core % 32)
def State.barCores (s : State) (u : Nat) : Nat := ((List.range 128).filter (s.barHas u)).length

/-- CUR holds every core of the mask and FE_EXPECT arrivals (R239). -/
def State.barFull (s : State) (u : Nat) : Bool :=
  let c := (s.bar u).cur
  c.cores.length == s.barCores u && c.fes.length == s.barExpect u && !(s.barCores u == 0 && s.barExpect u == 0)

/-- The fabric group that a unit is bound to (R243). -/
def State.groupOf (s : State) (u : Nat) : Option Nat :=
  if s.isG4 then (List.range 256).find? fun g => s.enabled (.grp g) && s.grpUnit g == u else none

def State.grpRoot (s : State) (g : Nat) : Nat := s.fld (K.GRP_CFG g) 31 22
def State.grpMembers (s : State) (g : Nat) : Nat := s.fld (K.GRP_CFG g) 10 0

/-- A core's arrival is answered (R231, R239, R242). -/
def answerCore (a : Nat × Nat × Nat) (st gen : Nat) (s : State) : State :=
  sendLane a.2.1 0x3 (notice a.2.2 st (BitVec.ofNat 64 gen)) (linkPass 0xC000 s)

def answerGen (g : BarGen) (st gen : Nat) (s : State) : State :=
  let s1 := g.fes.foldl (fun t f => completeOp f.1 f.2.1 f.2.2 st 0 0 t) s
  g.cores.foldl (fun t a => answerCore a st gen t) s1

/-- BARRIER operations that wait uncounted are counted as a generation has room, in the order in which they came. -/
def seatWaiting (expect : Nat) : List (Nat × Nat × Nat) → Bar → Bar
  | [], b => b
  | f :: t, b =>
    if b.cur.fes.length < expect then seatWaiting expect t { b with cur := { b.cur with fes := b.cur.fes ++ [f] } }
    else if b.next.fes.length < expect then seatWaiting expect t { b with next := { b.next with fes := b.next.fes ++ [f] } }
    else seatWaiting expect t { b with waiting := b.waiting ++ [f] }

def seat (u : Nat) (s : State) : State :=
  let b := s.bar u
  s.setBar u (seatWaiting (s.barExpect u) b.waiting { b with waiting := [] })

/-- The release of the generation in CUR (R239). -/
def barRelease (u : Nat) (s : State) : State :=
  let b := s.bar u
  let g := (b.gen + 1) % 2 ^ 32
  let s1 := s.setBar u { b with gen := g, cur := b.next, next := ⟨[], []⟩, rel := s.tb, sent := false }
  seat u (trace1 18 0x04 (some (s.barOwner u)) srcBarrier (BitVec.ofNat 64 u) (BitVec.ofNat 64 b.gen) (answerGen b.cur stOK g s1))

/-! ## Fabric groups (R243, R320) -/

/-- The packet of a group (Table 11-3). -/
def grpPacket (s : State) (cls dst g gen apply : Nat) : Rec8 :=
  packet s cls dst (s.barOwner (s.grpUnit g)) srcBarrier apply (word [(31, 0, gen)]) (word [(7, 0, g)])

/-- The release frame that the root chooses: 0 when the owner is FREE. -/
def State.releaseFrame (s : State) (g : Nat) : Nat :=
  let c := s.barOwner (s.grpUnit g)
  if s.framed c then alignUp (s.frameNow + s.frameLag c) (s.alignLog c) else 0

/-- A member's unit releases generation `gen`, if that is the one that waits for it. -/
def grpRelease (g gen : Nat) (s : State) : State :=
  let u := s.grpUnit g
  if (s.bar u).gen = gen ∧ (s.bar u).sent then barRelease u s else s

/-- The root has all the arrive packets of a generation: releases to every other member, and its own, held for its frame. -/
def rootRelease (g gen : Nat) (s : State) : State :=
  let x := s.grp g
  let rf := s.releaseFrame g
  let members := (x.arrived.filter fun a => a.1 == gen).map (·.2)
  let s1 := s.setGrp g { x with arrived := x.arrived.filter fun a => a.1 != gen
                                release := if rf = 0 then none else some (gen, rf) }
  let s2 := (members.filter (· != s.chipId)).foldl (fun t c => fabSend (grpPacket t 4 c g gen rf) t) s1
  if rf = 0 then grpRelease g gen s2 else s2

/-- An arrive packet counted at the root. -/
def rootArrive (g gen chip : Nat) (s : State) : State :=
  let x := s.grp g
  let s1 := s.setGrp g { x with arrived := x.arrived ++ [(gen, chip)] }
  if s.grpMembers g ≤ ((s1.grp g).arrived.filter fun a => a.1 == gen).length then rootRelease g gen s1 else s1

/-- A unit of a group is full: an arrive packet to the root in place of a release. -/
def grpArrive (u g : Nat) (s : State) : State :=
  let b := s.bar u
  let s1 := s.setBar u { b with sent := true }
  if s.grpRoot g = s.chipId then rootArrive g b.gen s.chipId s1
  else fabSend (grpPacket s1 3 (s.grpRoot g) g b.gen (s.applyFrame (s.barOwner u))) s1

/-- Releases that fall due at a unit, or the arrive packet of its group. -/
def barRun (u : Nat) : Nat → State → State
  | 0, s => s
  | n + 1, s =>
    if s.barFull u then
      match s.groupOf u with
      | some g => if (s.bar u).sent then s else barRun u n (grpArrive u g s)
      | none => barRun u n (barRelease u s)
    else s

def barCheck (u : Nat) (s : State) : State := barRun u ((s.bar u).waiting.length + 4) s

/-! ## Arrivals (R238, R240, R242) -/

def noteBarErr (u hi lo : Nat) (s : State) : State := bumpFld (K.BAR_ERR u) hi lo 1 s

def dropArrival (u hi lo : Nat) (s : State) : State :=
  errContained uSync 0x17 (some (s.barOwner u)) none (word [(5, 0, u)]) (noteBarErr u hi lo s)

/-- An ARRIVE of a core: `who` is core, requester, handle. -/
def coreArrive (u gen ctx : Nat) (who : Nat × Nat × Nat) (s : State) : State :=
  let b := s.bar u
  if !s.enabled (.bar u) || s.barOwner u != ctx then answerCore who stUNSUPPORTED b.gen (noteBarErr u 15 0 s)
  else if b.abandoned then answerCore who stABANDONED b.gen s
  else
    let isNext := gen == (b.gen + 1) % 2 ^ 32
    if gen != b.gen && !isNext then dropArrival u 15 0 s
    else
      let g := if isNext then b.next else b.cur
      if !s.barHas u who.1 || g.cores.any (fun a => a.1 == who.1) then dropArrival u 31 16 s
      else
        let g1 : BarGen := { g with cores := g.cores ++ [who] }
        barCheck u (s.setBar u (if isNext then { b with next := g1 } else { b with cur := g1 }))

/-- A front-end BARRIER arrives at a unit. -/
def feArrive (u ring idx pos ctx : Nat) (s : State) : State :=
  let b := s.bar u
  if !s.enabled (.bar u) || s.barOwner u != ctx then completeOp ring idx pos stUNSUPPORTED 0 0 s
  else if b.abandoned then completeOp ring idx pos stABANDONED 0 0 s
  else barCheck u (seat u (s.setBar u { b with waiting := b.waiting ++ [(ring, idx, pos)] }))

/-- A BARRIER with GROUP 1. -/
def feArriveGroup (g ring idx pos ctx : Nat) (s : State) : State :=
  if s.isG4 && decide (g < 256) && s.enabled (.grp g) then feArrive (s.grpUnit g) ring idx pos ctx s
  else completeOp ring idx pos stUNSUPPORTED 0 0 s

/-- A BARRIER is withdrawn: one that waits uncounted goes, a counted arrival stays (R240). -/
def withdrawBarrier (ring idx pos : Nat) (s : State) : State :=
  { s with sync := { s.sync with bars := s.sync.bars.map fun e =>
      (e.1, { e.2 with waiting := e.2.waiting.filter fun f => f != (ring, idx, pos) }) } }

/-- The owner context is reset (R242). -/
def abandonBar (u : Nat) (s : State) : State :=
  let b := s.bar u
  let s1 := s.setBar u { b with cur := ⟨[], []⟩, next := ⟨[], []⟩, waiting := [], abandoned := true, sent := false }
  answerGen ⟨[], b.waiting⟩ stABANDONED b.gen (answerGen b.next stABANDONED b.gen (answerGen b.cur stABANDONED b.gen s1))

/-- The units whose owner is a context, enabled or not. -/
def State.barsOf (s : State) (ctx : Nat) : List Nat := (List.range 64).filter fun u => s.barOwner u == ctx

/-! ## Enable and drain (R241, R250) -/

/-- What enabling does: GEN 0, and the BARRIERs that wait are counted, which may release the first generation (R239). -/
def barRule (u : Nat) : EnableRule :=
  ⟨fun _ => true, fun s => barCheck u (seat u (s.setBar u { s.bar u with gen := 0, abandoned := false, sent := false })), id⟩

def State.barEmpty (s : State) (u : Nat) : Bool := (s.bar u).cur.count == 0 && (s.bar u).next.count == 0

def execBarrierDrainComplete (unit : Nat) (s : State) : Res :=
  .next (whenRunning (drainWhen (.bar unit) (barRule unit) (·.barEmpty unit)) s)

/-- A group drains when its root has no counted arrive packet and its local unit no counted arrival. -/
def State.grpEmpty (s : State) (g : Nat) : Bool :=
  (s.grp g).arrived.isEmpty && (s.grp g).release.isNone && s.barEmpty (s.grpUnit g)

def execGroupDrainComplete (grp : Nat) (s : State) : Res :=
  .next (whenRunning (drainWhen (.grp grp) alwaysEnable (·.grpEmpty grp)) s)

end Sys2Proof.Machine
end

