-- ==== Sys2Proof/Machine/RegWrite.lean ====
section
/-! DEFINITION. Writes of register fields (Table 00-4, R355, R356): the fields that discard writes in the present state, and
the write of a register whose fields only hold what is written. -/

namespace Sys2Proof.Machine

/-- Any context not DISABLED, and any FRAMED one. -/
def State.anyCtx (s : State) : Bool := (List.range 64).any fun c => (s.ctx c).state != .disabled
def State.anyFramed (s : State) : Bool := (List.range 64).any fun c => (s.ctx c).state != .disabled && s.framed c

def State.ctxBusy (s : State) (c : Nat) : Bool := (s.ctx c).state != .disabled

/-- Enabled or ENABLE_PENDING (R188). -/
def State.ringLocked (s : State) (r : Nat) : Bool := s.enabled (.ring r) || (s.unit (.ring r)).pending

def maskIf (b : Bool) (m : Nat) : Nat := if b then m else 0

/-- The bits of a flat register that discard writes now (R330, R188, R152, R218, R331, R391, R407, R382). -/
def State.lockedFlat (s : State) (o : Nat) : Nat :=
  let all := 0xFFFFFFFF
  if 0x108 ≤ o ∧ o ≤ 0x110 then maskIf s.anyFramed all
  else if 0x200 ≤ o ∧ o < 0x300 then maskIf (s.ctxBusy ((o - 0x200) / 4)) all
  else if o = 0x450 ∨ o = 0x454 then maskIf s.glb.dumpBusy all
  else if 0x1100 ≤ o ∧ o < 0x1500 ∧ 4 ≤ o % 0x80 ∧ o % 0x80 ≤ 0x1C then maskIf (s.ringLocked ((o - 0x1100) / 0x80)) all
  else if 0x4100 ≤ o ∧ o < 0x4200 then maskIf (s.ctxBusy ((o - 0x4100) / 4)) all
  else if 0x5100 ≤ o ∧ o < 0x5400 then maskIf (s.ctxBusy ((o - 0x5100) % 0x100 / 4)) all
  else if o = 0x7000 then maskIf s.anyCtx 0xFFFFF000
  else if o = 0x8040 then maskIf (s.flag K.SMP_CTRL 31) 0xFFFFFF
  else if 0x8044 ≤ o ∧ o ≤ 0x8050 then maskIf (s.flag K.SMP_CTRL 31) all
  else if o = 0x8068 ∨ o = 0x806C then maskIf s.obs.hangBusy all
  else 0

/-- The bits of a window register that discard writes now (R190, R72, R104, R153, R241, R250, R269, R271). -/
def State.lockedWindow (s : State) (k : RegKey) : Nat :=
  let all := 0xFFFFFFFF
  let i := k.idx
  match k.ty with
  | 1 => if k.off = 0x34 then maskIf (decide (0 < s.inflight i)) all else maskIf (s.ctxBusy i) all
  | 4 => maskIf (s.ctxBusy i && decide (k.off ≤ 0x0C)) all
  | 5 => maskIf (s.enabled (.station i) && (k.off == 0x04 || k.off == 0x08)) all
  | 6 => maskIf (s.ctxBusy i && decide (k.off < 0x18)) all
  | 8 => maskIf (s.enabled (.bar i)) all
  | 9 | 11 => maskIf ((s.queue i).state != .closed || (s.queue i).kind == .workq || (s.queue i).kind == .internal) all
  | 10 => maskIf (s.enabled (.grp i)) all
  | _ => 0

def State.locked (s : State) (k : RegKey) : Nat := if k.ty = 0 then s.lockedFlat k.off else s.lockedWindow k

/-- The value that a register of the bank holds after a write: RW bits, RWL bits before INIT_DONE, W1C bits, of which one set
in the present hub cycle stays set (R13). PORT_EN 0 is discarded while any context is enabled (R359). -/
def State.written (s : State) (d : RegDesc) (k : RegKey) (v : W32) : W32 :=
  let open_ := (d.rw ||| (if s.glb.initDone then 0 else d.rwl))
  let keep := s.locked k ||| (if s.isG4 then 0 else absentMask k) |||
    maskIf (k == K.FAB_CFG && s.anyCtx && !bit v 0) 1
  let m : W32 := BitVec.ofNat 32 open_ &&& ~~~(BitVec.ofNat 32 keep)
  let old := s.reg k
  ((old &&& ~~~m) ||| (v &&& m)) &&& ~~~(v &&& BitVec.ofNat 32 d.w1c &&& ~~~(Tab.get 0 s.cyc.sets k))

/-- A write of a register whose fields only hold what is written; RO, RC and reserved bits discard it (Table 00-4). -/
def plainWrite (k : RegKey) (v : W32) (s : State) : State :=
  match regDesc k with
  | some d => s.setReg k (s.written d k v)
  | none => s

/-- Whether a register has a field that a write can change. -/
def writable (k : RegKey) : Bool :=
  match regDesc k with
  | some d => d.rw != 0 || d.rwl != 0 || d.w1c != 0
  | none => false

/-! ## Enable writes of barrier units and groups (R241, R250) -/

/-- BAR_CTRL_ENABLE_WRITE: OWNER in the same write is taken first, while the unit is disabled. -/
def execBarCtrlEnableWrite (o : Origin) (v : W32) (s : State) : Res :=
  .next (hostWrite (fun s => withSome (s.winInst o 8) s fun u =>
    if u < 64 then
      enableGate (fun s => writeEnable (.bar u) false (barRule u) (bit v 0) s) (plainWrite (K.BAR_CTRL u) v s)
    else s) s)

/-- GRP_CTRL_ENABLE_WRITE. -/
def execGrpCtrlEnableWrite (o : Origin) (v : W32) (s : State) : Res :=
  .next (enableGate (fun s => withSome (s.winInst o 8) s fun i =>
    if 256 ≤ i then writeEnable (.grp (i - 256)) false alwaysEnable (bit v 0) s else s) s)

end Sys2Proof.Machine
end

