-- ==== Sys2Proof/Machine/ChannelOps.lean ====
section
/-! DEFINITION. Message channels, shared operations (R269 to R293): opening and closing of descriptors, acceptance, landing. -/

namespace Sys2Proof.Machine

def State.modQueue (s : State) (q : Nat) (f : Queue → Queue) : State := s.setQueue q (f (s.queue q))

/-! ## Configuration -/

def State.destCount (s : State) (r : Nat) : Nat := s.fld (K.RT_CFG r) 19 16

/-- The destinations of a route, in order. -/
def State.dests (s : State) (r : Nat) : List Nat :=
  (List.range (s.destCount r)).map fun i => if i % 2 = 0 then s.fld (K.RT_DESTj r (i / 2)) 15 0 else s.fld (K.RT_DESTj r (i / 2)) 31 16

def State.ldCore (s : State) (q : Nat) : Nat := s.fld (K.LD_CFG q) 31 25
def State.ldHead (s : State) (q : Nat) : Nat := s.fld (K.LD_CFG q) 20 16
def State.ldRecv (s : State) (q : Nat) : Nat := s.fld (K.LD_CFG q) 15 12

/-- The receiver of a landing as a requester of the engine port. -/
def State.receiver (s : State) (q : Nat) : Nat := if s.ldRecv q = 8 then 1024 + s.ldCore q else s.ldCore q * 8 + s.ldRecv q

/-- LD_RING OFF as a byte offset of the scratchpad. -/
def State.ringOff (s : State) (q : Nat) : Nat := s.fld (K.LD_RING q) 21 9 * 512

/-- Address of offset 0 of a ring. -/
def State.ringAddr (s : State) (q : Nat) : Nat := 0x80_0000_0000 + s.ldCore q * 0x40_0000 + s.ringOff q

def State.isLanding (s : State) (q : Nat) : Bool := decide (q < s.nQueues) && (s.queue q).kind.landing

/-- The configuration checks of R271. On a G4E a route that names a register-read head is refused too (Table 00-3). A FREE
descriptor opens as nothing (DEDUCED, log entry 40). -/
def State.configOk (s : State) (q : Nat) : Bool :=
  let x := s.queue q
  (s.ctx x.owner).state != .disabled &&
  match x.kind with
  | .route =>
    decide (1 ≤ s.destCount q) && decide (s.destCount q ≤ 8) &&
      (s.dests q).all fun d => s.isLanding d && (s.queue d).owner == x.owner && (s.isG4 || (s.queue d).kind != .head)
  | .ring =>
    decide (s.fld (K.LD_CFG q) 24 21 ≤ 11) && decide (s.ringOff q % s.ringSize q = 0) &&
      decide (s.ringOff q + s.ringSize q ≤ 0x40_0000) && decide (s.ldRecv q ≤ 8)
  | .head =>
    s.isG4 && decide (s.ldRecv q ≤ 8) &&
      !(s.queues.any fun e => e.1 != q && e.2.kind == .head && s.ldCore e.1 == s.ldCore q && s.ldHead e.1 == s.ldHead q)
  | _ => false

/-! ## Counts -/

def noteDiscard (q n : Nat) (s : State) : State :=
  ifThen (decide (0 < n)) (pmc 19 0x33 (some (s.queue q).owner) n) (bumpWrap (K.LD_DISCARD q) n s)

/-- A send answer (R277). -/
def sendAnswer (src handle st stamp : Nat) (s : State) : State :=
  sendLane src 0x4 ⟨word [(63, 32, handle), (31, 24, st)], BitVec.ofNat 64 stamp, 0, 0⟩ s

def msHandle (r : Rec4) : Nat := bits r.w2 63 32

/-- A send answered CHANNEL_CLOSED. -/
def answerClosed (route : Nat) (h : HeldSend) (s : State) : State :=
  sendAnswer h.src (msHandle h.r) stCHANNEL_CLOSED 0 (bumpWrap (K.RT_CLOSED route) 1 s)

/-- Every held send of a route answered CHANNEL_CLOSED. -/
def flushHold (route : Nat) (s : State) : State :=
  (s.queue route).hold.foldl (fun t h => answerClosed route h t) (s.modQueue route fun x => { x with hold := [] })

/-- The routes that name a landing. -/
def State.routesOf (s : State) (q : Nat) : List Nat :=
  (s.queues.filter fun e => e.2.kind == .route && (s.dests e.1).contains q).map (·.1)

/-! ## Heads (R284 to R286) -/

/-- A MARK word (R285). -/
def markWord (epoch len : Nat) : Word := word [(63, 62, 3), (47, 32, epoch), (31, 0, len)]

def emitHead (q reader : Nat) (w : Word) (s : State) : State := emit (.headWord (s.ldCore q) (s.ldHead q) reader w) s

/-- The next word of a head landing for a reader; `none` when the read blocks. -/
def headNext (q : Nat) (s : State) : Option (Word × State) :=
  let x := s.queue q
  match x.reading with
  | [w] => some (w, s.setQueue q { x with reading := [], cons := (x.cons + x.readLen) % 2 ^ 32, landed := x.landed - 1 })
  | w :: t => some (w, s.setQueue q { x with reading := t })
  | [] =>
    if x.state != .opened then some (markWord x.epoch 2, s)
    else
      match x.head with
      | (w :: t) :: ms => some (w, s.setQueue q { x with reading := t, readLen := 8 * (t.length + 1), head := ms })
      | _ => none

/-- Blocked reads served, in ascending local order, the control processor last (R286). -/
def serveBlocked (q : Nat) : List (Nat × Nat) → State → State
  | [], s => s
  | b :: t, s =>
    match headNext q s with
    | some (w, s1) => serveBlocked q t (emitHead q b.1 w (s1.modQueue q fun x => { x with blocked := dropFirst (· == b) x.blocked }))
    | none => s

def wakeReaders (q : Nat) (s : State) : State :=
  serveBlocked q ((s.queue q).blocked.foldl (fun acc b => insertBy (fun a b => decide (a.1 < b.1)) b acc) []) s

/-! ## Opening (R271, R289) -/

/-- An enable of a CLOSED descriptor. -/
def qOpen (q : Nat) (s : State) : State :=
  let x := s.queue q
  if !s.configOk q then (s.setQueue q { x with cfgStatus := stUNSUPPORTED, state := .closed }).setUnit (.queue q) UnitEn.off
  else
    let s1 := s.setUnit (.queue q) ⟨true, true, false, false⟩
    if x.kind.landing then
      let y : Queue := { x with cfgStatus := stOK, state := .opened, epoch := if x.epoch = 65535 then 1 else x.epoch + 1, prod := 0
                                cons := 0, seq := 0, landed := 0, head := [], reading := [], readLen := 0, blocked := [] }
      let s2 := noteDiscard q x.landed (s1.setQueue q y)
      if x.kind = .ring then writeWords uChannel (some x.owner) (s2.ringAddr q) [0] s2 else s2
    else s1.setQueue q { x with cfgStatus := stOK, state := .opened }

/-- A descriptor has reached CLOSED: whole messages of a head that no reader has begun are discarded (R292), and a pending
enable takes effect. -/
def qClosed (q : Nat) (s : State) : State :=
  let x := s.queue q
  let n := x.head.length
  let s1 := s.setQueue q { x with state := .closed, head := [], landed := x.landed - n }
  let s2 := if x.kind = .head then noteDiscard q n s1 else s1
  if (s.unit (.queue q)).pending then qOpen q s2 else s2.setUnit (.queue q) UnitEn.off

/-! ## Closing (R289, R291, R293) -/

/-- A landing leaves OPEN: its routes' held sends and its blocked readers are answered. -/
def recallCredit (q : Nat) (s : State) : State := wakeReaders q ((s.routesOf q).foldl (fun t r => flushHold r t) s)

/-- ENABLE 0 of an open descriptor. -/
def qDrain (q : Nat) (s : State) : State :=
  let e := s.unit (.queue q)
  let s1 := (s.modQueue q fun x => { x with state := .draining }).setUnit (.queue q) { e with enable := false, draining := true }
  if (s.queue q).kind = .route then flushHold q s1 else recallCredit q s1

/-- Destinations of accepted messages at a landing that have not landed. -/
def MsgDest.openAt (q : Nat) (d : MsgDest) : Bool := d.landing == q && !d.done

def State.modDests (s : State) (p : MsgDest → Bool) (f : MsgDest → MsgDest) : State :=
  { s with msgs := s.msgs.map fun m => { m with dests := m.dests.map fun d => if p d then f d else d } }

/-- A descriptor enters CLOSING. ENABLE is cleared; from DRAINING an enable that is pending stays, since the close changes only
what becomes of the messages not landed (R289; DEDUCED, log entry 104). -/
def enterClosing (q : Nat) (s : State) : State :=
  let p := (s.unit (.queue q)).pending
  (s.modQueue q fun x => { x with state := .closing }).setUnit (.queue q) ⟨p, true, true, p⟩

/-- Close of a landing by a reset or CLOSE: what has not landed goes to the discard sink. -/
def closeLanding (q : Nat) (s : State) : State :=
  let st := (s.queue q).state
  if st = .opened ∨ st = .draining then
    recallCredit q (enterClosing q (s.modDests (·.openAt q) fun d => { d with sink := true }))
  else s

/-- Close of a route by the reset of its owner. -/
def closeRoute (q : Nat) (s : State) : State :=
  let st := (s.queue q).state
  if st = .opened ∨ st = .draining then flushHold q (enterClosing q s) else s

/-- The channels of a context under reset close (R206, R289, R291). -/
def closeChannels (ctx : Nat) (s : State) : State :=
  (s.queues.filter fun e => e.2.owner == ctx).foldl (fun t e =>
    if e.2.kind.landing then closeLanding e.1 t else if e.2.kind = .route then closeRoute e.1 t else t) s

/-- The reset of an engine: the landings that it receives close, its held sends are withdrawn, its reads are gone (R289,
R291). -/
def channelReset (eng : Nat) (s : State) : State :=
  let s1 := s.queues.foldl (fun t e =>
    let mine := (t.queue e.1).hold.filter fun h => h.src == eng
    bumpWrap (K.RT_REFUSED e.1) mine.length (t.modQueue e.1 fun x =>
      { x with hold := x.hold.filter fun h => h.src != eng, blocked := x.blocked.filter fun b => b.1 != eng })) s
  (s1.queues.filter fun e => e.2.kind.landing && s1.receiver e.1 == eng).foldl (fun t e => closeLanding e.1 t) s1

/-- Messages with every destination settled and the payload read leave. -/
def dropSettled (s : State) : State := { s with msgs := s.msgs.filter fun m => !m.read || m.dests.any fun d => !d.done }

/-! ## Acceptance (R276, R280, R284) -/

/-- Where a message of `l` bytes lands: offset, pad, offset of the pad, need. -/
def State.placeAt (s : State) (q l : Nat) : Nat × Nat × Nat × Nat :=
  let x := s.queue q
  if x.kind = .ring then
    let z := s.ringSize q
    let o := x.prod % z
    if l ≤ z - o then (o, 0, 0, l) else (0, z - o, o, z - o + l)
  else (0, 0, 0, l)

/-- Credit taken at each destination in turn; `none` when one has too little. -/
def takeCredits (l : Nat) : List Nat → State → Option (List MsgDest × State)
  | [], s => some ([], s)
  | q :: t, s =>
    let (o, pad, at_, need) := s.placeAt q l
    if s.credit q < need then none
    else
      let x := s.queue q
      match takeCredits l t (s.setQueue q { x with prod := (x.prod + need) % 2 ^ 32, seq := (x.seq + 1) % 65536 }) with
      | some (ds, s1) => some (⟨q, x.epoch, x.seq, o, pad, at_, false, false⟩ :: ds, s1)
      | none => none

def msLength (r : Rec4) : Nat := bits r.w0 31 0
def msHidx (r : Rec4) : Nat := bits r.w0 47 32

/-- The message of an accepted send. -/
def newMsg (s : State) (route : Nat) (h : HeldSend) (ds : List MsgDest) : Msg :=
  { id := s.nextId, route := route, owner := (s.queue route).owner, src := h.src, handle := msHandle h.r,
    handler := (s.fld (K.RT_HBASE route) 15 0 + msHidx h.r) % 65536, len := msLength h.r, ptr := bits h.r.w1 47 0,
    arg := h.r.w3, stamp := s.tb, read := msLength h.r == 32, payload := [], dests := ds }

/-- The send at the head of a route's hold queue is accepted when every destination has credit for it; answers whether. -/
def acceptHead (route : Nat) (s : State) : Option State :=
  match (s.queue route).hold with
  | [] => none
  | h :: t =>
    if (s.queue route).state != .opened || s.saveHeld (s.queue route).owner then none
    else
      match takeCredits (msLength h.r) (s.dests route) s with
      | none => none
      | some (ds, s1) =>
        let m := newMsg s1 route h ds
        let c := some m.owner
        let s2 := bumpWrap (K.RT_MSG route) 1
          ({ s1 with msgs := s1.msgs ++ [m], nextId := s1.nextId + 1 }.modQueue route fun x => { x with hold := t })
        let s3 := trace2 19 0x16 c h.src (word [(63, 48, route), (47, 32, (s.dests route).headD 0)])
          (word [(63, 32, m.len), (15, 0, ((ds.head?).map (·.seq)).getD 0)]) (pmc 19 0x32 c (m.len - 32) (pmc 19 0x30 c 1 s2))
        some (if m.read then sendAnswer m.src m.handle stOK m.stamp s3
          else issueRead uChannel c (s3.partOf c) m.ptr (m.len - 32) s3)

/-! ### Events of one landing that meet in one hub cycle (R286, R287, R294)

The commands that still wait in the queue fall in the present hub cycle, since only an empty queue lets one pass. -/

/-- The place in R294 of a waiting command as an event of a landing. -/
def State.eventRank (s : State) (q : Nat) : Instr → Option Nat
  | .qClose o v | .qCtrlEnableWrite o v => if bit v 1 && s.winInst o 9 == some q then some 1 else none
  | .ctxReset o v => if bits v 31 29 = 3 ∧ s.winInst o 1 = some (s.queue q).owner then some 1 else none
  | .engineResetComplete => if s.glb.rstBusy ∧ s.glb.rstEng = s.receiver q then some 1 else none
  | .landingFault _ l _ => if l = q then some 2 else none
  | .consumeRequest _ w _ => if bits w 63 48 = q then some 3 else none
  | .sendRequest _ r => if (s.dests (bits r.w0 63 48)).contains q then some 4 else none
  | .sendAccept route => if (s.dests route).contains q then some 4 else none
  | _ => none

/-- The source that a waiting acceptance serves. -/
def State.acceptSrc (s : State) : Instr → Option Nat
  | .sendRequest src _ => some src
  | .sendAccept route => ((s.queue route).hold.head?).map (·.src)
  | _ => none

/-- Whether an event of a landing waits in the queue that R294 puts before those of place `n`. -/
def State.sooner (s : State) (q n : Nat) : Bool :=
  s.pending.any fun c => match s.eventRank q c with | some k => decide (k < n) | none => false

/-- Whether an acceptance at one of the landings of a route for source `src` has to let another event go first (R287, R294). -/
def State.acceptWaits (s : State) (route src : Nat) : Bool :=
  (s.dests route).any fun q =>
    s.sooner q 4 || s.pending.any fun c => s.eventRank q c == some 4 && match s.acceptSrc c with | some k => decide (k < src) | none => false

/-- The source of the send at the head of a route's hold queue. -/
def State.headSrc (s : State) (route : Nat) : Nat := ((s.queue route).hold.head?.map (·.src)).getD 0

/-- An acceptance that trace back-pressure or a perturbation holds waits (R397, R408 site 7), and so does one that another event
of the hub cycle goes before. -/
def tryAccept (route : Nat) (s : State) : State :=
  if s.traceHoldsFor (s.queue route).owner || s.acceptWaits route (s.headSrc route) then s
  else
    match acceptHead route s with
    | none => s
    | some a =>
      let (delay, s1) := perturb 7 s
      if delay then s1
      else
        match acceptHead route s1 with
        | some b => b
        | none => a

end Sys2Proof.Machine
end

