-- ==== Sys2Proof/Machine/Channel.lean ====
section
/-! DEFINITION. Message channels, the commands (10_message_channels.md). -/

namespace Sys2Proof.Machine

/-! ## Sending (R273 to R276) -/

def msRoute (r : Rec4) : Nat := bits r.w0 63 48
def msCtx (r : Rec4) : Nat := bits r.w2 31 26

/-- Whether SEND_MASK, or SEND_CP, admits the sender. -/
def State.maySend (s : State) (route src : Nat) : Bool :=
  if src < 1024 then s.flag (K.RT_CFG route) (26 + engClass src) else s.flag (K.RT_CFG route) 31

/-- The length checks of R275 at a destination. -/
def State.lengthOk (s : State) (l q : Nat) : Bool :=
  match (s.queue q).kind with
  | .ring => l % 32 == 0 && decide (l ≤ s.ringSize q / 2)
  | .head => decide (l ≤ 512)
  | _ => true

/-- The refusals of R275. -/
def State.refusesSend (s : State) (src : Nat) (r : Rec4) : Bool :=
  let route := msRoute r
  let l := msLength r
  !decide (route < s.nQueues) || (s.queue route).kind != .route || msCtx r != (s.queue route).owner || !s.maySend route src ||
    decide (s.fld (K.RT_CFG route) 15 0 ≤ msHidx r) || decide (l < 32) || l % 8 != 0 ||
    !((s.dests route).all fun q => s.lengthOk l q)

/-- Whether the route and its destinations are OPEN. -/
def State.routeOpen (s : State) (route : Nat) : Bool :=
  (s.queue route).state == .opened && (s.dests route).all fun q => (s.queue q).state == .opened

/-- Whether lane M holds a send: it finds its route's hold queue full (R276), or another event of this hub cycle goes before it
(R287, R294). A send of an engine under reset is discarded (Table 12-5). -/
def State.sendHeld (s : State) (src : Nat) (r : Rec4) : Bool :=
  let route := msRoute r
  !s.engResetting src && !s.refusesSend src r &&
    (s.acceptWaits route src || (s.routeOpen route && decide (16 ≤ (s.queue route).hold.length)))

/-- A send request off its lane (R275, R276). -/
def sendRun (src : Nat) (r : Rec4) (s : State) : State :=
  let route := msRoute r
  if s.engResetting src then bumpWrap (K.RT_REFUSED route) 1 s
  else if s.refusesSend src r then sendAnswer src (msHandle r) stUNSUPPORTED 0 (bumpWrap (K.RT_REFUSED route) 1 s)
  else if !s.routeOpen route then answerClosed route ⟨src, r⟩ s
  else
    let first := (s.queue route).hold.isEmpty
    let s1 := s.modQueue route fun x => { x with hold := x.hold ++ [⟨src, r⟩] }
    if first then tryAccept route s1 else s1

/-- SEND_REQUEST: a record of lane M. -/
def execSendRequest (src : Nat) (r : Rec4) (s : State) : Res := .next (laneTake 2 src 5 r (·.sendHeld src r) (sendRun src r) s)

/-- SEND_ACCEPT. -/
def execSendAccept (route : Nat) (s : State) : Res := .next (whenRunning (tryAccept route) s)

/-! ## Payload and landing (R277 to R281, R290) -/

def Msg.payloadWords (m : Msg) : Nat := (m.len - 32) / 8

/-- PAYLOAD_READ_COMPLETE, of the read that the acceptance issued (R278): the payload, or nothing of it when the read returned
uncorrectable data, which makes its landings fault (R293). -/
def payloadReadComplete (id : Nat) (s : State) : State :=
  match s.msgs.find? fun m => m.id == id with
  | none => s
  | some m =>
    if m.read then s
    else
      let p := (s.readWords m.ptr m.payloadWords).getD []
      dropSettled (sendAnswer m.src m.handle stOK m.stamp (notePoisoned m.ptr (8 * m.payloadWords)
        { s with msgs := updFirst (fun m => m.id == id) (fun m => { m with read := true, payload := p }) s.msgs }))

def execPayloadReadComplete (msg : Nat) (s : State) : Res :=
  .next (if s.msgs.any fun m => m.id == msg && !m.read then memTake (payloadReadComplete msg) s else s)

/-- The header (Table 10-2). -/
def headerWords (m : Msg) (d : MsgDest) : List Word :=
  [word [(63, 62, 1), (47, 32, d.epoch), (31, 0, m.len)],
   word [(63, 48, m.handler), (47, 32, m.route), (31, 16, m.src), (15, 0, d.seq)], m.arg, BitVec.ofNat 64 m.stamp]

def Msg.whole (m : Msg) : Bool := m.read && m.payload.length == m.payloadWords

/-- The oldest message not landed at a landing, and its place there. -/
def State.nextLanding (s : State) (q : Nat) : Option (Msg × MsgDest) :=
  s.msgs.findSome? fun m => (m.dests.find? fun d => d.openAt q && !d.sink).map fun d => (m, d)

/-- The writes of R281, in their order: address and words. -/
def State.ringWrites (s : State) (q : Nat) (m : Msg) (d : MsgDest) : List (Nat × List Word) :=
  let a := s.ringAddr q
  let h := headerWords m d
  [(a + (d.offset + m.len) % s.ringSize q, [0]), (a + d.offset + 8, h.drop 1 ++ m.payload), (a + d.offset, [wordAt h 0])] ++
    (if d.pad = 0 then [] else [(a + d.padAt, [word [(63, 62, 2), (47, 32, d.epoch), (31, 0, d.pad)]])])

def State.ringTakes (s : State) (ws : List (Nat × List Word)) : Bool := ws.all fun w => s.writeOk w.1 (8 * w.2.length)

/-- One destination of a message is settled. -/
def settleDest (id q : Nat) (s : State) : State :=
  let f := fun m : Msg => { m with dests := updFirst (·.openAt q) (fun d => { d with done := true }) m.dests }
  dropSettled { s with msgs := updFirst (fun m => m.id == id) f s.msgs }

/-- MESSAGE_LAND. The events that R294 puts before it go first when they meet it in one hub cycle. -/
def messageLand (q : Nat) (s : State) : State :=
  match s.nextLanding q with
  | none => s
  | some (m, d) =>
    if !m.whole || s.sooner q 5 then s
    else
      let x := s.queue q
      if d.epoch ≠ x.epoch then settleDest m.id q (noteDiscard q 1 s)
      else
        let done := fun t : State => settleDest m.id q (bumpWrap (K.LD_MSG q) 1 t)
        if x.kind = .ring then
          let ws := s.ringWrites q m d
          if s.ringTakes ws then
            done (ws.foldl (fun t w => writeWords uChannel (some x.owner) w.1 w.2 t) (s.setQueue q { x with landed := x.landed + 1 }))
          else s
        else
          wakeReaders q (done (s.setQueue q { x with landed := x.landed + 1, head := x.head ++ [headerWords m d ++ m.payload] }))

def execMessageLand (landing : Nat) (s : State) : Res := .next (whenRunning (messageLand landing) s)

/-- DISCARD_SINK_DONE (R290). -/
def discardSinkDone (id q : Nat) (s : State) : State :=
  if s.msgs.any fun m => m.id == id && m.read && m.dests.any fun d => d.openAt q && d.sink then
    settleDest id q (noteDiscard q 1 s)
  else s

def execDiscardSinkDone (msg landing : Nat) (s : State) : Res := .next (whenRunning (discardSinkDone msg landing) s)

/-- LANDING_FAULT (R293): the payload came back uncorrectable, or the memory port refuses a write of the landing. The
messages that have not landed are counted in LD_LOST. -/
def landingFault (id q : Nat) (refused : Bool) (s : State) : State :=
  match s.nextLanding q with
  | none => s
  | some (m, d) =>
    let bad := m.id == id && m.read &&
      (if refused then m.whole && (s.queue q).kind == .ring && !s.ringTakes (s.ringWrites q m d) else !m.whole)
    if !bad || s.sooner q 2 then s
    else
      let n := ((s.msgs.flatMap (·.dests)).filter (·.openAt q)).length
      let s1 := enterClosing q (bumpWrap (K.LD_LOST q) n (s.modDests (·.openAt q) fun d => { d with done := true }))
      dropSettled (recallCredit q (errContained uChannel 0x18 (some (s.queue q).owner) none (word [(15, 0, q)]) s1))

def execLandingFault (msg landing : Nat) (refused : Bool) (s : State) : Res :=
  .next (whenRunning (landingFault msg landing refused) s)

/-! ## Consume requests (R283) -/

/-- Whether lane M holds a consume request: a close or a fault of its landing meets it in this hub cycle (R294). -/
def State.consumeHeld (s : State) (src : Nat) (w0 : Word) : Bool := !s.engResetting src && s.sooner (bits w0 63 48) 3

/-- A consume request off its lane. A stale request is dropped as stale whatever else holds of it, and one that names no ring
landing is bad (DEDUCED, log entry 40). -/
def consumeRun (src : Nat) (w0 w1 : Word) (s : State) : State :=
  let q := bits w0 63 48
  let x := s.queue q
  let cons := bits w0 31 0
  let n := bits w1 31 0
  let bad := fun s : State =>
    errContained uChannel 0x18 (some x.owner) none (word [(15, 0, q)]) (bumpFld (K.LD_CONS_ERR q) 31 16 1 s)
  if s.engResetting src then bumpFld (K.LD_CONS_ERR q) 15 0 1 s
  else if !s.isLanding q || x.kind != .ring then bad s
  else if bits w0 47 32 ≠ x.epoch ∨ (x.state ≠ .opened ∧ x.state ≠ .draining) then bumpFld (K.LD_CONS_ERR q) 15 0 1 s
  else if src ≠ s.receiver q ∨ (x.prod + 2 ^ 32 - x.cons) % 2 ^ 32 < (cons + 2 ^ 32 - x.cons) % 2 ^ 32 ∨ x.landed < n then bad s
  else s.setQueue q { x with cons := cons, landed := x.landed - n }

/-- CONSUME_REQUEST: a record of lane M, of two words. -/
def execConsumeRequest (src : Nat) (w0 w1 : Word) (s : State) : Res :=
  .next (laneTake 2 src 6 ⟨w0, w1, 0, 0⟩ (·.consumeHeld src w0) (consumeRun src w0 w1) s)

/-! ## Head reads (R285) -/

def State.atHead (s : State) (core head : Nat) (e : Nat × Queue) : Bool :=
  e.2.kind == .head && s.ldCore e.1 == core && s.ldHead e.1 == head

/-- The landing of a head: the one that is OPEN, if there is one, since it alone holds the head (R271). -/
def State.headOf (s : State) (core head : Nat) : Option Nat :=
  ((s.queues.find? fun e => s.atHead core head e && e.2.state == .opened).orElse fun _ => s.queues.find? (s.atHead core head)).map (·.1)

/-- Whether another read of a head waits in the queue, and meets this one in one hub cycle (R286). -/
def State.readsMeet (s : State) (core head : Nat) : Bool :=
  s.pending.any fun c => match c with
    | .headRead c h _ => c == core && h == head
    | _ => false

/-- HEAD_READ. Reads of one head that meet in one hub cycle are served together, in the order of R286; the others block. A head
that no landing holds answers as one whose landing is not OPEN, with an open epoch (log entry 6). -/
def headRead (core head reader : Nat) (s : State) : State :=
  if !s.isG4 then s
  else
    match s.headOf core head with
    | none =>
      let (w, s1) := openWord s
      emit (.headWord core head reader (markWord (bits w 15 0) 2)) s1
    | some q =>
      let s1 := s.modQueue q fun x => { x with blocked := x.blocked ++ [(reader, s.tb)] }
      if s.readsMeet core head then s1 else wakeReaders q s1

def execHeadRead (core head reader : Nat) (s : State) : Res := .next (whenRunning (headRead core head reader) s)

/-- HEAD_READ_TIMEOUT: the reads of a head that have blocked for HEAD_WAIT × 16 ns. -/
def headReadTimeout (core head : Nat) (s : State) : State :=
  let wait := s.fld K.CH_CFG 31 16 * 16
  match s.headOf core head with
  | none => s
  | some q =>
    let x := s.queue q
    let late := fun b : Nat × Nat => decide (wait ≠ 0) && decide (b.2 + wait ≤ s.tb)
    (x.blocked.filter late).foldl (fun t b => emitHead q b.1 (markWord x.epoch 1) t)
      (s.setQueue q { x with blocked := x.blocked.filter fun b => !late b })

def execHeadReadTimeout (core head : Nat) (s : State) : Res := .next (whenRunning (headReadTimeout core head) s)

/-! ## Q_CTRL (R269, R271, R289) -/

/-- KIND and OWNER, while CLOSED; a KIND that only the block sets, or a reserved one, leaves KIND as it is. -/
def writeKind (q : Nat) (v : W32) (s : State) : State :=
  s.modQueue q fun x =>
    if x.state = .closed then
      { x with
        owner := bits v 22 17
        kind := match bits v 25 23 with | 0 => .free | 1 => .route | 2 => .ring | 3 => .head | _ => x.kind }
    else x

/-- ENABLE of a descriptor. -/
def qEnable (q : Nat) (b : Bool) (s : State) : State :=
  let e := s.unit (.queue q)
  let x := s.queue q
  if b = e.enable then s
  else if !s.glb.enable then s.setUnit (.queue q) { e with enable := b }
  else if b then
    (if x.state = .closed then qOpen q s else s.setUnit (.queue q) { e with enable := true, pending := true })
  else if e.pending then s.setUnit (.queue q) { e with enable := false, pending := false }
  else if x.state = .opened then qDrain q s
  else s.setUnit (.queue q) { e with enable := false }

/-- The descriptor that an origin has selected, when software may write it. -/
def State.qSelected (s : State) (o : Origin) : Option Nat :=
  match s.winInst o 9 with
  | some q => if (s.queue q).kind = .workq ∨ (s.queue q).kind = .internal then none else some q
  | none => none

/-- A write of Q_CTRL: KIND and OWNER, then ENABLE, then CLOSE of a landing (Table 10-3). -/
def qCtrlWrite (o : Origin) (v : W32) : State → State :=
  hostWrite fun s => withSome (s.qSelected o) s fun q =>
    let s1 := enableGate (qEnable q (bit v 0)) (writeKind q v s)
    if bit v 1 && s1.isLanding q then closeLanding q s1 else s1

/-- Q_CTRL_ENABLE_WRITE: a write of Q_CTRL. -/
def execQCtrlEnableWrite (o : Origin) (v : W32) (s : State) : Res := .next (qCtrlWrite o v s)

/-- Q_CLOSE: a write of Q_CTRL too, since CLOSE lies in it. -/
def execQClose (o : Origin) (v : W32) (s : State) : Res := .next (qCtrlWrite o v s)

/-! ## The ends of a drain and a close -/

def State.unlanded (s : State) (q : Nat) : Bool := s.msgs.any fun m => m.dests.any (·.openAt q)

/-- LANDING_DRAIN_COMPLETE. -/
def execLandingDrainComplete (q : Nat) (s : State) : Res :=
  .next (whenRunning (fun s =>
    if s.isLanding q && (s.queue q).state == .draining && !s.unlanded q then qClosed q s else s) s)

/-- LANDING_CLOSE_COMPLETE. -/
def execLandingCloseComplete (q : Nat) (s : State) : Res :=
  .next (whenRunning (fun s =>
    if s.isLanding q && (s.queue q).state == .closing && !s.unlanded q then qClosed q s else s) s)

/-- ROUTE_CLOSE_COMPLETE (R291): no payload read of the route is in flight. -/
def execRouteCloseComplete (q : Nat) (s : State) : Res :=
  .next (whenRunning (fun s =>
    let x := s.queue q
    if x.kind == .route && (x.state == .draining || x.state == .closing) && !(s.msgs.any fun m => m.route == q && !m.read) then
      qClosed q s else s) s)

end Sys2Proof.Machine
end

