-- ==== Sys2Proof/Machine/Digest.lean ====
section
/-! DEFINITION. SHA-256, which R151 names for the audit digest, and the CRC-16 of a trace frame (R348). The function SHA-256
itself is taken from its standard, FIPS 180-4 (PRESUMED, log entry 31). -/

namespace Sys2Proof.Machine

/-! ### The constants, as the standard defines them: bits of the roots of the first primes -/

/-- The primes below `n`, for `n` up to 361. -/
def primesTo (n : Nat) : List Nat :=
  (List.range n).filter fun p => decide (2 ≤ p) && (List.range 19).all fun d => decide (d < 2) || decide (p < d * d) || p % d != 0

/-- The largest number below 2^36 whose `k`-th power does not pass `n`. -/
def rootBelow (k n : Nat) : Nat :=
  (List.range 36).foldl (fun r i => let t := r + 2 ^ (35 - i); if t ^ k ≤ n then t else r) 0

/-- The first 32 bits of the fraction of the `k`-th root of `p`; the whole part falls away. -/
def rootBits (k p : Nat) : W32 := BitVec.ofNat 32 (rootBelow k (p * 2 ^ (32 * k)))

/-- The constants of the rounds: cube roots of the first 64 primes. -/
def shaK : List W32 := (primesTo 312).map (rootBits 3)

/-- The eight working variables. -/
structure Sha where
  a : W32
  b : W32
  c : W32
  d : W32
  e : W32
  f : W32
  g : W32
  h : W32
  deriving DecidableEq, Repr

/-- The variables before the first block: square roots of the first eight primes. -/
def shaInit : Sha :=
  ⟨rootBits 2 2, rootBits 2 3, rootBits 2 5, rootBits 2 7, rootBits 2 11, rootBits 2 13, rootBits 2 17, rootBits 2 19⟩

/-- The word rotated right by each of the amounts, the results added without carry. -/
def turns (x : W32) (l : List Nat) : W32 := l.foldl (fun y n => y ^^^ x.rotateRight n) 0

def shaRound (v : Sha) (kw : W32) : Sha :=
  let pick := v.g ^^^ (v.e &&& (v.f ^^^ v.g))
  let major := (v.a &&& (v.b ||| v.c)) ||| (v.b &&& v.c)
  let x := turns v.e [6, 11, 25] + pick + v.h + kw
  ⟨turns v.a [2, 13, 22] + major + x, v.a, v.b, v.c, x + v.d, v.e, v.f, v.g⟩

/-- The message schedule, newest word first: `n` further words. -/
def shaSchedule : Nat → List W32 → List W32
  | 0, w => w
  | n + 1, w => shaSchedule n
      ((let p := w.getD 1 0
       let q := w.getD 14 0
       w.getD 15 0 + w.getD 6 0 + (turns q [7, 18] ^^^ q >>> 3) + (turns p [17, 19] ^^^ p >>> 10)) :: w)

def shaBlock (v : Sha) (m : List W32) : Sha :=
  let w := (shaSchedule 48 m.reverse).reverse
  let r := (List.zipWith (· + ·) shaK w).foldl shaRound v
  ⟨v.a + r.a, v.b + r.b, v.c + r.c, v.d + r.d, v.e + r.e, v.f + r.f, v.g + r.g, v.h + r.h⟩

/-- Words of 32 bits, highest byte first. -/
def beWords : Nat → List Byte → List W32
  | 0, _ => []
  | n + 1, bs => ((bs.take 4).foldl (fun (x : W32) b => x <<< 8 ||| b.setWidth 32) 0) :: beWords n (bs.drop 4)

def shaBlocks : Nat → List Byte → Sha → Sha
  | 0, _, v => v
  | n + 1, bs, v => shaBlocks n (bs.drop 64) (shaBlock v (beWords 16 (bs.take 64)))

/-- The bytes of a word, highest first. -/
def beBytes (n : Nat) (x : Nat) : List Byte := (List.range n).map fun i => BitVec.ofNat 8 (x / 2 ^ (8 * (n - 1 - i)))

def shaPad (bs : List Byte) : List Byte :=
  bs ++ [0x80] ++ List.replicate ((119 - bs.length % 64) % 64) 0 ++ beBytes 8 (8 * bs.length)

/-- The hash, 32 bytes. -/
def sha256 (bs : List Byte) : List Byte :=
  let p := shaPad bs
  let v := shaBlocks (p.length / 64) p shaInit
  [v.a, v.b, v.c, v.d, v.e, v.f, v.g, v.h].flatMap fun x => beBytes 4 x.toNat

/-! ## CRC-16 (R348) -/

def crcBit (c : BitVec 16) : BitVec 16 := if c.getLsbD 15 then (c <<< 1) ^^^ 0x1021 else c <<< 1

def crcByte (c : BitVec 16) (b : Byte) : BitVec 16 :=
  (List.range 8).foldl (fun x _ => crcBit x) (c ^^^ (b.setWidth 16 <<< 8))

/-- Polynomial 0x1021, initial value 0xFFFF, no final inversion, highest bit first. -/
def crc16 (bs : List Byte) : BitVec 16 := bs.foldl crcByte 0xFFFF

end Sys2Proof.Machine
end

