-- ==== Sys2Proof/Machine/Template.lean ====
section
/-! DEFINITION. Template versions: LOAD, PATCH, UNLOAD, the end of a build (R43 to R47, R175 to R177, R191). -/

namespace Sys2Proof.Machine

/-! ## Pages of the template store (R191) -/

/-- Pages of a context's store that no version slot holds, lowest first; the block chooses among them (log entry 4). -/
def State.freePages (s : State) (ctx : Nat) : List Nat :=
  let used := (s.templates.filter fun e => e.1.1 == ctx).flatMap fun e => e.2.slots.flatMap (·.pages)
  (List.range (s.fld (K.CTX_TPL_N ctx) 20 0)).filter fun p => decide (1024 ≤ p) && !used.contains p

/-- `n` free pages, if there are as many. -/
def State.takePages (s : State) (ctx n : Nat) : Option (List Nat) :=
  let ps := (s.freePages ctx).take n
  if ps.length = n then some ps else none

def imagePages (size : Nat) : Nat := ceilDiv size 4096

/-! ## Builds -/

/-- The lowest FREE slot (R46; which one a build takes is the block's choice: log entry 4). -/
def Template.freeSlot (t : Template) : Option Nat := (List.range 4).find? fun k => (t.slot k).state == .free

def Template.building (t : Template) : Bool := (List.range 4).any fun k => (t.slot k).state == .building

/-- A slot goes to BUILDING with version number `n` (Table 01-8). -/
def startBuild (ctx tid k n : Nat) (who : Nat × Nat × Nat) (img : List Word) (pages : List Nat) (breach : Bool)
    (abort : Option (Nat × Nat)) (s : State) : State :=
  let t := s.template ctx tid
  let t1 := t.setSlot k ⟨.building, 0, n, img, pages, breach⟩
  s.setTemplate ctx tid { t1 with lastVersion := n, build := some ⟨k, who.1, who.2.1, who.2.2, ctx, abort⟩ }

/-- A read of the build that fails: the report, and the build ends as a data error (R45, R365, R429). -/
def buildError (ctx a : Nat) (s : State) : State :=
  errContained uFrontEnd (dataCode a) (some ctx) none (BitVec.ofNat 64 a) s

/-- No free page (R191). -/
def noPage (who : Nat × Nat × Nat) (s : State) : State := completeOp who.1 who.2.1 who.2.2 stCANCELLED 1 0 s

/-- The image at `ip` (R175): IMAGE_SIZE of its header, then its words. -/
def State.readImage (s : State) (ip : Nat) : Option (List Word) :=
  match s.readWords ip 8 with
  | none => none
  | some h => s.readWords ip (ceilDiv (hdrSize h) 8)

/-- LOAD (R175). -/
def loadTemplate (ctx : Nat) (who : Nat × Nat × Nat) (m : Rec4) (s : State) : State :=
  let tid := opTID m
  let ip := bits m.w2 47 0
  let dp := bits m.w3 47 0
  let t := s.template ctx tid
  if (List.range 4).any fun k => (t.slot k).state != .free then completeOp who.1 who.2.1 who.2.2 stVERSION_BUSY 0 0 s
  else
    let s1 := noteRead uFrontEnd (some ctx) dp 128 (noteRead uFrontEnd (some ctx) ip 64 s)
    match s1.readImage ip, s1.readWords dp 16 with
    | none, _ => startBuild ctx tid 0 1 who [] [] false (some (1, 5)) (buildError ctx ip s1)
    | some _, none => startBuild ctx tid 0 1 who [] [] false (some (1, 5)) (buildError ctx dp s1)
    | some img, some ds =>
      match s1.takePages ctx (imagePages (hdrSize img)) with
      | none => noPage who s1
      | some ps =>
        let s2 := noteRead uFrontEnd (some ctx) ip (hdrSize img) (s1.setTemplate ctx tid { t with defaults := ds })
        startBuild ctx tid 0 1 who img ps false none s2

/-- A patch entry (Table 06-5): offset and word. -/
def patchEntries : List Word → List (Nat × Word)
  | a :: b :: t => (bits a 31 0, b) :: patchEntries t
  | _ => []

/-- Whether an entry writes (R176). -/
def patchOk (size : Nat) (e : Nat × Word) : Bool := e.1 % 8 == 0 && decide (e.1 < size)

/-- An image with the word of a patch entry. The header word that holds IMAGE_SIZE keeps it, since a patch never changes it (R176;
DEDUCED, log entry 97). -/
def patchImage (img : List Word) (e : Nat × Word) : List Word :=
  img.set (e.1 / 8) (if e.1 = 0x20 then withBits e.2 31 0 (bits (wordAt img 4) 31 0) else e.2)

/-- The pages of the new version: a copy, on a new page, of each page that the patch touches (R43). -/
def patchPages : List Nat → List Nat → Nat → List Nat → List Nat
  | [], _, _, _ => []
  | p :: t, touched, i, fresh =>
    if touched.contains i then fresh.headD p :: patchPages t touched (i + 1) (fresh.drop 1)
    else p :: patchPages t touched (i + 1) fresh

/-- PATCH STRUCTURAL (R46, R176). -/
def patchStructural (ctx : Nat) (who : Nat × Nat × Nat) (m : Rec4) (s : State) : State :=
  let tid := opTID m
  let t := s.template ctx tid
  match t.current with
  | none => completeOp who.1 who.2.1 who.2.2 stUNSUPPORTED 0 0 s
  | some c =>
    match (if t.building then none else t.freeSlot) with
    | none => completeOp who.1 who.2.1 who.2.2 stVERSION_BUSY 0 0 (noteBusy ctx tid s)
    | some k =>
      let cur := t.slot c
      let n := (t.lastVersion + 1) % 65536
      let lp := bits m.w2 47 0
      let cnt := bits m.w1 31 0
      let s1 := noteRead uFrontEnd (some ctx) lp (16 * cnt) s
      match s1.readWords lp (2 * cnt) with
      | none => startBuild ctx tid k n who cur.image cur.pages false (some (1, 5)) (buildError ctx lp s1)
      | some ws =>
        let es := patchEntries ws
        let good := es.filter (patchOk (hdrSize cur.image))
        let touched := (good.map fun e => e.1 / 4096).foldl (fun acc p => if acc.contains p then acc else acc ++ [p]) []
        match s1.takePages ctx touched.length with
        | none => noPage who s1
        | some fresh =>
          startBuild ctx tid k n who (good.foldl patchImage cur.image)
            (patchPages cur.pages touched 0 fresh) (good.length != es.length) none s1

/-- PATCH PARAM (R44, R176). -/
def patchParam (ctx : Nat) (who : Nat × Nat × Nat) (m : Rec4) (s : State) : State :=
  let tid := opTID m
  let t := s.template ctx tid
  let lp := bits m.w2 47 0
  match t.current with
  | none => completeOp who.1 who.2.1 who.2.2 stUNSUPPORTED 0 0 s
  | some _ =>
    let s1 := noteRead uFrontEnd (some ctx) lp 128 s
    match s1.readWords lp 16 with
    | none => completeOp who.1 who.2.1 who.2.2 stCANCELLED 1 5 (buildError ctx lp s1)
    | some ds => completeOp who.1 who.2.1 who.2.2 stOK 0 0 (s1.setTemplate ctx tid { t with defaults := ds })

/-- CURRENT leaves that state (Table 01-8). -/
def VSlot.retired (v : VSlot) : VSlot := if v.launches = 0 then v.freed else { v with state := .retiring }

def Template.retireCurrent (t : Template) : Template :=
  match t.current with
  | some c => t.setSlot c (t.slot c).retired
  | none => t

/-- UNLOAD (R177). -/
def unloadTemplate (ctx : Nat) (who : Nat × Nat × Nat) (m : Rec4) (s : State) : State :=
  let t := s.template ctx (opTID m)
  if t.building then completeOp who.1 who.2.1 who.2.2 stVERSION_BUSY 0 0 s
  else completeOp who.1 who.2.1 who.2.2 stOK 0 0 (s.setTemplate ctx (opTID m) t.retireCurrent)

/-! ## The end of a build (R45) -/

/-- The pages of a slot that no other slot of the template shares, each with the words of the image that lie in it. -/
def Template.ownPages (t : Template) (k : Nat) : List (Nat × List Word) :=
  let v := t.slot k
  ((List.range v.pages.length).map fun i => (v.pages.getD i 0, (v.image.drop (512 * i)).take 512)).filter fun p =>
    !((List.range 4).any fun j => j != k && (t.slot j).pages.contains p.1)

/-- The writes of a build into the template store: the image pages that the version does not share, and the directory entry, whose
content is the block's own (DESIGN CHOICE, log entry 95). -/
def State.buildWrites (s : State) (ctx tid k : Nat) : List (Nat × List Word) :=
  let t := s.template ctx tid
  (t.ownPages k).map (fun p => (addr48 (s.tplBase ctx + p.1 * 4096), p.2)) ++
    [(s.tplDir ctx tid, [word [(63, 48, (t.slot k).version), (1, 0, k)], 0, 0, 0, 0, 0, 0, 0])]

/-- The first write of a build that the memory port answers with POISON: its address. -/
def State.buildBad (s : State) (ctx tid k : Nat) : Option Nat :=
  ((s.buildWrites ctx tid k).find? fun w => !s.writeOk w.1 (8 * w.2.length)).map (·.1)

def storeImage (ctx tid k : Nat) (s : State) : State :=
  (s.buildWrites ctx tid k).foldl (fun t w => writeWords uTplCache (some ctx) w.1 w.2 t) s

/-- BUILD_COMPLETE: the image is in the store and the version CURRENT. A page that cannot be written is a data error of the build
(R45). -/
def buildComplete (ctx tid : Nat) (s0 : State) : State :=
  match (s0.template ctx tid).build with
  | none => s0
  | some b =>
    if b.abort.isSome then s0
    else
      match s0.buildBad ctx tid b.slot with
      | some a => buildError ctx a (s0.setTemplate ctx tid { s0.template ctx tid with build := some { b with abort := some (1, 5) } })
      | none =>
      let s := storeImage ctx tid b.slot s0
      let t := s.template ctx tid
      let t1 := t.retireCurrent
      let t2 := t1.setSlot b.slot { t1.slot b.slot with state := .current }
      completeOp b.ring b.idx b.pos stOK 0 0 (s.setTemplate ctx tid { t2 with build := none })

/-- BUILD_ABORT: a data error, a reset, or the end of the command buffer (R177). -/
def buildAbort (ctx tid : Nat) (s : State) : State :=
  let t := s.template ctx tid
  match t.build with
  | none => s
  | some b =>
    match b.abort with
    | none => s
    | some (cls, cause) =>
      let t1 := t.setSlot b.slot (t.slot b.slot).freed
      completeOp b.ring b.idx b.pos stCANCELLED cls cause (s.setTemplate ctx tid { t1 with build := none })

/-- The build of an operation that its command buffer's end aborts (R177). -/
def abortBuild (ring idx pos cause : Nat) (s : State) : State :=
  { s with templates := s.templates.map fun e =>
      (e.1, { e.2 with build := e.2.build.map fun b =>
        if b.ring == ring && b.idx == idx && b.pos == pos && b.abort.isNone then { b with abort := some (0, cause) } else b }) }

def execBuildComplete (ctx tid : Nat) (s : State) : Res := .next (whenRunning (buildComplete ctx tid) s)
def execBuildAbort (ctx tid : Nat) (s : State) : Res := .next (whenRunning (buildAbort ctx tid) s)

end Sys2Proof.Machine
end

