-- ==== Sys2Proof/Machine/FeExec.lean ====
section
/-! DEFINITION. The operations of a command buffer (R161 to R170, R429): which one starts, and what each opcode does. -/

namespace Sys2Proof.Machine

/-! ## The next operation (R162, R164) -/

/-- Address of the next operation of the execution sequence, `none` when none is in line. -/
def Cb.nextAddr (c : Cb) : Option Nat :=
  match c.frames with
  | [] => none
  | f :: _ => if f.pc < f.len then some (addr48 (f.base + 32 * f.pc)) else none

/-- The LOOP and CALL operations that enclose the next operation, with their iteration. -/
def Cb.enclosing (c : Cb) : List (Nat × Nat) := c.frames.filterMap fun f => f.pos.map fun p => (p, f.iter)

/-- FENCE (R162): every earlier operation complete, those that enclose the next one apart. -/
def Cb.fenced (c : Cb) : Bool := c.insts.all fun i => !i.isOpen || c.enclosing.any fun e => e.1 == i.pos

def opFences (m : Rec4) : Bool := opFENCE m || opOPC m == 0x04 || opOPC m == 0x05

def opConds (m : Rec4) : Bool := opCOND m == 1 || opCOND m == 2

/-- The conditions that an operation's own words set (R162, R169, R264). -/
def Cb.mayStart (c : Cb) (m : Rec4) : Bool :=
  (!opFences m || c.fenced) && opWAIT_MASK m &&& c.events == opWAIT_MASK m &&
    (!opConds m || !(c.insts.any fun i => i.isOpen && opOPC i.m == 0x09))

/-- The words of an operation; `none` when its read fails (R429). -/
def State.opWords (s : State) (a : Nat) : Option Rec4 := (s.readWords a 4).map rec4

/-- Whether the next operation of a command buffer can start, or its read fails. -/
def State.opReady (s : State) (c : Cb) : Bool :=
  c.state == .running && c.term.isNone && s.ctxOn c.ctx &&
    match c.nextAddr with
    | none => false
    | some a =>
      match s.opWords a with
      | none => true
      | some m => c.mayStart m

/-- The command buffer whose operation starts next: lowest ring, fetched earliest (R164). -/
def State.opWinner (s : State) : Option Cb :=
  (List.range 8).findSome? fun r => s.cbs.find? fun c => c.ring == r && s.opReady c

/-- The operation that starts next, with its command buffer, or `none` when the read of it fails or nothing is ready. -/
def State.nextOp (s : State) : Option (Cb × Rec4) :=
  match s.opWinner with
  | none => none
  | some c =>
    match c.nextAddr with
    | none => none
    | some a => (s.opWords a).map fun m => (c, m)

/-! ## Starting an operation -/

def Cb.skipOps (n : Nat) (c : Cb) : Cb :=
  match c.frames with
  | [] => c
  | f :: t => { c with frames := { f with pc := f.pc + n } :: t }

/-- A condition that does not match the flag (R162). -/
def Cb.skips (c : Cb) (m : Rec4) : Bool := (opCOND m == 1 && !c.flag) || (opCOND m == 2 && c.flag)

/-- The operation takes its position in the execution sequence. -/
def Cb.enterOp (tb : Nat) (m : Rec4) (c : Cb) : Cb :=
  let i : OpInst := ⟨c.nextPos, m, none, c.enclosing, tb, none, none, false, 0, none, false⟩
  { c.skipOps 1 with insts := c.insts ++ [i], nextPos := c.nextPos + 1 }

/-- Frames whose operations have all been issued end, with what they leave of their LOOP or CALL: position and last
iteration (R165, R166). -/
def popFrames : List Frame → List Frame × List (Nat × Nat)
  | [] => ([], [])
  | f :: t =>
    if f.pc < f.len then (f :: t, [])
    else
      match f.pos with
      | none => (f :: t, [])
      | some p =>
        if f.isLoop && decide (f.iter + 1 < f.count) then (f :: t, [])
        else
          let (fs, l) := popFrames t
          (fs, (p, f.iter) :: l)

def Cb.markIssued (c : Cb) (l : List (Nat × Nat)) : Cb :=
  l.foldl (fun c e => c.modInst e.1 fun i => { i with issued := true, lastIter := e.2 }) c

/-- After an operation has started: frames that have ended, and what completes with them. -/
def Cb.closeUp (c : Cb) : Cb :=
  let (fs, l) := popFrames c.frames
  { c with frames := fs }.markIssued l |>.settle

/-- Who an operation is: ring, entry index, position. -/
abbrev Who := Nat × Nat × Nat

/-- The start of the next operation when its opcode satisfies `p`; `act` is what the operation does unless its condition
skips it. A skipped LOOP skips its body. -/
def startOp (p : Rec4 → Bool) (act : Cb → Who → Rec4 → State → State) (s : State) : State :=
  match s.nextOp with
  | none => s
  | some (c, m) =>
    if !p m then s
    else
      let s1 := pmc 20 0x38 (some c.ctx) 1 ((noteRead uFrontEnd (some c.ctx) (c.nextAddr.getD 0) 32 s).modCb c.ring c.idx fun c =>
        { c.enterOp s.tb m with begun := true, startStamp := if c.begun then c.startStamp else s.tb })
      let s2 :=
        if c.skips m then
          completeOp c.ring c.idx c.nextPos stOK 0 0
            (ifThen (opOPC m == 0x0A) (fun s => s.modCb c.ring c.idx (Cb.skipOps (bits m.w1 63 44))) s1)
        else act c (c.ring, c.idx, c.nextPos) m s1
      s2.modCb c.ring c.idx Cb.closeUp

def opIs (opc : Nat) (m : Rec4) : Bool := opOPC m == opc

/-- The operation completes. -/
def finishOp (w : Who) (st : Nat) (s : State) : State := completeOp w.1 w.2.1 w.2.2 st 0 0 s

def endOp (st : Nat) (_ : Cb) (w : Who) (_ : Rec4) (s : State) : State := finishOp w st s

/-! ## NOP, LAUNCH, WAIT, SIGNAL, RECORD, BARRIER -/

def execOpNop (s : State) : Res := .next (whenRunning (startOp (opIs 0x00) (endOp stOK)) s)

/-- LAUNCH: the steps of R26, or the hold of R28. -/
def execLaunch (pick : Nat) (s : State) : Res :=
  .next (whenRunning (startOp (opIs 0x01) fun c w m s => startLaunch c.ctx w.1 w.2.1 w.2.2 m pick s) s)

def execOpWait (s : State) : Res :=
  .next (whenRunning (startOp (opIs 0x02) fun _ w _ s => startWait w.1 w.2.1 w.2.2 s) s)

/-- SIGNAL and RECORD: applied at the start (R169). -/
def actSignal (c : Cb) (w : Who) (m : Rec4) (s : State) : State :=
  let (ok, s1) := signalNamed ⟨s.chipId, srcRing c.ring, c.ctx, opOBJ m, m.w2.toNat, opADD m, opSCOPE m⟩ 0 s
  finishOp w (if ok then stOK else stUNSUPPORTED) s1

def execOpSignal (s : State) : Res := .next (whenRunning (startOp (opIs 0x03) actSignal) s)
def execOpRecord (s : State) : Res := .next (whenRunning (startOp (opIs 0x04) actSignal) s)

/-- BARRIER: an arrival at a unit of the context, or at the local unit of a fabric group. -/
def actBarrier (c : Cb) (w : Who) (m : Rec4) (s : State) : State :=
  let n := bits m.w1 8 0
  if bit m.w0 28 then feArriveGroup n w.1 w.2.1 w.2.2 c.ctx s
  else if n < 64 then feArrive n w.1 w.2.1 w.2.2 c.ctx s
  else finishOp w stUNSUPPORTED s

def execOpBarrier (s : State) : Res := .next (whenRunning (startOp (opIs 0x05) actBarrier) s)

/-! ## COPY, WRITE, HASH (R170) -/

def State.defaultPart (s : State) (ctx : Nat) : Nat := s.fld (K.CTX_PART ctx) 3 0

/-- The source and the destination range of a DMA command as it starts, as far as it has them (R401). -/
def noteDma (d : Dma) (s : State) : State :=
  let rd := fun t => ifThen (d.kind != 0x07) (noteAcc ⟨4, d.src, d.len, some d.ctx⟩) t
  ifThen (d.kind != 0x08) (noteAcc ⟨4, d.dst, d.len, some d.ctx⟩) (rd s)

/-- A DMA command with the context's default partition. -/
def issueDma (c : Cb) (w : Who) (kind src dst len : Nat) (imm : Word) (s : State) : State :=
  let d : Dma := ⟨s.nextId, w.1, w.2.1, w.2.2, c.ctx, kind, src, dst, len, imm⟩
  noteDma d <| emit (.dma d (s.defaultPart c.ctx))
    ({ s with dmas := s.dmas ++ [d], nextId := s.nextId + 1 }.modCb w.1 w.2.1 fun c =>
      c.modInst w.2.2 fun i => { i with dma := some d.id })

def actCopy (c : Cb) (w : Who) (m : Rec4) (s : State) : State := issueDma c w 0x06 (opSRC m) (opDST m) (opLENGTH m) 0 s
def actWrite (c : Cb) (w : Who) (m : Rec4) (s : State) : State := issueDma c w 0x07 0 (opDST m) 8 m.w3 s

/-- HASH results that a command buffer holds or has asked for. -/
def State.hashesOf (s : State) (c : Cb) : Nat :=
  c.hashes.length + (s.dmas.filter fun d => d.ring == c.ring && d.idx == c.idx && d.kind == 0x08).length

def actHash (c : Cb) (w : Who) (m : Rec4) (s : State) : State :=
  if 64 ≤ s.hashesOf c then finishOp w stUNSUPPORTED s else issueDma c w 0x08 (opSRC m) 0 (opLENGTH m) 0 s

def execOpCopy (s : State) : Res := .next (whenRunning (startOp (opIs 0x06) actCopy) s)
def execOpWrite (s : State) : Res := .next (whenRunning (startOp (opIs 0x07) actWrite) s)
def execOpHash (s : State) : Res := .next (whenRunning (startOp (opIs 0x08) actHash) s)

/-- What a DMA command that succeeds has done to memory. -/
def dmaEffect (d : Dma) (s : State) : State :=
  if d.kind = 0x06 then memWrite d.dst (s.bytesAt d.src d.len) s
  else if d.kind = 0x07 then memWrite d.dst (wordBytes d.imm) s
  else s

/-- Whether every read and write that a DMA command carries is answered OK at its endpoint (R265, R345). -/
def State.dmaOk (s : State) (d : Dma) : Bool :=
  (d.kind == 0x07 || s.readOk d.src d.len) && (d.kind == 0x08 || s.writeOk d.dst d.len)

/-- The hash of a region as it stands at its endpoints (R170, R265), in words of 8 bytes. -/
def State.regionHash (s : State) (d : Dma) : Rec4 :=
  let h := sha256 (s.bytesAt d.src d.len)
  rec4 ((List.range 4).map fun i => bytesWord ((h.drop (8 * i)).take 8))

/-- DMA_COMPLETE. A command fails when the engine says so, or when one of its accesses is not answered OK; nothing is then
written. DETAIL of an error is the destination, or the source of a HASH (DEDUCED, log entry 32). The hash that the engine returns
is that of the region when the command completes (log entry 103). -/
def dmaComplete (id : Nat) (err : Bool) (s : State) : State :=
  match s.dmas.find? fun d => d.id == id with
  | none => s
  | some d =>
    let s1 := { s with dmas := s.dmas.filter fun e => e.id != id }
    if err || !s.dmaOk d then
      completeOp d.ring d.idx d.pos stCANCELLED 1 6
        (errContained uFrontEnd 0x1B (some d.ctx) none (BitVec.ofNat 64 (if d.kind = 0x08 then d.src else d.dst)) s1)
    else
      let s2 := ifThen (d.kind == 0x08) (fun s => s.modCb d.ring d.idx fun c =>
        { c with hashes := insertBy (fun a b => decide (a.1 < b.1)) (d.pos, d.len, s.regionHash d) c.hashes }) s1
      completeOp d.ring d.idx d.pos stOK 0 0 (dmaEffect d s2)

/-- DMA_COMPLETE: the hash that the row carries for a HASH is the one of R170, `State.regionHash`. -/
def execDmaComplete (id : Nat) (err : Bool) (_ : Rec4) (s : State) : Res :=
  .next (whenRunning (dmaComplete id err) s)

/-! ## TEST (R167) -/

/-- The value of a TEST whose source is given at its start. -/
inductive TestVal where
  | value (v : Word)
  | wait (pos : Nat)
  | bad
  | error (a : Nat)
  | unmapped (v : Nat) (poison : Bool)
  deriving DecidableEq, Repr

/-- SRC LAST: 0 when nothing started before, or when what did encloses the TEST. -/
def lastVal (c : Cb) : TestVal :=
  match c.insts.getLast? with
  | none => .value 0
  | some i =>
    if c.enclosing.any fun e => e.1 == i.pos then .value 0
    else
      match i.status with
      | some st => .value (BitVec.ofNat 64 st)
      | none => .wait i.pos

def innerIter (c : Cb) : Nat :=
  match c.frames.find? (·.isLoop) with
  | some f => f.iter
  | none => 0

/-- `c` is the command buffer before the TEST has started. -/
def State.testVal (s : State) (c : Cb) (m : Rec4) : TestVal :=
  if 6 ≤ bits m.w0 27 25 then .bad
  else
    let a := bits m.w1 47 0
    match bits m.w0 30 28 with
    | 0 =>
      match s.readWords (a / 8 * 8) 1 with
      | some l => .value (wordAt l 0)
      | none => .error (a / 8 * 8)
    | 1 =>
      let v := bits m.w1 23 0
      match s.nameOf c.ctx v with
      | .phys p => .value (BitVec.ofNat 64 ((s.obj? p).map (·.value) |>.getD 0))
      | .unmapped => .unmapped v false
      | .poison => .unmapped v true
    | 2 => lastVal c
    | 3 => .value (BitVec.ofNat 64 (innerIter c))
    | _ => .bad

/-- The memory read of a TEST: its word, or its name's entry of the object table. -/
def noteTest (ctx : Nat) (m : Rec4) (s : State) : State :=
  if 6 ≤ bits m.w0 27 25 then s
  else
    match bits m.w0 30 28 with
    | 0 => noteRead uFrontEnd (some ctx) (bits m.w1 47 0 / 8 * 8) 8 s
    | 1 => readVt ctx (bits m.w1 23 0) s
    | _ => s

def actTest (c : Cb) (w : Who) (m : Rec4) (s0 : State) : State :=
  let s := noteTest c.ctx m s0
  match s.testVal c m with
  | .value v => s.modCb w.1 w.2.1 fun c =>
      match c.inst? w.2.2 with
      | some i => c.testDone w.2.2 v i
      | none => c
  | .wait q => s.modCb w.1 w.2.1 fun c => c.modInst w.2.2 fun i => { i with waitFor := some q }
  | .bad => finishOp w stUNSUPPORTED s
  | .error a =>
    completeOp w.1 w.2.1 w.2.2 stCANCELLED 1 5
      (errContained uFrontEnd (dataCode a) (some c.ctx) none (BitVec.ofNat 64 a) s)
  | .unmapped v poison => finishOp w stUNSUPPORTED (noteUnmapped c.ctx v poison s)

def execOpTest (s : State) : Res := .next (whenRunning (startOp (opIs 0x09) actTest) s)

/-! ## LOOP, BREAK, CALL (R165, R166) -/

def clearEvents (m : Nat) (c : Cb) : Cb := { c with events := (List.range 16).foldl (fun a i =>
  if c.events.testBit i && !m.testBit i then a + 2 ^ i else a) 0 }

/-- A LOOP or CALL that would reach depth 5; the top is depth 0. -/
def Cb.tooDeep (c : Cb) : Bool := decide (5 ≤ c.frames.length)

def actLoop (c : Cb) (w : Who) (m : Rec4) (s : State) : State :=
  let body := bits m.w1 63 44
  let count := bits m.w1 31 0
  let ev := bits m.w2 15 0
  let s1 := s.modCb w.1 w.2.1 (Cb.skipOps body)
  if c.tooDeep then finishOp w stUNSUPPORTED s1
  else if count = 0 then finishOp w stOK s1
  else if body = 0 then finishOp w stOK (s1.modCb w.1 w.2.1 (clearEvents ev))
  else
    let base := match c.nextAddr with
      | some a => addr48 (a + 32)
      | none => 0
    s1.modCb w.1 w.2.1 fun c =>
      { clearEvents ev c with frames := ⟨base, body, 0, true, count, 0, ev, some w.2.2⟩ :: c.frames }

/-- The next iteration may begin (R165): the operations of this one that set an event of EV_CLR are complete. An operation
with SET_EN 0 sets none (DEDUCED, log entry 33). -/
def Cb.iterDone (c : Cb) (f : Frame) (p : Nat) : Bool :=
  c.insts.all fun i => !(i.isOpen && i.encl.contains (p, f.iter) && opSET_EN i.m && f.evClr.testBit (opSET_EV i.m))

/-- LOOP_ITERATION. -/
def loopIteration (ring idx : Nat) (s : State) : State :=
  match s.cb? ring idx with
  | none => s
  | some c =>
    match c.frames with
    | f :: t =>
      match f.pos with
      | some p =>
        if c.term.isNone && f.isLoop && decide (f.len ≤ f.pc) && decide (f.iter + 1 < f.count) && c.iterDone f p then
          s.modCb ring idx fun c => clearEvents f.evClr { c with frames := { f with pc := 0, iter := f.iter + 1 } :: t }
        else s
      | none => s
    | [] => s

def execLoopIteration (ring idx : Nat) (s : State) : Res := .next (whenRunning (loopIteration ring idx) s)

/-- The innermost loop ends, with the CALL operations within it: the frames left, and the positions that end. -/
def breakFrames : List Frame → List Frame × List (Nat × Nat)
  | [] => ([], [])
  | f :: t =>
    match f.pos with
    | none => (f :: t, [])
    | some p =>
      if f.isLoop then (t, [(p, everyIter)])
      else
        let (fs, l) := breakFrames t
        (fs, (p, everyIter) :: l)

def actBreak (c : Cb) (w : Who) (_ : Rec4) (s : State) : State :=
  let s1 := finishOp w stOK s
  if c.frames.any (·.isLoop) then
    s1.modCb w.1 w.2.1 fun c =>
      let (fs, l) := breakFrames c.frames
      { c with frames := fs }.markIssued l
  else s1

def actCall (c : Cb) (w : Who) (m : Rec4) (s : State) : State :=
  if c.tooDeep then finishOp w stUNSUPPORTED s
  else s.modCb w.1 w.2.1 fun c =>
    { c with frames := ⟨bits m.w1 47 0, bits m.w2 19 0, 0, false, 0, 0, 0, some w.2.2⟩ :: c.frames }

def execOpLoop (s : State) : Res := .next (whenRunning (startOp (opIs 0x0A) actLoop) s)
def execOpBreak (s : State) : Res := .next (whenRunning (startOp (opIs 0x0B) actBreak) s)
def execOpCall (s : State) : Res := .next (whenRunning (startOp (opIs 0x0C) actCall) s)

/-! ## Template operations and reserved opcodes -/

def execOpLoad (s : State) : Res :=
  .next (whenRunning (startOp (opIs 0x0D) fun c w m s => loadTemplate c.ctx w m s) s)
def execOpPatchStructural (s : State) : Res :=
  .next (whenRunning (startOp (fun m => opOPC m == 0x0E && !bit m.w0 30) fun c w m s => patchStructural c.ctx w m s) s)
def execOpPatchParam (s : State) : Res :=
  .next (whenRunning (startOp (fun m => opOPC m == 0x0E && bit m.w0 30) fun c w m s => patchParam c.ctx w m s) s)
def execOpUnload (s : State) : Res :=
  .next (whenRunning (startOp (opIs 0x0F) fun c w m s => unloadTemplate c.ctx w m s) s)
def execReservedOpcode (s : State) : Res :=
  .next (whenRunning (startOp (fun m => decide (0x10 ≤ opOPC m)) (endOp stUNSUPPORTED)) s)

/-! ## OPERATION_READ_ERROR (R429) -/

/-- The next operation cannot be read: it does not start, takes its position, and completes CANCELLED, whatever its SOFT
bit would have held. The failed read of a TEST word is part of the TEST. -/
def operationReadError (s : State) : State :=
  match s.opWinner with
  | none => s
  | some c =>
    match c.nextAddr with
    | none => s
    | some a =>
      match s.opWords a with
      | some _ => s
      | none =>
        (completeOp c.ring c.idx c.nextPos stCANCELLED 1 5
          (errContained uFrontEnd (dataCode a) (some c.ctx) none (BitVec.ofNat 64 a)
            ((noteRead uFrontEnd (some c.ctx) a 32 s).modCb c.ring c.idx (Cb.enterOp s.tb ⟨0xFF00000000000000, 0, 0, 0⟩)))).modCb c.ring c.idx Cb.closeUp

def execOperationReadError (s : State) : Res := .next (whenRunning operationReadError s)

end Sys2Proof.Machine
end

