-- ==== Sys2Proof/Machine/ObsOps.lean ====
section
/-! DEFINITION. What other units trigger in the observation unit: the global stop (R403), the hang snapshot (R407), freezes
(R388, R402). -/

namespace Sys2Proof.Machine

/-- Every unit frozen (R388, R402). -/
def freezeAll (s : State) : State := setBits K.OBS_CTRL 0xFFFFFF s

/-! ## The global stop (R327, R403) -/

/-- The root of the start group. -/
def State.isStartRoot (s : State) : Bool := s.isG4 && s.fld K.FAB_START 29 20 == s.chipId

/-- 64 hc at the clock now running, in ns. -/
def State.stopLead (s : State) : Nat := ceilDiv 64000 s.fmhz

/-- STOP to every member of the start group. STOP_ID is left open: FREE VALUE (log entry 6). -/
def sendStops (tStop : Nat) (s : State) : State :=
  let (id, s1) := openWord s
  (s.fab.startCount.filter (· != s.chipId)).foldl (fun t c =>
    fabSend (packet t 0xA c 0 srcFabric 0 (BitVec.ofNat 64 tStop) (word [(15, 0, bits id 15 0)])) t) s1

/-- The stop is armed with a cause and T_STOP; later triggers are ignored. -/
def armStop (cause tStop : Nat) (s : State) : State :=
  { s with glb := { s.glb with armed := true, stopCause := cause, tStop := tStop } }

/-- A local trigger (R403). -/
def stopTrigger (cause : Nat) (s : State) : State :=
  if !s.glb.initDone || !s.live || s.glb.armed then s
  else if s.isStartRoot && s.flag K.STOP_CTRL 30 then
    let t := s.tb + s.fld K.FAB_STOP 30 0
    sendStops t (armStop cause t s)
  else armStop cause (s.tb + s.stopLead) s

/-! ## The hang snapshot (R407) -/

/-- A trigger: counted in HANG_SKIP while a snapshot runs. The snapshot's sections are read when it finishes (DESIGN CHOICE,
log entry 30). -/
def hangTrigger (reason : Nat) (s : State) : State :=
  if s.obs.hangBusy then bump K.HANG_SKIP 1 s
  else { s with obs := { s.obs with hangBusy := true, hangDone := false, hangReason := reason } }

/-- The oldest started and incomplete operation of a command buffer. -/
def Cb.oldestOpen (c : Cb) : Option OpInst := c.insts.find? (·.isOpen)

/-- Section 0: one word for each engine. -/
def hangEngines (s : State) : List Word :=
  (List.range 1024).map fun e =>
    let x := s.engine e
    word [(63, 57, x.pi), (56, 50, x.ci), (49, 36, s.outstanding e), (35, 35, b2n (s.disp.pre.any fun p => p.reserved.contains e)),
      (34, 34, b2n (s.disp.pre.any fun p => p.victim == some e)), (33, 33, b2n (!s.disp.outOfReset.contains e))]

/-- Section 1: 64 bytes for each ring. -/
def hangRing (s : State) (r : Nat) : List Word :=
  let x := s.ring r
  [BitVec.ofNat 64 (s.show32 Selector.zero (K.RING_CTRL r)).toNat, BitVec.ofNat 64 x.db, BitVec.ofNat 64 x.fetch,
   BitVec.ofNat 64 x.csnNext, BitVec.ofNat 64 x.done, BitVec.ofNat 64 (s.reg (K.RING_TIMEOUT r)).toNat,
   BitVec.ofNat 64 (s.cbsRunning r), 0]

/-- Section 2: 32 bytes for a running command buffer. -/
def hangCb (c : Cb) : List Word :=
  match c.oldestOpen with
  | some i =>
    let opc := opOPC i.m
    [word [(63, 61, c.ring), (60, 55, c.ctx), (54, 35, satTo 20 i.pos), (34, 27, opc)], BitVec.ofNat 64 c.csn,
     BitVec.ofNat 64 c.startStamp,
     word [(63, 40, if opc = 2 then opOBJ i.m else if opc = 5 then bits i.m.w1 8 0 else 0)]]
  | none => [word [(63, 61, c.ring), (60, 55, c.ctx)], BitVec.ofNat 64 c.csn, BitVec.ofNat 64 c.startStamp, 0]

/-- Section 3: 32 bytes for a barrier unit. -/
def hangBar (s : State) (u : Nat) : List Word :=
  [BitVec.ofNat 64 (s.show32 Selector.zero (K.BAR_CTRL u)).toNat, BitVec.ofNat 64 (s.bar u).gen,
   BitVec.ofNat 64 (s.show32 Selector.zero (K.BAR_CNT u)).toNat, BitVec.ofNat 64 (s.bar u).rel]

/-- Section 4: 8 bytes for a fabric group. -/
def hangGrp (s : State) (g : Nat) : Word :=
  if s.isG4 then join32 (s.show32 Selector.zero (K.GRP_STAT g)) (s.show32 Selector.zero (K.GRP_CTRL g)) else 0

/-- Section 5: 16 bytes for a queue descriptor; FREE and WORKQ are written 0. -/
def hangQueue (s : State) (q : Nat) (x : Queue) : List Word :=
  match x.kind with
  | .free | .workq => [0, 0]
  | .route => [word [(63, 32, s.qCtrl q)], word [(7, 0, x.hold.length)]]
  | _ => [word [(63, 32, s.qCtrl q), (31, 0, s.credit q)], word [(63, 32, x.prod), (31, 0, x.cons)]]

/-- The waiters of every object, in release order per object (section 6). -/
def State.allWaiters (s : State) : List Waiter :=
  (s.sync.objs.filter fun e => e.2.isSome).flatMap fun e => s.waitersOf e.1

/-- The running command buffers, rings in order and earliest first. -/
def State.runningCbs (s : State) : List Cb :=
  (List.range 8).flatMap fun r => s.cbs.filter fun c => c.ring == r && c.state == .running

/-- The header (Table 14-7). -/
def hangHeader (s : State) : List Word :=
  let stamp := BitVec.ofNat 64 s.tb
  let counts := [1024, 8, s.runningCbs.length, 64, if s.isG4 then 256 else 0, s.nQueues, s.sync.waiters.length]
  [0x534B504400000003, word [(63, 56, s.obs.hangReason), (9, 0, s.chipId)]] ++
    counts.flatMap fun n => [stamp, stamp, BitVec.ofNat 64 n]

def State.hangBase (s : State) : Nat := s.addrOf K.HANG_BASE_LO K.HANG_BASE_HI

/-- The snapshot's writes (Table 14-7); a write refused by the memory port is reported (R345, R365; DEDUCED, log entry 83). -/
def hangWrite (s : State) : State :=
  ifThen (!s.areaOk s.hangBase 0x310000) (errContained uObs 0x04 none none (word [(47, 0, s.hangBase)])) <|
    writeArea uObs s.hangBase 0x310000
    ([(0, hangHeader s), (0x1000, hangEngines s), (0x3000, (List.range 8).flatMap (hangRing s)),
      (0x4000, s.runningCbs.flatMap hangCb), (0x5000, (List.range 64).flatMap (hangBar s)),
      (0x5800, (List.range 256).map (hangGrp s)), (0x110000, s.allWaiters.flatMap waiterWords)] ++
     s.queues.map fun e => (0x10000 + 16 * e.1, hangQueue s e.1 e.2)) s

end Sys2Proof.Machine
end

