-- ==== Sys2Proof/Machine/FrontEnd.lean ====
section
/-! DEFINITION. Rings and command buffers (R154 to R160, R178 to R188): doorbells, fetch, start, completion, timeouts and
cancellation. -/

namespace Sys2Proof.Machine

/-! ## Doorbells (R157, R158) -/

/-- (a − b) mod 2^32 of ring indices. -/
def idxSub (a b : Nat) : Nat := (a + 2 ^ 32 - b % 2 ^ 32) % 2 ^ 32

def State.ringEntries (s : State) (r : Nat) : Nat := s.fld (K.RING_SIZE r) 16 0

def ringDoorbell (r : Nat) (v : W32) (s : State) : State :=
  let x := s.ring r
  let d := idxSub v.toNat x.doneIdx
  if s.ringEntries r < d then
    errContained uFrontEnd 0x1A none none (word [(63, 32, v.toNat), (2, 0, r)]) (bump K.FE_DB_BAD 1 s)
  else if idxSub x.db x.doneIdx ≤ d then s.setRing r { x with db := v.toNat }
  else s

/-- RING_DB: latched in every phase; a fatal or stopped block discards it (R368, R406). -/
def execRingDb (ring : Nat) (v : W32) (s : State) : Res := .next (if s.live then ringDoorbell ring v s else s)

/-! ## Fetch (R155, R429) -/

def State.ringBase (s : State) (r : Nat) : Nat := s.addrOf (K.RING_BASE_LO r) (K.RING_BASE_HI r)
def State.entryAddr (s : State) (r i : Nat) : Nat := addr48 (s.ringBase r + i % s.ringEntries r * 64)

/-- The command buffer of an entry (Table 06-1). -/
def parseEntry (r idx csn tb : Nat) (w : List Word) : Cb :=
  let u0 := wordAt w 0; let u1 := wordAt w 1; let u2 := wordAt w 2; let u3 := wordAt w 3
  let ptr := bits u0 47 0
  let n := bits u1 63 44
  { ring := r, idx := idx, csn := csn, ptr := ptr, ops := n, ctx := bits u1 43 38, irq := bit u1 37, order := bit u1 36,
    vector := bits u1 35 30, timeout := bits u2 63 32, audPtr := bits u3 47 0, userTag := wordAt w 4, fetchStamp := tb,
    state := .fetched, startStamp := tb, begun := false, term := none, events := 0, flag := false,
    frames := [⟨ptr, n, 0, false, 0, 0, 0, none⟩], insts := [], nextPos := 0, hashes := [], audits := [], fallback := false,
    overrun := false, timed := false, cancel := false }

/-- An entry whose read fails: finished CANCELLED, with CONTEXT 0, IRQ 0 and no audit area. -/
def badEntry (r idx csn tb hc : Nat) : Cb :=
  { parseEntry r idx csn tb [] with state := .finished, term := some ⟨stCANCELLED, 5, 1, 0, hc, 0⟩ }

def ringFetch (r : Nat) (s : State) : State :=
  let x := s.ring r
  if !s.active (.ring r) || idxSub x.db x.doneIdx ≤ idxSub x.fetch x.doneIdx then s
  else
    let a := s.entryAddr r x.fetch
    let s1 := noteRead uFrontEnd none a 64 (s.setRing r { x with fetch := (x.fetch + 1) % 2 ^ 32, csnNext := (x.csnNext + 1) % 2 ^ 64 })
    match s1.readWords a 8 with
    | some w => { s1 with cbs := s1.cbs ++ [parseEntry r x.fetch x.csnNext s.tb w] }
    | none =>
      errContained uFrontEnd (dataCode a) none none (BitVec.ofNat 64 a)
        { s1 with cbs := s1.cbs ++ [badEntry r x.fetch x.csnNext s.tb s.hc] }

def execRingFetch (ring : Nat) (s : State) : Res := .next (whenRunning (ringFetch ring) s)

/-! ## Start (R156, R195) -/

/-- ACTIVE; 0 means 16. -/
def State.ringActive (s : State) (r : Nat) : Nat :=
  let a := s.fld (K.RING_CTRL r) 23 20
  if a = 0 then 16 else a

/-- A command buffer that ends before any of its operations starts. -/
def Cb.atOnce (c : Cb) (st cause hc rank : Nat) : Cb :=
  { c with state := .finished }.setTerm ⟨st, cause, 0, 0, hc, rank⟩

/-- The entry in turn of a ring starts, or ends at once (R156, R186, R195). An entry that is not enabled ends NOT_READY
also when it has no operations. -/
def cbStart (r : Nat) (s : State) : State :=
  match s.cbs.find? fun c => c.ring == r && c.state == .fetched with
  | none => s
  | some c =>
    if c.order && s.cbs.any (fun e => e.ring == r && idxSub e.idx (s.ring r).doneIdx < idxSub c.idx (s.ring r).doneIdx) then s
    else
      let u := s.ctx c.ctx
      if u.state = .resetting then s.modCb r c.idx fun c => c.atOnce stCANCELLED 7 s.hc 2
      else if u.state = .disabled || (s.unit (.ctx c.ctx)).draining then s.modCb r c.idx fun c => c.atOnce stNOT_READY 0 s.hc 0
      else if c.ops = 0 then s.modCb r c.idx fun c => { c with state := .finished }
      else if s.cbsRunning r < s.ringActive r then
        trace1 20 0x05 (some c.ctx) (srcRing r) (word [(63, 61, r), (31, 0, c.csn)]) c.userTag
          (s.modCb r c.idx fun c => { c with state := .running })
      else s

def execCbStart (ring : Nat) (s : State) : Res := .next (whenRunning (cbStart ring) s)

/-! ## MSI-X requests of a ring (R184) -/

/-- The end of a holdoff: a merged request issues and starts a new one. -/
def holdoffEnd (r : Nat) (s : State) : State :=
  let x := s.ring r
  match x.holdoff with
  | none => s
  | some e =>
    if s.tb < e then s
    else
      match x.merged with
      | some v => msix v (s.setRing r { x with merged := none, holdoff := some (s.tb + s.fld (K.RING_IRQ r) 31 16 * 1000) })
      | none => s.setRing r { x with holdoff := none }

def execMsixHoldoffExpiry (ring : Nat) (s : State) : Res := .next (whenRunning (holdoffEnd ring) s)

/-- A request that falls due. -/
def ringIrq (r v : Nat) (s0 : State) : State :=
  let s := holdoffEnd r s0
  let x := s.ring r
  let mod := s.fld (K.RING_IRQ r) 31 16
  match x.holdoff with
  | some _ => s.setRing r { x with merged := some v }
  | none => msix v (if mod = 0 then s else s.setRing r { x with holdoff := some (s.tb + mod * 1000) })

/-! ## Completion (R178 to R184) -/

/-- Everything of the command buffer has been issued or will not be, and every operation it started has completed. -/
def Cb.complete (c : Cb) : Bool :=
  c.state == .finished ||
    (c.state == .running && c.insts.all (fun i => !i.isOpen) &&
      (c.term.isSome || (match c.frames with | [f] => decide (f.len ≤ f.pc) | _ => false)))

def Cb.status (c : Cb) : Nat :=
  match c.term with
  | some t => t.status
  | none => if c.fallback then stFALLBACK else stOK

def Cb.good (c : Cb) : Bool := c.status == stOK || c.status == stFALLBACK

/-- Whether audit records are written (R179 step 1). -/
def Cb.audited (c : Cb) : Bool := c.audPtr != 0 && c.good && !c.audits.isEmpty

/-- The completion record (Table 06-8). OP_INDEX is 0 when no event set the status (DEDUCED, log entry 34). -/
def recordWords (c : Cb) (tb : Nat) : List Word :=
  let t := c.term.getD ⟨0, 0, 0, 0, 0, 0⟩
  [BitVec.ofNat 64 c.csn,
   word [(63, 56, c.status), (55, 54, t.cls), (53, 48, c.ctx), (47, 28, satTo 20 t.opIndex), (27, 12, t.cause),
     (11, 11, b2n c.fallback), (10, 10, b2n c.overrun), (9, 9, b2n c.audited)],
   BitVec.ofNat 64 c.startStamp, BitVec.ofNat 64 tb]

/-- The parameter words as AUD_PMASK admits them. -/
def Audit.masked (a : Audit) : List Word := (List.range 16).map fun n => if a.pmask.testBit n then wordAt a.params n else 0

/-- The byte string of the digest (Table 05-14). -/
def digestBytes (c : Cb) (a : Audit) : List Byte :=
  wordsBytes ([0x534B504400000001] ++ a.desc ++ [a.idWord, BitVec.ofNat 64 a.pmask] ++ a.masked ++
    [BitVec.ofNat 64 c.hashes.length] ++ c.hashes.flatMap fun h => BitVec.ofNat 64 h.2.1 :: words4 h.2.2)

/-- The audit record (R183): 128 bytes. -/
def auditBytes (c : Cb) (a : Audit) : List Byte :=
  wordsBytes a.desc ++ sha256 (digestBytes c a) ++ wordsBytes [a.idWord, BitVec.ofNat 64 c.hashes.length, 0, 0]

def writeAudits (c : Cb) : Nat → List Audit → State → State
  | _, [], s => s
  | k, a :: t, s => writeAudits c (k + 1) t (writeBytes uFrontEnd (some c.ctx) (addr48 (c.audPtr + 128 * k)) (auditBytes c a) s)

/-- How many entries the CSN word newly covers: completion records written without a gap from the first not covered. -/
def coverRun (recorded : List Nat) : Nat → Nat → Nat
  | 0, _ => 0
  | n + 1, csn => if recorded.contains csn then 1 + coverRun recorded n ((csn + 1) % 2 ^ 64) else 0

/-- The CSN of the first entry that the CSN word does not cover (R159). -/
def Ring.nextCover (x : Ring) : Nat := (x.csnNext + 2 ^ 64 - idxSub x.fetch x.doneIdx) % 2 ^ 64

/-- Step 3 of R179, and the requests of step 4 that it lets issue. -/
def raiseCsn (r : Nat) (s : State) : State :=
  let x := s.ring r
  let first := x.nextCover
  let n := coverRun x.recorded x.recorded.length first
  if n = 0 then s
  else
    let covered := (List.range n).map fun i => (first + i) % 2 ^ 64
    let last := (first + n - 1) % 2 ^ 64
    let x1 := { x with done := last, doneIdx := (x.doneIdx + n) % 2 ^ 32
                       recorded := x.recorded.filter fun c => !covered.contains c
                       owed := x.owed.filter fun o => !covered.contains o.1 }
    let s1 := writeWords uFrontEnd none (s.addrOf (K.RING_CSNA_LO r) (K.RING_CSNA_HI r)) [BitVec.ofNat 64 last] (s.setRing r x1)
    covered.foldl (fun t c =>
      match x.owed.find? fun o => o.1 == c with
      | some o => ringIrq r o.2 t
      | none => t) s1

/-- The command buffer leaves, in the order of R179. -/
def finishCb (c : Cb) (s : State) : State :=
  let r := c.ring
  let s1 := if c.audited then writeAudits c 0 c.audits s else s
  let s2 := writeWords uFrontEnd (some c.ctx) (addr48 (s.addrOf (K.RING_STAT_LO r) (K.RING_STAT_HI r) + c.idx % s.ringEntries r * 32))
    (recordWords c s.tb) s1
  let x := s2.ring r
  let s3 := s2.setRing r { x with recorded := x.recorded ++ [c.csn]
                                  owed := if c.irq then x.owed ++ [(c.csn, c.vector)] else x.owed }
  let s4 := bump (K.RING_CB_DONE r) 1 (ifThen (!c.good) (bump (K.RING_CB_FAIL r) 1)
    { s3 with cbs := dropFirst (·.is r c.idx) s3.cbs })
  trace1 20 0x06 (some c.ctx) (srcRing r) (word [(63, 61, r), (55, 48, c.status), (31, 0, c.csn)]) c.userTag
    (pmc 20 0x39 (some c.ctx) 1 (raiseCsn r s4))

/-- CB_COMPLETE. -/
def execCbComplete (ring idx : Nat) (s : State) : Res :=
  .next (whenRunning (fun s => withSome (s.cb? ring idx) s fun c => if c.complete then finishCb c s else s) s)

/-! ## Ending a command buffer early (R177, R185, R186) -/

/-- OP_INDEX of a timeout or a cancellation (Table 06-8). -/
def Cb.endIndex (c : Cb) : Nat :=
  match c.insts.find? fun i => i.isOpen && opOPC i.m != 0x0A && opOPC i.m != 0x0C with
  | some i => i.pos
  | none => c.nextPos

/-- What the end of its command buffer does to one incomplete operation: `st` completes a WAIT or BARRIER, `lst` a held
LAUNCH. The room of its waits is given out once all withdrawals of the hub cycle are done (R232). -/
def endOne (c : Cb) (st lst cause : Nat) (i : OpInst) (s : State) : State :=
  let w : Who := (c.ring, c.idx, i.pos)
  match opOPC i.m with
  | 0x01 =>
    match i.launch with
    | some serial => cancelLaunch c.ctx serial s
    | none =>
      completeOp c.ring c.idx i.pos lst 0 cause
        { s with heldLaunches := s.heldLaunches.filter fun h => !(h.ring == c.ring && h.idx == c.idx && h.pos == i.pos) }
  | 0x02 => finishOp w st (dropWait c.ring c.idx i.pos s)
  | 0x05 => finishOp w st (withdrawBarrier c.ring c.idx i.pos s)
  | 0x0D | 0x0E => abortBuild c.ring c.idx i.pos cause s
  | _ => s

/-- The actions of R185 on a running command buffer, with status `st`. -/
def endCb (c : Cb) (st lst cause rank : Nat) (s : State) : State :=
  let s1 := s.modCb c.ring c.idx fun c => c.setTerm ⟨st, cause, 0, c.endIndex, s.hc, rank⟩
  let wst := if rank = 1 then st else
    match s1.cb? c.ring c.idx with
    | some c => c.status
    | none => st
  ((c.insts.filter (·.isOpen)).foldl (fun t i => endOne c wst lst cause i t) s1).modCb c.ring c.idx Cb.settle

/-- Timeout of a command buffer in µs (R185). -/
def State.cbLimit (s : State) (c : Cb) : Nat := if c.timeout = 0 then (s.reg (K.RING_TIMEOUT c.ring)).toNat else c.timeout

/-- CB_TIMEOUT: the timeout of a running command buffer has expired. -/
def cbTimeout (r idx : Nat) (s : State) : State :=
  match s.cb? r idx with
  | none => s
  | some c =>
    let lim := s.cbLimit c
    if c.state != .running || c.complete || c.timed || lim = 0 || s.tb < c.startStamp + lim * 1000 then s
    else
      let s1 := bump K.FE_TIMEOUT 1
        (admitHeldWaits (endCb c stTIMEOUT stTIMEOUT 0 1 (s.modCb r idx fun c => { c with timed := true })))
      ifThen (s1.flag K.HANG_CTRL 29) (hangTrigger 3) s1

def execCbTimeout (ring idx : Nat) (s : State) : Res := .next (whenRunning (cbTimeout ring idx) s)

/-- WTIME_EXPIRY: a WAIT or BARRIER completes TIMEOUT on its own. -/
def wtimeExpiry (r idx pos : Nat) (s : State) : State :=
  match (s.cb? r idx).bind (·.inst? pos) with
  | none => s
  | some i =>
    let lim := opWTIME i.m
    if !i.isOpen || lim = 0 || s.tb < i.stamp + lim * 1000 then s
    else
      match opOPC i.m with
      | 0x02 => finishOp (r, idx, pos) stTIMEOUT (withdrawWait r idx pos s)
      | 0x05 => finishOp (r, idx, pos) stTIMEOUT (withdrawBarrier r idx pos s)
      | _ => s

def execWtimeExpiry (ring idx pos : Nat) (s : State) : Res := .next (whenRunning (wtimeExpiry ring idx pos) s)

/-- A fetched entry is cancelled: running, or at once when none of its operations has started. -/
def cancelCb (st cause : Nat) (c : Cb) (s : State) : State :=
  match c.state with
  | .fetched => s.modCb c.ring c.idx fun c => c.atOnce st cause s.hc 2
  | .running =>
    if c.complete then s
    else endCb c st stCANCELLED cause 2 (s.modCb c.ring c.idx fun c => { c with cancel := c.cancel || !c.timed })
  | .finished => s

/-- Status that FE_CANCEL sets. -/
def cancelCode (v : W32) : Nat := if bit v 29 then stDEADLOCK else stCANCELLED

/-- FE_CANCEL of KIND 0b00: one launch. A primary whose remainder its switch has cancelled is still in flight, and its cancellation
ends the switch (R186, R212). -/
def cancelOne (v : W32) (s : State) : State :=
  let ctx := bits v 25 20
  let serial := bits v 19 0
  match s.launch? ctx serial with
  | some l =>
    if l.cancelled && !s.switchLive l then s
    else cancelLaunch ctx serial (s.modLaunch ctx serial fun l => { l with dlk := bit v 29 })
  | none => s

def feCancel (kind : Nat) (f : State → State) (v : W32) (s : State) : State :=
  hostWrite (fun s => if bits v 31 30 = kind then f s else s) s

def execFeCancelLaunch (v : W32) (s : State) : Res := .next (feCancel 0 (cancelOne v) v s)

/-- FE_CANCEL of KIND 0b01: one fetched entry, by the low bits of its ring index. -/
def execFeCancelEntry (v : W32) (s : State) : Res :=
  .next (feCancel 1 (fun s =>
    withSome (s.cbs.find? fun c => c.ring == bits v 28 26 && c.idx % 2 ^ 16 == bits v 15 0) s fun c =>
      admitHeldWaits (cancelCb (cancelCode v) 0 c s)) v s)

/-- FE_CANCEL of KIND 0b10: every fetched entry of a ring. -/
def execFeCancelRing (v : W32) (s : State) : Res :=
  .next (feCancel 2 (fun s =>
    admitHeldWaits ((s.cbs.filter fun c => c.ring == bits v 28 26).foldl (fun t c => cancelCb (cancelCode v) 0 c t) s)) v s)

/-! ## Ring enable and drain (R188, R359) -/

def ringRule (r : Nat) : EnableRule := ⟨fun _ => true, fun s => s.setRing r { s.ring r with fresh := false }, id⟩

/-- RING_CTRL: ACTIVE takes the write in every phase from SETUP on, ENABLE from READY on. -/
def execRingCtrlEnableWrite (ring : Nat) (v : W32) (s : State) : Res :=
  .next (hostWrite (fun s =>
    enableGate (writeEnable (.ring ring) false (ringRule ring) (bit v 0)) (plainWrite (K.RING_CTRL ring) v s)) s)

def execRingDrainComplete (ring : Nat) (s : State) : Res :=
  .next (whenRunning (drainWhen (.ring ring) (ringRule ring) fun s => !(s.cbs.any fun c => c.ring == ring)) s)

end Sys2Proof.Machine
end

