-- ==== Sys2Proof/Machine/Sync.lean ====
section
/-! DEFINITION. The sync unit's commands (08_sync_objects_and_barriers.md): SYN_CMD, engine requests, signal-on-apply notices,
the deadlock detector. -/

namespace Sys2Proof.Machine

/-! ## SYN_CMD (R219) -/

/-- The sync unit carries a command out at once (log entry 41), while the block runs; it is discarded while BUSY is 1. -/
def synCmd (cmd : Nat) (v : W32) (f : Nat → Nat → State → Nat × State) (s : State) : State :=
  hostWrite (fun s =>
    if bits v 31 30 = cmd ∧ s.running ∧ s.sync.cmdBusy = false then
      let (st, s1) := f (s.fld K.SYN_ARG 29 24) (s.fld K.SYN_ARG 23 0) s
      { s1 with sync := { s1.sync with cmdStatus := st } }
    else s) s

/-- The lowest free physical object. At most as many numbers are taken as are listed. -/
def State.freeObj (s : State) : Option Nat :=
  match (List.range (s.sync.objs.length + 1)).find? fun p => (s.obj? p).isNone with
  | some p => if p < s.nObjs then some p else none
  | none => none

/-- VALID of an object-table entry; a POISON reads as not VALID (R220). -/
def State.vtValid (s : State) (ctx v : Nat) : Bool :=
  match s.readWords (s.vtAddr ctx v) 1 with
  | some w => bit (wordAt w 0) 63
  | none => false

def State.vtPoison (s : State) (ctx v : Nat) : Bool := (s.readWords (s.vtAddr ctx v) 1).isNone

def State.synVal (s : State) : Nat := (s.reg K.SYN_VAL_LO).toNat + (s.reg K.SYN_VAL_HI).toNat * 2 ^ 32

def newObj (ctx virt value : Nat) (token : Bool) : Obj := ⟨token, false, ctx, virt, value, 0, 0, 0, false, false, 0⟩

def createObj (token : Bool) (ctx v : Nat) (s0 : State) : Nat × State :=
  if (s0.reg (K.SYN_VT_Nn ctx)).toNat ≤ v then (stUNSUPPORTED, s0)
  else
    let s := ifThen (s0.vtPoison ctx v) (notePoison ctx v) (readVt ctx v s0)
    if s.vtValid ctx v || s.saveHeld ctx || (s.ctx ctx).state == .resetting then (stUNSUPPORTED, s)
    else
      match s.freeObj with
      | none => (stUNSUPPORTED, s)
      | some p => (stOK, writeVt ctx v true token p (s.setObj p (some (newObj ctx v s.synVal token))))

/-- A command on a name: UNSUPPORTED when the name is invalid. -/
def onNamed (f : Nat → Obj → State → Nat × State) (ctx v : Nat) (s0 : State) : Nat × State :=
  let s := readVt ctx v s0
  match s.nameOf ctx v with
  | .phys p =>
    match s.obj? p with
    | some o => f p o s
    | none => (stUNSUPPORTED, s)
  | .unmapped => (stUNSUPPORTED, s)
  | .poison => (stUNSUPPORTED, notePoison ctx v s)

def destroyObj (ctx v : Nat) (s : State) : Nat × State :=
  onNamed (fun p o s =>
    (stOK, admitHeldWaits (writeVt ctx v false o.token p ((abandonWaiters p s).setObj p none)))) ctx v s

def reinitObj (ctx v : Nat) (s : State) : Nat × State :=
  onNamed (fun p o s =>
    if (s.waitersOf p).isEmpty then
      (stOK, s.setObj p (some { o with value := s.synVal, abandoned := false, signalled := false }))
    else (stUNSUPPORTED, s)) ctx v s

def execSynCreate (v : W32) (s : State) : Res := .next (synCmd 1 v (createObj (bit v 29)) s)
def execSynDestroy (v : W32) (s : State) : Res := .next (synCmd 2 v destroyObj s)
def execSynReinit (v : W32) (s : State) : Res := .next (synCmd 3 v reinitObj s)

/-- The objects of a context become ABANDONED (R237); the room that their waiters leave is given out later in the hub cycle
(R232). -/
def abandonObjs (ctx : Nat) (s : State) : State :=
  (s.sync.objs.filter fun e => e.2.any fun o => o.ctx == ctx).foldl (fun t e =>
    let t1 := abandonWaiters e.1 t
    match t1.obj? e.1 with
    | some o => t1.setObj e.1 (some { o with abandoned := true })
    | none => t1) s

/-- The objects of a context at INIT (R207, R237). -/
def initObjs (ctx : Nat) (s : State) : State :=
  { s with sync := { s.sync with objs := s.sync.objs.map fun e =>
      (e.1, e.2.map fun o => if o.ctx == ctx then { o with value := 0, abandoned := false, signalled := false } else o) } }

/-! ## Requests on the engine port (Table 08-3) -/

def jOP (r : Rec4) : Nat := bits r.w0 63 62
def jSCOPE (r : Rec4) : Nat := bits r.w0 61 60
def jADD (r : Rec4) : Bool := bit r.w0 59
def jFRAG (r : Rec4) : Nat := bits r.w0 58 55
def jCTX (r : Rec4) : Nat := bits r.w0 54 49
def jOBJ (r : Rec4) : Nat := bits r.w0 48 25
def jDEST (r : Rec4) : Nat := bits r.w0 24 15
def jHANDLE (r : Rec4) : Nat := bits r.w2 63 32
def jTAG (r : Rec4) : Nat := bits r.w2 31 16

/-- Whether the engine port holds a request: a WAIT while the waiter pool is full (R228), but not one of an engine under reset,
which is discarded (Table 12-5). -/
def State.syncHeld (s : State) (src : Nat) (r : Rec4) : Bool := jOP r == 1 && s.poolFull && !s.engResetting src

/-- A request off lane S, when it is of this OP. -/
def onRequest (op src : Nat) (r : Rec4) (f : State → State) (s : State) : State :=
  if jOP r = op then laneTake 1 src 4 r (·.syncHeld src r) f s else s

/-- A signal that leaves for another chip (R226, R318); one of a G4E names no chip (R329). -/
def remoteSignal (src : Nat) (r : Rec4) (s : State) : State :=
  if s.isG4 then
    fabSend (packet s 2 (jDEST r) (jCTX r) src (s.applyFrame (jCTX r)) r.w1
      (word [(63, 40, jOBJ r), (39, 38, jSCOPE r), (37, 37, b2n (jADD r)), (36, 33, jFRAG r), (32, 17, jTAG r)])) (linkPass 0xF000 s)
  else noteUnmapped (jCTX r) (jOBJ r) false s

/-- P0 of a SIGNAL record: the task of the signaller, 0 for a control processor. -/
def State.handleTask (s : State) (h : Nat) : Word :=
  if h = 0 then 0
  else
    let tg := s.slotTags (s.slot (hShard h) (hSlot h))
    taskWord tg.1 tg.2 h

/-- ENGINE_SIGNAL: a data-carried request for an object of this chip has no effect (R223). -/
def engineSignal (src : Nat) (r : Rec4) (s : State) : State :=
  if jDEST r ≠ s.chipId then remoteSignal src r s
  else if jFRAG r ≠ 0 then s
  else (signalNamed ⟨s.chipId, src, jCTX r, jOBJ r, r.w1.toNat, jADD r, jSCOPE r⟩ (s.handleTask (jHANDLE r)) s).2

def execEngineSignal (src : Nat) (r : Rec4) (s : State) : Res := .next (onRequest 0 src r (engineSignal src r) s)

/-- The priority of an engine wait (R228). -/
def State.waitPrio (s : State) (src h : Nat) : Nat :=
  if h = 0 then 0
  else
    let v := s.slot (hShard h) (hSlot h)
    if v.state = .running ∧ v.gen = hGen h ∧ v.engine = src ∧ src < 1024 then v.prio else 7

/-- ENGINE_WAIT. The value of an answer on an unmapped name is open (log entry 6). -/
def engineWait (src : Nat) (r : Rec4) (s : State) : State :=
  let ctx := jCTX r
  let v := jOBJ r
  let w := fun p : Nat => (⟨true, s.waitPrio src (jHANDLE r), jSCOPE r, p, src, r.w1.toNat, s.tb, 0, 0, 0, jHANDLE r, ctx⟩ : Waiter)
  let no := fun (poison : Bool) (s : State) =>
    let (x, s1) := openWord (noteUnmapped ctx v poison s)
    sendLane src 0x3 (notice (jHANDLE r) stUNSUPPORTED x) (linkPass 0xC000 s1)
  match s.savedOf ctx with
  | some sv =>
    match sv.find v with
    | some k => saveWaiter ctx (w k) sv s
    | none => no false s
  | none =>
    match s.nameOf ctx v with
    | .phys p =>
      match s.obj? p with
      | some o => intakeOn (w p) o (readVt ctx v s)
      | none => s
    | .unmapped => no false (readVt ctx v s)
    | .poison => no true (readVt ctx v s)

/-- A WAIT request off its lane; one of an engine under reset is discarded (Table 12-5). -/
def engineWaitRun (src : Nat) (r : Rec4) (s : State) : State := if s.engResetting src then s else engineWait src r s

def execEngineWait (src : Nat) (r : Rec4) (s : State) : Res := .next (onRequest 1 src r (engineWaitRun src r) s)

/-- An ARRIVE request (R238): the core of the requester. -/
def arriveRun (src : Nat) (r : Rec4) (s : State) : State :=
  coreArrive (bits r.w0 30 25) (bits r.w1 31 0) (jCTX r) (srcCore src, src, jHANDLE r) s

def execArrive (src : Nat) (r : Rec4) (s : State) : Res := .next (onRequest 2 src r (arriveRun src r) s)

/-- A request with the reserved OP (R221). -/
def syncBadRun (r : Rec4) (s : State) : State :=
  errContained uSync 0x16 (some (jCTX r)) none (word [(23, 0, jOBJ r)]) (bump K.SIG_BAD 1 s)

/-- SYNC_REQUEST_BAD (R221): OP 0b11. -/
def execSyncRequestBad (src : Nat) (r : Rec4) (s : State) : Res := .next (onRequest 3 src r (syncBadRun r) s)

/-- A request of lane S by its OP. -/
def syncRun (src : Nat) (r : Rec4) (s : State) : State :=
  match jOP r with
  | 0 => engineSignal src r s
  | 1 => engineWaitRun src r s
  | 2 => arriveRun src r s
  | _ => syncBadRun r s

/-! ## Data-carried signals (R223, R224, R319) -/

def PendSig.is (e : PendSig) (chip src tag : Nat) : Bool := e.chip == chip && e.src == src && e.tag == tag

def State.pend? (s : State) (chip src tag : Nat) : Option PendSig := s.sync.pend.find? (·.is chip src tag)

def State.setPend (s : State) (e : PendSig) : State :=
  { s with sync := { s.sync with pend := updFirst (·.is e.chip e.src e.tag) (fun _ => e) s.sync.pend } }

def State.dropPend (s : State) (e : PendSig) : State :=
  { s with sync := { s.sync with pend := dropFirst (·.is e.chip e.src e.tag) s.sync.pend } }

/-- Whether a pending signal may be applied now. A remote signal of a FREE context does not wait for its announcement; one of
a FRAMED context waits for it, since only it names the frame (DEDUCED, log entry 42). -/
def State.pendReady (s : State) (e : PendSig) : Bool :=
  !e.applied && decide (max e.frag 1 ≤ e.seen) &&
    (e.chip == s.chipId ||
      match e.ann with
      | some p => !s.mustHold p
      | none => !s.framed e.ctx)

/-- An entry whose signal has been applied leaves once its announcement, if it has one, has arrived, which acknowledges it. -/
def pendLeave (e : PendSig) (s : State) : State :=
  match e.ann with
  | some p => ackOf p e.lost (s.dropPend e)
  | none => if e.chip = s.chipId then s.dropPend e else s

/-- The entry of a key is applied when it may be, and leaves when it is done. -/
def pendRun (chip src tag : Nat) (s : State) : State :=
  match s.pend? chip src tag with
  | none => s
  | some e =>
    if s.pendReady e then
      let g : Sig := ⟨e.chip, e.src, e.ctx, e.obj, e.value.toNat, e.add, e.scope⟩
      let e' := { e with applied := true, lost := s.discards g }
      pendLeave e' (signalNamed g 0 (s.setPend e')).2
    else if e.applied then pendLeave e s
    else s

def noticeSame (e : PendSig) (r : Rec4) : Bool :=
  e.frag == jFRAG r && e.obj == jOBJ r && e.ctx == jCTX r && e.value == r.w1

def newPend (chip src : Nat) (r : Rec4) : PendSig :=
  ⟨chip, src, jTAG r, jFRAG r, jOBJ r, jCTX r, r.w1, jSCOPE r, jADD r, 1, none, false, false⟩

/-- SIGNAL_NOTICE: the memory port holds a notice that finds the table full. -/
def signalNotice (chip src : Nat) (r : Rec4) (s0 : State) : State :=
  let s := linkPass 0x6001 s0
  match s.pend? chip src (jTAG r) with
  | none =>
    if 4096 ≤ s.sync.pend.length then s0
    else pendRun chip src (jTAG r) { s with sync := { s.sync with pend := s.sync.pend ++ [newPend chip src r] } }
  | some e =>
    if e.seen = 0 then pendRun chip src (jTAG r) (s.setPend { newPend chip src r with ann := e.ann })
    else if noticeSame e r then pendRun chip src (jTAG r) (s.setPend { e with seen := e.seen + 1 })
    else errContained uSync 0x16 (some (jCTX r)) none (word [(23, 0, jOBJ r)]) (bump K.SIG_BAD 1 s)

def execSignalNotice (chip src : Nat) (r : Rec4) (s : State) : Res := .next (portTake 0x6001 6 (words4 r) (signalNotice chip src r) s)

/-- A pending entry discarded by a reset (R225). -/
def losePend (report : Bool) (e : PendSig) (s : State) : State :=
  let s1 := bump K.SIG_LOST 1 (s.dropPend e)
  let s2 := match e.ann with
    | some p => ackOf p true s1
    | none => s1
  if report then errContained uSync 0x16 (some e.ctx) none (word [(23, 0, e.obj)]) s2 else s2

def losePends (report : Bool) (p : PendSig → Bool) (s : State) : State :=
  (s.sync.pend.filter p).foldl (fun t e => losePend report e t) s

/-- The queued waits of an engine that is reset are withdrawn without notice (Table 12-5). -/
def withdrawEngine (eng : Nat) (s : State) : State :=
  admitHeldWaits { s with sync := { s.sync with waiters := s.sync.waiters.filter fun w => !(w.isEng && w.src == eng) } }

/-! ## The deadlock detector (R244 to R246) -/

def State.groupOfCtx (s : State) (c : Nat) : Nat := s.fld (K.CTX_CTRL c) 23 20
def State.inGroup (s : State) (g c : Nat) : Bool := s.groupOfCtx c == g

/-- A WAIT or BARRIER that has started and waits. -/
def OpInst.waits (i : OpInst) : Bool := i.isOpen && (opOPC i.m == 0x02 || opOPC i.m == 0x05)

/-- Condition 1 of R244 for the running command buffers of the group on one ring. -/
def ringBlocked (cs : List Cb) : Bool :=
  let ops := cs.flatMap fun c => c.insts.filter (·.isOpen)
  cs.isEmpty || (!ops.isEmpty && ops.all (·.waits))

/-- Condition 2. -/
def State.slotBlocked (s : State) (e : (Nat × Nat) × Slot) : Bool :=
  match e.2.state with
  | .free | .waiting => true
  | .ready | .walking => false
  | .running => s.sync.waiters.any fun w => w.isEng && w.handle == handleOf e.1.1 e.1.2 e.2.gen

/-- Group `g` is blocked (R244, R325). -/
def State.blocked (s : State) (g : Nat) : Bool :=
  let mine := s.inGroup g
  ((List.range 8).all fun r => ringBlocked (s.cbs.filter fun c => c.ring == r && c.state == .running && mine c.ctx)) &&
  (s.hub.slots.all fun e => !mine e.2.ctx || s.slotBlocked e) &&
  !(s.fold.any fun u => u.2.reqs.any fun q => q.eng.isSome && u.2.groups.any fun x => x.gid == q.grp && mine x.ctx) &&
  !(s.dmas.any fun d => mine d.ctx) &&
  !(s.disp.steeps.any fun t => !t.acked && mine t.ctx) &&
  !(s.sync.pend.any fun e => mine e.ctx) && !(s.lanes.any fun e => e.1.1 == 1 && e.2.any fun x => jOP x.r == 0 && mine (jCTX x.r)) &&
  !(s.fab.unacked.any fun u => mine u.ctx) &&
  !((s.fab.hold ++ s.fab.txWait ++ s.fab.orphans.map (·.p) ++ s.fab.gaps.flatMap (·.held)).any fun p => mine (pCtx p))

def State.watched (s : State) (g : Nat) : Bool := s.flag K.DLD_CFG (8 + g)

/-- A hub cycle in which a group is not blocked restarts its count (R245), whether or not the group is watched. -/
def dldCycle (s : State) : State :=
  (List.range 16).foldl (fun t g =>
    if Tab.get 0 t.sync.dldTicks g != 0 && !t.blocked g then
      { t with sync := { t.sync with dldTicks := Tab.put t.sync.dldTicks g 0 } } else t) s

/-- A frame tick counts for the groups that are blocked. -/
def dldTick (s : State) : State :=
  (List.range 16).foldl (fun t g =>
    { t with sync := { t.sync with
        dldTicks := Tab.put t.sync.dldTicks g (if t.blocked g then Tab.get 0 t.sync.dldTicks g + 1 else 0) } }) s

/-- An entry of the snapshot (Table 08-7). -/
def snapWords (kind ctx obj who : Nat) (thr value : Nat) (stamp : Nat) : List Word :=
  [word [(63, 62, kind), (61, 56, ctx), (55, 32, obj), (31, 0, who)], BitVec.ofNat 64 thr, BitVec.ofNat 64 value,
   BitVec.ofNat 64 stamp]

/-- The generation in which a BARRIER is counted, or the next one it can be. -/
def Bar.genOf (b : Bar) (f : Nat × Nat × Nat) : Nat :=
  if b.cur.fes.contains f then b.gen else if b.next.fes.contains f then (b.gen + 1) % 2 ^ 32 else (b.gen + 2) % 2 ^ 32

/-- The waiters of a context and the objects that they wait on: on-block, or in its save image. -/
def State.waiterObj (s : State) (w : Waiter) : Obj :=
  match s.savedOf w.ctx with
  | some v => v.objs.getD w.phys (newObj 0 0 0 false)
  | none => (s.obj? w.phys).getD (newObj 0 0 0 false)

def State.ctxWaiters (s : State) (c : Nat) : List Waiter :=
  match s.savedOf c with
  | some v => v.waiters
  | none => s.sync.waiters.filter fun w => w.ctx == c

/-- The object that a name means now. -/
def State.namedObj (s : State) (c v : Nat) : Option Obj :=
  match s.savedOf c with
  | some x => x.objs.find? fun o => o.virt == v
  | none =>
    match s.nameOf c v with
    | .phys p => s.obj? p
    | _ => none

/-- A waiting operation of the front end. A WAIT held unstamped shows its start (R228). -/
def snapOp (s : State) (c : Cb) (i : OpInst) : List Word :=
  let who := c.ring % 8 * 2 ^ 29 + i.pos % 2 ^ 20
  if opOPC i.m = 0x02 then
    match (s.ctxWaiters c.ctx).find? fun w => !w.isEng && w.ring == c.ring && w.idx == c.idx && w.pos == i.pos with
    | some w =>
      let o := s.waiterObj w
      snapWords 0 c.ctx (opOBJ i.m) who (if o.token then 0 else w.threshold) o.value w.stamp
    | none =>
      match s.namedObj c.ctx (opOBJ i.m) with
      | some o => snapWords 0 c.ctx (opOBJ i.m) who (if o.token then 0 else i.m.w2.toNat) o.value i.stamp
      | none => snapWords 0 c.ctx (opOBJ i.m) who i.m.w2.toNat 0 i.stamp
  else
    let n := bits i.m.w1 8 0
    let grp := bit i.m.w0 28
    let b := s.bar (if grp then s.grpUnit n else n)
    snapWords (if grp then 2 else 1) c.ctx n who (b.genOf (c.ring, c.idx, i.pos)) b.cur.count i.stamp

def snapEng (s : State) (w : Waiter) : List Word :=
  let o := s.waiterObj w
  snapWords 3 w.ctx o.virt w.who (if o.token then 0 else w.threshold) o.value w.stamp

/-- The entries of group `g`: waiting operations by ring, entry and position, then engine waits by context (DESIGN CHOICE, log
entry 43). -/
def snapEntries (s : State) (g : Nat) : List (List Word) :=
  ((s.runningCbs.filter fun c => s.inGroup g c.ctx).flatMap fun c => (c.insts.filter (·.waits)).map (snapOp s c)) ++
    (((List.range 64).filter (s.inGroup g)).flatMap fun c => ((s.ctxWaiters c).filter (·.isEng)).map (snapEng s))

/-- The snapshot and what follows it. The source of the DEADLOCK record is open (log entry 6). -/
def declare (g : Nat) (s : State) : State :=
  let es := snapEntries s g
  let n := min es.length (s.fld K.DLD_SNAP_N 16 0)
  let base := s.addrOf K.DLD_SNAP_LO K.DLD_SNAP_HI
  let hdr : List Word := [BitVec.ofNat 64 g, BitVec.ofNat 64 s.tb, BitVec.ofNat 64 n, BitVec.ofNat 64 (es.length - n), 0, 0, 0, 0]
  let s1 := writeWords uSync none base (hdr ++ (es.take n).flatMap id) (setBits K.DLD_STAT (2 ^ (g % 16)) s)
  let (x, s2) := openWord (irqCause 2 s1)
  let s3 := trace1 18 0x08 none (bits x 15 0) (BitVec.ofNat 64 g) (BitVec.ofNat 64 n) s2
  ifThen (s3.flag K.STOP_CTRL 29) (stopTrigger 4) (ifThen (s3.flag K.HANG_CTRL 30) (hangTrigger 2) s3)

/-- DEADLOCK_DECLARE (R245). -/
def execDeadlockDeclare (grp : Nat) (s : State) : Res :=
  .next (whenRunning (fun s =>
    if grp < 16 ∧ s.watched grp ∧ s.flag K.DLD_STAT grp = false ∧
        max 2 (s.fld K.DLD_CFG 31 24) ≤ Tab.get 0 s.sync.dldTicks grp ∧ s.blocked grp then declare grp s
    else s) s)

end Sys2Proof.Machine
end

