-- ==== Sys2Proof/Machine/Context.lean ====
section
/-! DEFINITION. Contexts (R189 to R196, R206, R207): enable, pause, drain, reset, re-initialisation. -/

namespace Sys2Proof.Machine

def State.modCtx (s : State) (c : Nat) (f : Ctx → Ctx) : State := s.setCtx c (f (s.ctx c))

/-! ## Enable (R193, R194) -/

def State.celSize (s : State) (c : Nat) : Nat := (s.reg (K.CEL_SIZE c)).toNat
def State.tplPages (s : State) (c : Nat) : Nat := (s.reg (K.CTX_TPL_N c)).toNat
def State.ltEntries (s : State) (c : Nat) : Nat := (s.reg (K.CTX_LT_N c)).toNat

/-- A power of two from 64 to 65,536. -/
def ltOk (n : Nat) : Bool := (List.range 11).any fun i => n == 2 ^ (i + 6)

def State.ctxChecks (s : State) (c : Nat) : Bool :=
  decide (577 ≤ s.celSize c) && decide (1025 ≤ s.tplPages c) && ltOk (s.ltEntries c) &&
    decide (s.rsv c + s.rsvSum ≤ 8192) && decide (s.foldRsv c + s.foldRsvSum ≤ 8192)

/-- ENABLED, or PAUSED while PAUSE is 1 (R194). -/
def Ctx.resumed (x : Ctx) : Ctx := { x with state := if x.pause then .paused else .enabled }

def refuse (c : Nat) (s : State) : State := (noteSet (K.CTX_CTRL c) (2 ^ 25) s).modCtx c fun x => { x with refused := true }

def ctxRule (c : Nat) : EnableRule := ⟨(·.ctxChecks c), (·.modCtx c Ctx.resumed), refuse c⟩

/-- ENABLE: writes of 0 are discarded from SAVING to RESTORING. -/
def ctxEnable (c : Nat) (b : Bool) (s : State) : State :=
  if !b && s.saveHeld c then s
  else writeEnable (.ctx c) ((s.ctx c).state == .resetting) (ctxRule c) b s

/-- PAUSE: a level. -/
def ctxPause (c : Nat) (b : Bool) (s : State) : State :=
  s.modCtx c fun x =>
    let y := { x with pause := b }
    match x.state with
    | .enabled | .paused => y.resumed
    | _ => y

/-- A write of CTX_CTRL: REFUSED (W1C; set in this hub cycle, it stays set: R13), MODE, GROUP, PAUSE and ENABLE. -/
def ctxCtrlWrite (c : Nat) (v : W32) (s : State) : State :=
  let s1 := plainWrite (K.CTX_CTRL c) v (ifThen (bit v 25 && !bit (Tab.get 0 s.cyc.sets (K.CTX_CTRL c)) 25)
    (·.modCtx c fun x => { x with refused := false }) s)
  enableGate (ctxEnable c (bit v 0)) (ctxPause c (bit v 1) s1)

def onContext (o : Origin) (f : Nat → State → State) : State → State :=
  hostWrite fun s => withSome (s.winInst o 1) s fun c => f c s

/-- CTX_CTRL_ENABLE_WRITE: a write of CTX_CTRL. -/
def execCtxCtrlEnableWrite (o : Origin) (v : W32) (s : State) : Res := .next (onContext o (fun c => ctxCtrlWrite c v) s)

/-- CTX_PAUSE_WRITE: a write of CTX_CTRL too, since PAUSE lies in it. -/
def execCtxPauseWrite (o : Origin) (v : W32) (s : State) : Res := .next (onContext o (fun c => ctxCtrlWrite c v) s)

/-- A CTX_CMD command: refused in a state for which Table 07-3 has no row. -/
def ctxCommand (cmd : Nat) (o : Origin) (v : W32) (ok : Nat → State → Bool) (f : Nat → State → State) : State → State :=
  onContext o fun c s => if bits v 31 29 ≠ cmd then s else if ok c s then f c s else refuse c s

/-! ## Drain (R195) -/

def State.ctxCbs (s : State) (c : Nat) : List Cb := s.cbs.filter fun b => b.ctx == c

def State.ctxDrained (s : State) (c : Nat) : Bool :=
  (s.ctx c).state == .enabled && s.inflight c == 0 && !((s.ctxCbs c).any fun b => b.state == .running)

/-- The context is DISABLED, its RSV out of both sums; then a pending enable takes effect. -/
def ctxOff (c : Nat) (s : State) : State :=
  let e := s.unit (.ctx c)
  let s1 := (s.modCtx c fun x => { x with state := .disabled }).setUnit (.ctx c) { e with enabled := false, draining := false }
  finishDrain (.ctx c) (ctxRule c) s1

def execCtxDrainComplete (ctx : Nat) (s : State) : Res :=
  .next (whenRunning (fun s => if (s.unit (.ctx ctx)).draining && s.ctxDrained ctx then ctxOff ctx s else s) s)

/-! ## Reset (R206) -/

/-- The save image of a context is discarded: its waits are released with status ABANDONED (R237), its expansion records dropped
and counted in CANCEL_DROP (R206, R379). While the save writes run the records still stand in their queues, and are dropped there. -/
def abandonSaved (c : Nat) (s : State) : State :=
  match (s.ctx c).saved with
  | none => s
  | some v =>
    let s1 := s.modCtx c fun x => { x with saved := none }
    let s2 := if (s.ctx c).state = .saving then s1 else v.queue.foldl (fun t q => sproutDrop q.1 q.2 t) s1
    v.waiters.foldl (fun t w => answerWaiter w stABANDONED ((v.objs[w.phys]?.map (·.value)).getD 0) 0 0 t) s2

/-- Every launch of the context is cancelled. -/
def cancelAll (c : Nat) (s : State) : State :=
  (s.launches.filter fun l => l.ctx == c).foldl (fun t l => cancelLaunch c l.serial t) s

/-- What the reset of a context abandons: its objects, on-block and saved, and its barrier units, with every waiter of them (R237,
R242). -/
def abandonAll (c : Nat) (s : State) : State :=
  (s.barsOf c).foldl (fun t u => abandonBar u t) (abandonObjs c (abandonSaved c s))

/-- RESET: RESETTING with ENABLE 0; a pending enable goes with ENABLE (DEDUCED, log entry 46). What it abandons is released before the
cancellations withdraw (R232), and the room in the waiter pool then goes to WAITs held for it (R228). -/
def ctxResetNow (c : Nat) (s : State) : State :=
  let s1 := abandonAll c s
  let s2 := (s1.modCtx c fun x => { x with state := .resetting, quiet := false }).setUnit (.ctx c) ⟨false, true, false, false⟩
  let s3 := cancelAll c s2
  let s4 := (s3.ctxCbs c).foldl (fun t b => cancelCb stCANCELLED 7 b t) s3
  let s5 : State := { s4 with dlm := s4.dlm.filter fun d => d.ctx != c, ckpts := s4.ckpts.filter fun k => k.ctx != c }
  admitHeldWaits (closeChannels c (losePends false (fun e => e.ctx == c) s5))

def execCtxReset (o : Origin) (v : W32) (s : State) : Res :=
  .next (ctxCommand 3 o v (fun c s => (s.ctx c).state != .disabled) ctxResetNow s)

/-- Nothing of a context is left at the hub shards and at dispatch. -/
def State.hubGone (s : State) (c : Nat) : Bool :=
  !(s.hub.slots.any fun e => e.2.state != .free && e.2.ctx == c) && !(s.hub.parked.any fun p => p.ctx == c) &&
  !(s.hub.xbar.any fun x => x.arr.ctx == c) && !(s.hub.ready.any fun e => e.ctx == c) &&
  !((s.hub.sprKept ++ s.hub.sprHeld ++ s.hub.sprQueue).any fun q => q.2.ctx == c) && !(s.hub.remHeld.any fun r => r.ctx == c) &&
  !(s.disp.steeps.any fun t => t.ctx == c)

/-- Nothing of it at the fold units. -/
def State.foldGone (s : State) (c : Nat) : Bool :=
  s.fold.all fun e => !((e.2.routing ++ e.2.waiting).any fun i => i.ctx == c) && !(e.2.groups.any fun g => g.ctx == c)

/-- Nothing of it at the front end. -/
def State.feGone (s : State) (c : Nat) : Bool :=
  s.inflight c == 0 && (s.ctxCbs c).isEmpty && !(s.dmas.any fun d => d.ctx == c) &&
    !(s.heldLaunches.any fun h => h.ctx == c) && !(s.templates.any fun t => t.1.1 == c && t.2.build.isSome)

/-- Its channels are CLOSED, and no message of them is on its way. -/
def State.channelsGone (s : State) (c : Nat) : Bool :=
  !(s.queues.any fun e => e.2.owner == c && e.2.state != .closed) &&
    !(s.msgs.any fun m => m.owner == c || m.dests.any fun d => !d.done && (s.queue d.landing).owner == c)

/-- The packets that the fabric port has received and not applied. -/
def Fab.received (f : Fab) : List Rec8 := f.hold ++ f.orphans.map (·.p) ++ f.gaps.flatMap (·.held)

/-- The fabric port holds no item of the context (R373). -/
def State.fabGone (s : State) (c : Nat) : Bool :=
  !((s.fab.received ++ s.fab.txWait).any fun p => ackedCls (pCls p) && pCtx p == c) && !(s.fab.unacked.any fun u => u.ctx == c)

/-- CTX_RESET_COMPLETE (R206, R373). -/
def execCtxResetComplete (ctx : Nat) (s : State) : Res :=
  .next (whenRunning (fun s =>
    if (s.ctx ctx).state == .resetting && s.hubGone ctx && s.foldGone ctx && s.feGone ctx && s.channelsGone ctx && s.fabGone ctx then
      ctxOff ctx s
    else s) s)

/-! ## Re-initialisation (R207, R237, R242, R300, R381) -/

/-- The counts that INIT clears. -/
def initCounts (c : Nat) : List RegKey :=
  [K.CEL_LOST c, K.CEL_DROP c, K.FLDW_REFUSED c, K.FLDW_DUP c, K.FLDW_OVER c, K.FLDW_LOST c, K.FLDW_CANCEL c, K.FLDW_FAULT c,
   K.CTX_PART_DENY c]

/-- The RO counts of a channel descriptor. -/
def queueCounts (q : Nat) (k : QKind) : List RegKey :=
  match k with
  | .route => [K.RT_MSG q, K.RT_CLOSED q, K.RT_REFUSED q]
  | .ring | .head => [K.LD_MSG q, K.LD_DISCARD q, K.LD_LOST q, K.LD_CONS_ERR q]
  | _ => []

/-- Counts cleared by software: what this hub cycle has updated goes with them. -/
def clearAll (l : List RegKey) (s : State) : State :=
  l.foldl (fun t k => { t.setReg k 0 with cyc := { t.cyc with upd := Tab.put t.cyc.upd k none } }) s

def ctxInitNow (c : Nat) (s : State) : State :=
  let s1 := clearAll ((s.queues.filter fun e => e.2.owner == c).flatMap fun e => queueCounts e.1 e.2.kind) (clearAll (initCounts c) s)
  let s2 := initObjs c (s1.setFld (K.CTX_SERIAL c) 19 0 0)
  let s3 := (s2.barsOf c).foldl (fun t u => t.setBar u { t.bar u with abandoned := false }) s2
  if c < 32 then s3.setFld K.AUD_CTX_LO c c 0 else s3.setFld K.AUD_CTX_HI (c - 32) (c - 32) 0

def execCtxInit (o : Origin) (v : W32) (s : State) : Res :=
  .next (ctxCommand 4 o v (fun c s => (s.ctx c).state == .disabled) ctxInitNow s)

end Sys2Proof.Machine
end

