-- ==== Sys2Proof/Machine/Save.lean ====
section
/-! DEFINITION. Save and restore of a context (R201 to R205, R150, R236, R295; Table 07-5). -/

namespace Sys2Proof.Machine

/-! ## SAVE -/

def State.saveBase (s : State) (c : Nat) : Nat := s.addrOf (K.CTX_SAVE_LO c) (K.CTX_SAVE_HI c)

/-- SAVE: from PAUSED with a save area, and not while a disable drains (DEDUCED, log entry 48). -/
def execCtxSave (o : Origin) (v : W32) (s : State) : Res :=
  .next (ctxCommand 1 o v (fun c s => (s.ctx c).state == .paused && s.saveBase c != 0 && !(s.unit (.ctx c)).draining)
    (fun c s => s.modCtx c fun x => { x with state := .saving, quiet := false, saved := none, saveStamp := s.tb }) s)

/-! ## Quiescence (R201, R150, R212, R295) -/

/-- An operation that runs in the front end: not a WAIT or BARRIER, nor one that only waits for other operations (LOOP, CALL)
or for its launch (DEDUCED, log entry 49). -/
def OpInst.runs (i : OpInst) : Bool := i.isOpen && !([0x01, 0x02, 0x05, 0x0A, 0x0C].contains (opOPC i.m))

def State.hubQuiet (s : State) (c : Nat) : Bool :=
  !(s.hub.slots.any fun e => e.2.ctx == c && (e.2.state == .running || e.2.state == .walking)) &&
  !(s.disp.steeps.any fun t => t.ctx == c && !t.acked) && !(s.hub.sprQueue.any fun q => q.2.ctx == c && q.2.next != 0) &&
  !(s.hub.sprHeld.any fun q => q.2.ctx == c) && !(s.hub.ready.any fun e => e.ctx == c && e.resume)

/-- A combine request of a context in flight. -/
def State.combining (s : State) (c : Nat) : Bool :=
  s.fold.any fun e => e.2.reqs.any fun r => r.eng.isSome && e.2.groups.any fun g => g.gid == r.grp && g.ctx == c

/-- A message of one of its landings unlanded. -/
def State.landing (s : State) (c : Nat) : Bool :=
  s.msgs.any fun m => m.dests.any fun d => !d.done && (s.queue d.landing).owner == c

/-- A switch whose primary has not drained (Table 07-7). -/
def State.switching (s : State) (c : Nat) : Bool := s.dlm.any fun d => d.ctx == c && d.state == .switching && !d.dead

def State.quiescent (s : State) (c : Nat) : Bool :=
  (s.ctx c).state == .saving && !(s.ctx c).quiet && s.hubQuiet c && !s.combining c && !s.landing c && !s.switching c &&
    !((s.ctxCbs c).any fun b => b.insts.any (·.runs))

/-! ## What is saved -/

/-- A bucket with new blocks ahead of its own. -/
def State.behind (s : State) (c : Nat) (b : Nat × Nat) (old : CelBucket) : State :=
  s.setCelBucket c b.1 b.2 ⟨(s.celBucket c b.1 b.2).blocks ++ old.blocks⟩

def dropBucket (c sh tree : Nat) (s : State) : State :=
  { s with hub := { s.hub with cellar := s.hub.cellar.filter fun e => e.1 != (c, sh, tree) } }

/-- The last of the new blocks linked to the first of the old ones, where there are both. -/
def linkBlocks (c sh : Nat) (new old : CelBucket) (s : State) : State :=
  match new.blocks.getLast?, old.blocks.head? with
  | some u, some v => celBlock c sh v.page u s
  | _, _ => s

/-- The buckets of a context that have on-block items: shard and tree. -/
def State.onBlockBuckets (s : State) (c : Nat) : List (Nat × Nat) :=
  (s.hub.parked.filter fun p => p.ctx == c && !p.inCellar).foldl (fun acc p =>
    if acc.contains (p.shard, p.tree) then acc else acc ++ [(p.shard, p.tree)]) []

/-- The on-block items of a bucket move to the head of its cellar part (R201): into blocks of their own, linked ahead of the
blocks already there. -/
def moveBucket (c : Nat) (b : Nat × Nat) (s : State) : State :=
  let mine := s.hub.parked.filter fun p => p.inBucket c b.1 b.2
  let (inCel, onBlk) := mine.partition (·.inCellar)
  let old := s.celBucket c b.1 b.2
  let aside : CelBucket := ⟨old.blocks⟩
  let s1 : State := { s with hub := { s.hub with parked := s.hub.parked.filter fun p => !p.inBucket c b.1 b.2 } }
  -- the old blocks stand aside under a tree that no bucket has, so that their pages stay taken
  let s2 := (s1.setCelBucket c b.1 (4096 + b.2) aside).setCelBucket c b.1 b.2 CelBucket.empty
  let s3 := onBlk.foldl (fun t p => celAppend c b.1 b.2 p.item t) s2
  let s4 := linkBlocks c b.1 (s3.celBucket c b.1 b.2) old s3
  let s5 := (dropBucket c b.1 (4096 + b.2) s4).behind c b old
  let s6 : State := { s5 with hub := { s5.hub with parked := s5.hub.parked ++ inCel } }
  pmc b.1 0x04 (some c) onBlk.length (bump (K.CEL_SPILL c) onBlk.length (celHeader c (celHead c b.1 b.2 s6)))

/-- The on-block parked items of a context move to the heads of their cellar buckets (R201). -/
def moveParked (c : Nat) (s : State) : State := (s.onBlockBuckets c).foldl (fun t b => moveBucket c b t) s

/-- A group as it is saved: a finish that has not been issued falls due again at restore (R150). -/
def FGroup.saved (g : FGroup) : FGroup := { g with state := if g.state = .finishing then .isSealed else g.state }

def listIdx (x : Nat) : List (Nat × Obj) → Nat
  | [] => 0
  | e :: t => if e.1 = x then 0 else listIdx x t + 1

/-- The objects of a context, by physical number. -/
def State.ctxObjs (s : State) (c : Nat) : List (Nat × Obj) :=
  (s.sync.objs.filterMap fun e => match e.2 with
    | some o => if o.ctx = c then some (e.1, o) else none
    | none => none).foldl (fun acc e => insertBy (fun a b => decide (a.1 < b.1)) e acc) []

def slotBefore (a b : (Nat × Nat) × Slot) : Bool :=
  decide (a.1.1 < b.1.1) || (a.1.1 == b.1.1 && decide (a.1.2 < b.1.2))

/-- The slots of a context by shard, then slot number. -/
def State.ctxSlots (s : State) (c : Nat) : List ((Nat × Nat) × Slot) :=
  (s.slotsWhere fun _ _ v => v.state != .free && v.ctx == c).foldl (fun acc e => insertBy slotBefore e acc) []

/-- What a save holds. -/
def State.capture (s : State) (c : Nat) : Saved :=
  let objs := s.ctxObjs c
  { slots := s.ctxSlots c
    queue := s.hub.sprQueue.filter fun q => q.2.ctx == c
    objs := objs.map (·.2)
    physIds := objs.map (·.1)
    waiters := objs.flatMap fun e => (s.waitersOf e.1).map fun w => { w with phys := listIdx e.1 objs }
    groups := s.fold.flatMap fun e => (e.2.groups.filter fun g => g.ctx == c && !g.dead).map fun g => (e.1, g.saved) }

/-! ## The save area (Table 07-5) -/

/-- Words that unit `u` writes at an offset of the save area; nothing when there are none. -/
def putArea (u c off : Nat) (ws : List Word) (s : State) : State :=
  if ws.isEmpty then s else writeWords u (some c) (addr48 (s.saveBase c + off)) ws s

def savedObjWords (o : Obj) : List Word :=
  [word [(63, 40, o.virt), (39, 38, if o.token then 2 else 1), (37, 37, b2n o.abandoned)], BitVec.ofNat 64 o.value]

def savedQueueWords (x : Queue) : List Word :=
  [word [(63, 48, x.epoch), (47, 45, x.state.code), (44, 42, x.kind.code)], word [(63, 32, x.prod), (31, 0, x.cons)]]

def offSlot (i : Nat) : Nat := 0xD00000 + 48 * i
def offObj (i : Nat) : Nat := 0x500000 + 16 * i
/-- Waiter `i`, behind `n` objects. -/
def offWaiter (n i : Nat) : Nat := offObj n + 32 * i
def offDlm (i : Nat) : Nat := 0x9000 + 32 * i
def offRec (sh i : Nat) : Nat := 0x1000 + (sh * 64 + i) * 32
def offGroup (u gid : Nat) : Nat := 0x200000 + u * 0xC0000 + gid * 32
def offPartial (u n : Nat) : Nat := 0x200000 + u * 0xC0000 + 0x80000 + n * 16

/-- The fold section of a unit. -/
def saveFold (c u : Nat) (s : State) : State :=
  let v := s.foldUnit u
  (v.groups.filter fun g => g.ctx == c).foldl (fun t g =>
    g.slotsUsed.foldl (fun t n => putArea (uFold u) c (offPartial u n) (v.slotWords n) t)
      (putArea (uFold u) c (offGroup u g.gid) g.words t)) s

/-- The expansion records of a shard with their places. -/
def Saved.recsOf (v : Saved) (sh : Nat) : List (SprRec × Nat) := ((v.queue.filter fun q => q.1 == sh).map (·.2)).zipIdx

/-- The saved waiters as Table 08-5 shows them, with the physical IDs that their objects had. -/
def Saved.waiterRecs (v : Saved) : List Word :=
  v.waiters.flatMap fun w => waiterWords { w with phys := v.physIds.getD w.phys 0 }

/-- The deadline entries of a context. -/
def State.ctxDlm (s : State) (c : Nat) : List DlmEntry := s.dlm.filter fun d => d.ctx == c

/-- The channel descriptors that a context owns. -/
def State.ctxQueues (s : State) (c : Nat) : List (Nat × Queue) :=
  s.queues.filter fun e => e.2.owner == c && e.2.kind != .free && e.2.kind != .workq && e.2.kind != .internal

/-- The header (Table 07-5): the state before SAVE, which is PAUSED (R193), MODE and the serial counter; the stamps of the SAVE and of the
save writes; the record counts of the sections; the slot count of each shard. The places of the fields are the model's (DESIGN
CHOICE, log entry 105). -/
def saveHeader (c : Nat) (v : Saved) (s : State) : List Word :=
  let counts := [v.queue.length, (s.ctxDlm c).length, (s.ctxQueues c).length, v.groups.length,
    (v.groups.map fun g => g.2.slotsUsed.length).sum, v.objs.length, v.waiters.length, v.slots.length]
  let shard := fun sh => (v.slots.filter fun e => e.1.1 == sh).length
  [word [(63, 56, CtxState.paused.code), (55, 55, b2n (s.framed c)), (19, 0, s.serialNext c)],
   BitVec.ofNat 64 (s.ctx c).saveStamp, BitVec.ofNat 64 s.tb] ++ counts.map (BitVec.ofNat 64) ++
  ((List.range 8).map fun i => word [(63, 32, shard (2 * i + 1)), (31, 0, shard (2 * i))])

/-- The save writes (Table 07-5). -/
def saveWrites (c : Nat) (v : Saved) (s : State) : State :=
  let s1 := putArea uFrontEnd c 0 (saveHeader c v s) s
  let s2 := (List.range s.shards).foldl (fun t sh =>
    (v.recsOf sh).foldl (fun t e => putArea (uShard sh) c (offRec sh e.2) (sproutWords e.1) t) t) s1
  let s3 := putArea uFrontEnd c (offDlm 0) ((s.ctxDlm c).flatMap dlmWords) s2
  let s4 := (s.ctxQueues c).foldl (fun t e => putArea uChannel c (0x100000 + 16 * e.1) (savedQueueWords e.2) t) s3
  let s5 := (List.range 4).foldl (fun t u => saveFold c u t) s4
  let s6 := putArea uSync c (offObj 0) (v.objs.flatMap savedObjWords ++ v.waiterRecs) s5
  (v.slots.zipIdx).foldl (fun t e => putArea (uShard e.1.1.1) c (offSlot e.2)
    (slotWords e.1.2 ++ [BitVec.ofNat 64 e.1.2.sprPtr, BitVec.ofNat 64 e.1.1.2]) t) s6

/-- The physical objects and pool entries of a context are freed (R236). -/
def freeObjs (c : Nat) (s : State) : State :=
  let mine := s.ctxObjs c
  admitHeldWaits { s with sync := { s.sync with
    objs := s.sync.objs.filter fun e => !(mine.any fun m => m.1 == e.1)
    waiters := s.sync.waiters.filter fun w => !(mine.any fun m => m.1 == w.phys) } }

/-- CTX_QUIESCENT. -/
def execCtxQuiescent (ctx : Nat) (s : State) : Res :=
  .next (whenRunning (fun s =>
    if s.quiescent ctx then
      let s1 := moveParked ctx s
      let v := s1.capture ctx
      freeObjs ctx ((saveWrites ctx v s1).modCtx ctx fun x => { x with quiet := true, saved := some v })
    else s) s)

/-- A slot of a saved context is freed, with what belongs to its handle. -/
def releaseSlot (sh n : Nat) (s : State) : State :=
  let g := (s.slot sh n).gen
  freeSlot sh n (dropSteep sh n g (endStages sh n g (removeReady sh n s)))

/-- The fold groups of a context leave a unit. -/
def FoldUnit.without (c : Nat) (u : FoldUnit) : FoldUnit :=
  { u with
    groups := u.groups.filter fun g => g.ctx != c
    reqs := u.reqs.filter fun r => !(u.groups.any fun g => g.gid == r.grp && g.ctx == c) }

/-- CTX_SAVE_DONE: SAVED, the on-block resources freed. -/
def execCtxSaveDone (ctx : Nat) (s : State) : Res :=
  .next (whenRunning (fun s =>
    if (s.ctx ctx).state == .saving && (s.ctx ctx).quiet then
      let s1 := (s.ctxSlots ctx).foldl (fun t e => releaseSlot e.1.1 e.1.2 t) s
      { s1.modCtx ctx (fun x => { x with state := .saved }) with
        hub := { s1.hub with sprQueue := s1.hub.sprQueue.filter fun q => q.2.ctx != ctx }
        fold := s1.fold.map fun e => (e.1, e.2.without ctx) }
    else s) s)

/-! ## Restore (R205) -/

def execCtxRestore (o : Origin) (v : W32) (s : State) : Res :=
  .next (ctxCommand 2 o v (fun c s => (s.ctx c).state == .saved) (fun c s => s.modCtx c fun x => { x with state := .restoring }) s)

/-- A save-area record that reads as POISON: it is not restored, and all accounts of its context but the last three are
uncertain (Table 13-9). -/
def recordPoison (unit c a : Nat) (s : State) : State :=
  auditMark 0x7F (2 ^ c) 0x04 (errContained unit 0x04 (some c) none (BitVec.ofNat 64 a) s)

/-- A record of `n` bytes read and restored by `f`, unless it reads as POISON. -/
def restoreRec (unit c off n : Nat) (f : State → State) (s : State) : State :=
  let a := addr48 (s.saveBase c + off)
  let s1 := noteRead unit (some c) a n s
  if s.readOk a n then f s1 else recordPoison unit c a s1

/-- The launch of a saved item goes on. -/
def State.goesOn (s : State) (c serial : Nat) : Bool :=
  match s.launch? c serial with
  | some l => !l.cancelled
  | none => false

/-- The saved waiters of an object that has taken number `p`, each from its record. -/
def restoreWaiters (c : Nat) (v : Saved) (i p : Nat) (s : State) : State :=
  (v.waiters.zipIdx.filter fun e => e.1.phys == i).foldl (fun t e =>
    restoreRec uSync c (offWaiter v.objs.length e.2) 32
      (fun t => { t with sync := { t.sync with waiters := t.sync.waiters ++ [{ e.1 with phys := p }] } }) t) s

/-- An object takes the lowest free physical object, with SIGNALLED 0, and its saved waiters (R236). -/
def restoreObj (c : Nat) (v : Saved) (i : Nat) (o : Obj) (s : State) : State :=
  match s.freeObj with
  | none => s
  | some p => restoreWaiters c v i p (writeVt c o.virt true o.token p (s.setObj p (some { o with signalled := false })))

/-- The releases that signals caused while the context was saved take effect, without a scope check (SIGNALLED is 0). -/
def releaseHeld (p : Nat) (s : State) : State :=
  match s.obj? p with
  | none => s
  | some o =>
    let ws := s.waitersOf p
    let out := if o.token then ws.take o.value else ws.filter fun w => decide (w.threshold ≤ o.value)
    let left := if o.token then o.value - out.length else o.value
    out.foldl (fun t w => answerWaiter w stOK left o.lastChip o.lastSrc (dropWaiter w t)) (s.setObj p (some { o with value := left }))

/-- The lowest free slots of a unit. -/
def FoldUnit.newSlots (u : FoldUnit) (n : Nat) : List Nat :=
  let used := u.groups.flatMap FGroup.slotsUsed
  ((List.range (used.length + n)).filter fun x => !used.contains x).take n

/-- A group with its slots renumbered. -/
def FGroup.renumber (g : FGroup) (new : List Nat) : FGroup :=
  let tbl := g.slotsUsed.zip new
  let f := fun x : Nat => Tab.get freedSlot tbl x
  let w := fun v : Nat × Nat => (v.1, f v.2)
  { g with leaves := g.leaves.map fun l => { l with val := l.val.map w }, running := g.running.map w, queue := g.queue.map w }

/-- Whether a saved group has room, and what it takes. -/
def State.groupRoom (s : State) (u : Nat) (g : FGroup) : Option Bool :=
  if g.released then some false else s.foldRoom (s.foldUnit u) g.ctx g.d.window

/-- A group restored under a free record number, and R129 run on it. -/
def restoreGroup (u : Nat) (g : FGroup) (reserve : Bool) (s : State) : State :=
  let v := s.foldUnit u
  let gid := v.newGid
  let g1 : FGroup := { g.renumber (v.newSlots g.slotsUsed.length) with gid := gid, reserve := reserve }
  runGroup u gid (s.setFoldUnit u { v with groups := v.groups ++ [g1] })

/-- The free slot of lowest number. -/
def State.lowestFree (s : State) (sh : Nat) : Option Nat :=
  if 16384 ≤ s.usedSlots sh then none
  else (List.range (s.usedSlots sh + 1)).find? fun n => (s.slot sh n).state == .free

/-- An instance restored in its shard with a new handle. -/
def restoreSlot (sh n : Nat) (v : Slot) (reserved : Bool) (s : State) : State :=
  s.setSlot sh n { v with gen := (s.slot sh n).gen, reserved := reserved }

/-- The saved slots take free slots in their order; `none` while a shard lacks one. A shard that is disabled or drains takes them
too (DESIGN CHOICE, log entry 102). -/
def restoreSlots (c : Nat) : List (((Nat × Nat) × Slot) × Nat) → State → Option State
  | [], s => some s
  | ((k, v), i) :: t, s =>
    if !s.goesOn c (ordSerial v.ordinal) then restoreSlots c t s
    else
      match s.lowestFree k.1 with
      | none => none
      | some n =>
        if 0 < s.freeOrdinary k.1 then
          restoreSlots c t (restoreRec (uShard k.1) c (offSlot i) 48 (restoreSlot k.1 n v false) s)
        else if s.reservedHeld k.1 c < s.rsv c then
          restoreSlots c t (restoreRec (uShard k.1) c (offSlot i) 48 (restoreSlot k.1 n v true) s)
        else none

/-- A group restored with its pending partials, each from its record; one that cannot be read leaves the group behind. -/
def restorePartials (u c : Nat) (g : FGroup) : List Nat → Bool → State → State
  | [], r, s => restoreGroup u g r s
  | n :: t, r, s => restoreRec (uFold u) c (offPartial u n) 16 (restorePartials u c g t r) s

/-- The saved groups; `none` while a unit lacks room. -/
def restoreGroups (c : Nat) : List (Nat × FGroup) → State → Option State
  | [], s => some s
  | (u, g) :: t, s =>
    if !s.goesOn c g.serial then restoreGroups c t s
    else
      match s.groupRoom u g with
      | none => none
      | some r => restoreGroups c t (restoreRec (uFold u) c (offGroup u g.gid) 32 (restorePartials u c g g.slotsUsed r) s)

/-- The saved expansion records of a shard, at the end of its queue; `none` while they do not fit. -/
def restoreRecs (c sh : Nat) : List (SprRec × Nat) → State → Option State
  | [], s => some s
  | (r, i) :: t, s =>
    if 64 ≤ (s.hub.sprQueue.filter fun q => q.1 == sh).length ∨ !s.treeOk r then none
    else
      restoreRecs c sh t (restoreRec (uShard sh) c (offRec sh i) 32
        (fun s => { s with hub := { s.hub with sprQueue := s.hub.sprQueue ++ [(sh, r)] } }) s)

/-- The READY instances of a context re-enter their ready lists in the order of R75. -/
def restoreReady (c : Nat) (s : State) : State :=
  let l := ((s.ctxSlots c).filter fun e => e.2.state == .ready).map fun e => slotEntry e.1.1 e.1.2 e.2 false 0
  (l.foldl (fun acc e => insertBy ReadyEntry.before e acc) []).foldl (fun t e => readyInsert e t) s

/-- The objects with their waiters, if the block has room for them. -/
def restoreObjs (c : Nat) (v : Saved) (s : State) : Option State :=
  if s.nObjs < s.objUsed + v.objs.length ∨ s.poolSize < s.sync.waiters.length + v.waiters.length then none
  else
    some (v.objs.zipIdx.foldl (fun t e => restoreRec uSync c (offObj e.2) 16 (restoreObj c v e.2 e.1) t) s)

/-- The deadline entries, from their records: one that cannot be read is not restored. -/
def restoreDlm (c : Nat) (s : State) : State :=
  (s.ctxDlm c).zipIdx.foldl (fun t e =>
    if t.readOk (addr48 (t.saveBase c + offDlm e.2)) 32 then restoreRec uFrontEnd c (offDlm e.2) 32 id t
    else restoreRec uFrontEnd c (offDlm e.2) 32 id { t with dlm := dropFirst (· == e.1) t.dlm }) s

/-- The whole restore, in the order of R205, from the header on; `none` while something does not fit. The descriptors of channels
stand as they are (R295). -/
def restoreAll (c : Nat) (v : Saved) (s : State) : Option State :=
  ((restoreObjs c v (restoreRec uFrontEnd c 0 152 id (s.modCtx c fun x => { x with saved := none, quiet := false }))).bind fun s1 =>
    (restoreGroups c v.groups s1).map (restoreDlm c) |>.bind fun s2 =>
      (restoreSlots c v.slots.zipIdx s2).bind fun s3 =>
        (List.range s.shards).foldl (fun o sh => o.bind (restoreRecs c sh (v.recsOf sh))) (some (restoreReady c s3))).map fun s4 =>
    ((s4.ctxObjs c).foldl (fun t e => releaseHeld e.1 t) s4).modCtx c Ctx.resumed

/-- CTX_RESTORE_DONE. -/
def execCtxRestoreDone (ctx : Nat) (s : State) : Res :=
  .next (whenRunning (fun s =>
    match (s.ctx ctx).state, (s.ctx ctx).saved with
    | .restoring, some v => (restoreAll ctx v s).getD s
    | _, _ => s) s)

end Sys2Proof.Machine
end

