-- ==== Sys2Proof/Machine/Fabric.lean ====
section
/-! DEFINITION. The fabric port: remote decrements, packets of the acknowledged classes, acknowledgements, gaps, orphans
(R312 to R326, R329, R369). -/

namespace Sys2Proof.Machine

/-! ## Remote-decrement requests (R313, R314, R329) -/

/-- Table 11-4. -/
def parseRemDec (eng : Nat) (r : Rec4) : RemDec :=
  ⟨hShard (bits r.w0 63 32), bits r.w0 63 32, bits r.w0 31 26, bits r.w0 25 24, bits r.w0 19 0, r.w1, bits r.w2 63 54,
   bits r.w2 53 38, eng⟩

def remDetail (d : RemDec) : Word := word [(63, 32, d.producer)]

/-- A request dropped as stale. -/
def remStale (d : RemDec) (s : State) : State :=
  errContained (uShard (d.shard % s.shards)) 0x13 (some d.ctx) none (remDetail d) (bumpFld (K.SPR_ERRn d.ctx) 15 0 1 s)

/-- The refusals of R314. -/
def State.remRefused (s : State) (d : RemDec) : Bool :=
  d.chip == s.chipId || decide (2 ≤ d.kind) || (d.kind == 0 && d.amount != 0) || (d.kind == 1 && d.amount == 0)

/-- Whether a request passes every check and finds its shard's holding area full. -/
def State.remDecHeld (s : State) (eng : Nat) (d : RemDec) : Bool :=
  s.isG4 && !s.producerBad d.producer eng d.ctx && !s.dropsItem d.ctx (ordSerial (s.slot d.shard (hSlot d.producer)).ordinal) &&
    !s.remRefused d && decide (256 ≤ (s.hub.remHeld.filter fun h => h.shard == d.shard).length)

/-- A remote-decrement request at its producer's shard (R314). -/
def remoteDec (eng : Nat) (d : RemDec) (s : State) : State :=
  if !s.isG4 then remStale d s
  else if s.producerBad d.producer eng d.ctx then remStale d s
  else if s.dropsItem d.ctx (ordSerial (s.slot d.shard (hSlot d.producer)).ordinal) then cancelDrop d.shard s
  else if s.remRefused d then errContained uFabric 0x13 (some d.ctx) none (remDetail d) (bumpWrap K.FAB_REFUSED 1 s)
  else { s with hub := { s.hub with remHeld := s.hub.remHeld ++ [d] } }

/-- REMOTE_DEC_REQUEST: a record of lane T, held while the shard's holding area is full. -/
def execRemoteDecRequest (eng : Nat) (r : Rec4) (s : State) : Res :=
  .next (laneTake 0 eng 3 r (·.remDecHeld eng (parseRemDec eng r)) (remoteDec eng (parseRemDec eng r)) s)

/-! ## Items applied now -/

def sigScope (p : Rec8) : Nat := bits p.w4 39 38
def sigFrag (p : Rec8) : Nat := bits p.w4 36 33
def sigTag (p : Rec8) : Nat := bits p.w4 32 17

/-- The signal of a SIG packet. -/
def sigOf (p : Rec8) : Sig :=
  ⟨pSrcChip p, pSrcId p, pCtx p, bits p.w4 63 40, p.w3.toNat, bit p.w4 37, sigScope p⟩

def grpOf (p : Rec8) : Nat := bits p.w4 7 0
def genOf (p : Rec8) : Nat := bits p.w3 31 0

/-- A received item takes effect: a resolved DEC, a plain signal, an arrive or a release of a group. -/
def applyItem (p : Rec8) (s : State) : State :=
  match pCls p with
  | 1 => decEnter p s
  | 2 => ackOf p (s.discards (sigOf p)) (signalNamed (sigOf p) 0 (linkPass 0xE000 s)).2
  | 3 => ackOf p false (barCheck (s.grpUnit (grpOf p)) (rootArrive (grpOf p) (genOf p) (pSrcChip p) s))
  | 4 => ackOf p false (barCheck (s.grpUnit (grpOf p)) (grpRelease (grpOf p) (genOf p) s))
  | _ => s

/-- An item held for its frame, or applied on arrival, late or not (R319, R321). -/
def holdOrApply (p : Rec8) (s : State) : State :=
  if s.mustHold p then { s with fab := { s.fab with hold := s.fab.hold ++ [p] } }
  else applyItem p (ifThen (s.isLate p) (noteLate p) s)

/-! ## Intake by class (R315, R316, R318, R319) -/

def orphanDue (s : State) : Nat := s.tb + s.fld K.FAB_LIMITS 15 0 * 1000

/-- A DEC packet: discarded, resolved, or an orphan. -/
def takeDec (p : Rec8) (s : State) : State :=
  match (s.ctx (pCtx p)).state with
  | .disabled | .resetting => fabDiscard p s
  | _ =>
    let late := s.isLate p
    let s1 := ifThen late (noteLate p) s
    match s1.launch? (pCtx p) (dSerial p) with
    | some _ => decResolved p late s1
    | none => { s1 with fab := { s1.fab with orphans := s1.fab.orphans ++ [⟨p, orphanDue s1, late⟩] } }

/-- The pending entry that an announcement opens. -/
def annPend (p : Rec8) : PendSig :=
  ⟨pSrcChip p, pSrcId p, sigTag p, sigFrag p, bits p.w4 63 40, pCtx p, p.w3, sigScope p, bit p.w4 37, 0, some p, false, false⟩

/-- Whether an announcement needs an entry of the pending-signal table that has none free (R224). -/
def State.annBlocked (s : State) (p : Rec8) : Bool :=
  decide (4096 ≤ s.sync.pend.length) && (s.pend? (pSrcChip p) (pSrcId p) (sigTag p)).isNone

/-- An announcement joins its entry of the pending-signal table, or opens one. -/
def joinAnn (p : Rec8) (s : State) : State :=
  match s.pend? (pSrcChip p) (pSrcId p) (sigTag p) with
  | some e => pendRun (pSrcChip p) (pSrcId p) (sigTag p) (s.setPend { e with ann := some p })
  | none =>
    pendRun (pSrcChip p) (pSrcId p) (sigTag p) { s with sync := { s.sync with pend := s.sync.pend ++ [annPend p] } }

/-- An announcement in sequence. While the table is full it waits in the receive hold area (DEDUCED, log entry 100). -/
def takeAnn (p : Rec8) (s0 : State) : State :=
  let s := ifThen (s0.isLate p) (noteLate p) s0
  if s.annBlocked p then { s with fab := { s.fab with hold := s.fab.hold ++ [p] } } else joinAnn p s

/-- An announcement among the packets of the hold area: it waits for the table, not for its frame. -/
def isAnn (p : Rec8) : Bool := pCls p == 2 && sigFrag p != 0

/-- The announcements that wait and find room. -/
def drainAnns (s : State) : State :=
  (s.fab.hold.filter isAnn).foldl (fun t p =>
    if t.annBlocked p then t else joinAnn p { t with fab := { t.fab with hold := dropFirst (· == p) t.fab.hold } }) s

/-- An item in sequence. -/
def takeItem8 (p : Rec8) (s : State) : State :=
  match pCls p with
  | 1 => takeDec p s
  | 2 => if sigFrag p = 0 then holdOrApply p s else takeAnn p s
  | _ => holdOrApply p s

/-! ## Sequence (R312, R323) -/

/-- How far a PSEQ lies above the one expected, modulo 2^18. -/
def seqAhead (seq next : Nat) : Nat := (seq + 2 ^ 18 - next % 2 ^ 18) % 2 ^ 18

def State.rxNext (s : State) (chip : Nat) : Nat := Tab.get 0 s.fab.rxSeq chip
def setRx (chip n : Nat) (s : State) : State := { s with fab := { s.fab with rxSeq := Tab.put s.fab.rxSeq chip (n % 2 ^ 18) } }

/-- The item expected next is taken. -/
def takeNext (p : Rec8) (s : State) : State := takeItem8 p (setRx (pSrcChip p) (pSeq p + 1) s)

def State.gapOf (s : State) (chip : Nat) : Option Gap := s.fab.gaps.find? fun g => g.chip == chip
def setHeld (chip due : Nat) (held : List Rec8) (s : State) : State :=
  let rest := s.fab.gaps.filter fun g => g.chip != chip
  { s with fab := { s.fab with gaps := if held.isEmpty then rest else rest ++ [⟨chip, due, held⟩] } }

/-- The packets held behind a gap that are now in sequence; at most `n` of them. -/
def drainHeld (chip due : Nat) : Nat → List Rec8 → State → State
  | 0, held, s => setHeld chip due held s
  | n + 1, held, s =>
    match held.find? fun p => pSeq p == s.rxNext chip with
    | some p => drainHeld chip due n (dropFirst (· == p) held) (takeNext p s)
    | none => setHeld chip due held s

def gapNs (s : State) : Nat := s.fld K.FAB_LIMITS 31 16 * 16

/-- A packet of an acknowledged class from the fabric. One below the expected PSEQ has been declared lost before. When it fills a gap
and another gap remains, the wait for that one starts now. -/
def takeSeq (p : Rec8) (s : State) : State :=
  let chip := pSrcChip p
  let ahead := seqAhead (pSeq p) (s.rxNext chip)
  if ahead = 0 then
    match s.gapOf chip with
    | some g => drainHeld chip (s.tb + gapNs s) g.held.length g.held (takeNext p s)
    | none => takeNext p s
  else if 2 ^ 17 ≤ ahead then bumpWrap K.FAB_LOST 1 s
  else
    match s.gapOf chip with
    | some g => setHeld chip g.due (g.held ++ [p]) s
    | none => setHeld chip (s.tb + gapNs s) [p] s

/-! ## The DATA lane (R326, R347, R369) -/

/-- A fatal block's answer to an item: LOST, counted, and nothing else leaves (R369). -/
def fatalAnswer (p : Rec8) (s : State) : State :=
  fabOut (packet s 5 (pSrcChip p) 0 srcFabric 0 (word [(59, 59, 1), (58, 58, 1), (57, 40, pSeq p)]) 0) (bumpWrap K.FAB_DISCARD 1 s)

/-- A DATA packet of class `cls`. The fabric keeps it while the port grants no credit. -/
def recvData (cls : Nat) (p : Rec8) (s : State) : State :=
  if pCls p ≠ cls ∨ !s.glb.initDone ∨ !s.portEn then s
  else if s.glb.fatal then fatalAnswer p s
  else if s.glb.stopped then lateRecord 0x6200 5 (words8 p) s
  else if !s.running || decide (65536 ≤ s.fabHeld) then s
  else takeSeq p (linkPass 0x6200 (ifThen (pApply p == 0) (perturbed 6) (pmc 21 0x41 (some (pCtx p)) 1 (bumpWrap K.FAB_RECV 1 s))))

/-- FAB_DEC. A packet of a reserved KIND has no effect in Table 11-3; it is refused where the port would take it as an item. -/
def execFabDec (p : Rec8) (s : State) : Res :=
  if pCls p = 1 ∧ 2 ≤ dKind p ∧ s.running ∧ s.portEn ∧ s.fabHeld < 65536 ∧ seqAhead (pSeq p) (s.rxNext (pSrcChip p)) < 2 ^ 17 then
    .refused .reservedForm
  else .next (recvData 1 p s)

/-- FAB_SIG. -/
def execFabSig (p : Rec8) (s : State) : Res := .next (recvData 2 p s)

/-- BAR_ARRIVE (R243). -/
def execBarArrive (p : Rec8) (s : State) : Res := .next (recvData 3 p s)

/-- BAR_RELEASE (R320). -/
def execBarRelease (p : Rec8) (s : State) : Res := .next (recvData 4 p s)

/-! ## Loss and age (R316, R323) -/

/-- `n` missing packets from `seq` on are declared lost. -/
def declareLost (chip : Nat) : Nat → Nat → State → State
  | 0, _, s => s
  | n + 1, seq, s => declareLost chip n ((seq + 1) % 2 ^ 18) (ackItem chip seq true (bumpWrap K.FAB_LOST 1 s))

/-- The held packet next in sequence. -/
def nearest (next : Nat) (held : List Rec8) : Option Rec8 :=
  leastBy (fun a b : Rec8 => decide (seqAhead (pSeq a) next < seqAhead (pSeq b) next)) held

/-- GAP_TIMEOUT: what is missing before the first held packet is lost; each held packet's context is told. -/
def gapTimeout (chip : Nat) (s : State) : State :=
  match s.gapOf chip with
  | none => s
  | some g =>
    if s.tb < g.due then s
    else
      match nearest (s.rxNext chip) g.held with
      | none => s
      | some p =>
        let from_ := s.rxNext chip
        let s1 := declareLost chip (seqAhead (pSeq p) from_) from_ s
        let s2 := g.held.foldl (fun t q => errContained uFabric 0x19 (some (pCtx q)) none (fabDetail chip from_) t) s1
        drainHeld chip (s.tb + gapNs s) g.held.length g.held (setRx chip (pSeq p) s2)

def execGapTimeout (chip : Nat) (s : State) : Res := .next (whenRunning (gapTimeout chip) s)

/-- ORPHAN_TIMEOUT: an orphan held for ORPHAN µs is dropped. -/
def orphanTimeout (chip pseq : Nat) (s : State) : State :=
  match s.fab.orphans.find? fun o => pSrcChip o.p == chip && pSeq o.p == pseq with
  | none => s
  | some o =>
    if s.tb < o.due then s
    else
      errContained uFabric 0x19 (some (pCtx o.p)) none (fabDetail chip pseq)
        (ackOf o.p true (bumpWrap K.FAB_ORPHAN 1 { s with fab := { s.fab with orphans := dropFirst (· == o) s.fab.orphans } }))

def execOrphanTimeout (chip pseq : Nat) (s : State) : Res := .next (whenRunning (orphanTimeout chip pseq) s)

/-! ## Acknowledgements (R324) -/

/-- The entries of an ACK packet: valid ones, as PSEQ. -/
def ackSeqs (p : Rec8) : List Nat :=
  [p.w3, p.w4].flatMap fun w => ([40, 20, 0].filter fun i => bit w (i + 19)).map fun i => bits w (i + 17) i

/-- CTRL packets are taken from INIT_DONE and PORT_EN on (R347, R358). A fatal block takes them without effect. -/
def recvCtrl (cls : Nat) (p : Rec8) (f : State → State) (s : State) : State :=
  if pCls p = cls ∧ s.glb.initDone ∧ s.portEn then
    (if s.glb.stopped then lateRecord 0x6201 5 (words8 p) s else if s.live then f (linkPass 0x6201 s) else s)
  else s

/-- FAB_ACK: each item leaves FAB_INFLIGHT; items that waited may follow. -/
def fabAck (p : Rec8) (s : State) : State :=
  let left := (ackSeqs p).foldl (fun l q => dropFirst (fun u : Unacked => u.chip == pSrcChip p && u.pseq == q) l) s.fab.unacked
  fabFlush { s with fab := { s.fab with unacked := left } }

def execFabAck (p : Rec8) (s : State) : Res := .next (recvCtrl 5 p (fabAck p) s)

end Sys2Proof.Machine
end

