-- ==== Sys2Proof/Machine/Timebase.lean ====
section
/-! DEFINITION. Time and frames: exchanges, the frame tick, the start barrier, STOP packets, the throttle handshake (R301 to
R311, R320, R322, R327, R332, R333). -/

namespace Sys2Proof.Machine

/-! ## Time exchanges (R301 to R304) -/

/-- LOCKED is lost. -/
def loseLock (s : State) : State :=
  if s.fab.locked then
    let (w, s1) := openWord s
    errContained uFabric 0x19 none none (w &&& word [(9, 0, 0x3FF), (49, 32, 0x3FFFF)])
      (bump K.FAB_UNLOCK 1 { s1 with fab := { s1.fab with locked := false, goodRun := 0 } })
  else s

/-- PERIOD in ns. -/
def State.exchangeNs (s : State) : Nat := s.fld K.FAB_TIME 31 16 * 1000

/-- LOCKED is lost once 8 periods have passed without a TIME_RSP (R304). -/
def checkResponse (s : State) : State :=
  if s.fab.locked && !s.isMaster && decide (s.fab.lastRsp + 8 * s.exchangeNs ≤ s.tb) then loseLock s else s

/-- Whether an exchange is due: PERIOD µs after the last (R301). -/
def State.exchangeDue (s : State) : Bool :=
  match s.fab.lastReq with
  | none => true
  | some t => decide (t + s.exchangeNs ≤ s.tb)

/-- TIME_EXCHANGE_START: a TIME_REQ to the parent, every PERIOD µs. -/
def timeExchangeStart (s : State) : State :=
  let s1 := checkResponse s
  fabSend (packet s1 6 (s.fld K.FAB_CFG 21 12) 0 srcFabric 0 0 0) { s1 with fab := { s1.fab with asked := some s.tb, lastReq := some s.tb } }

def execTimeExchangeStart (s : State) : Res :=
  .next (if s.glb.initDone && s.live && s.portEn && !s.isMaster && s.exchangeDue then timeExchangeStart s else s)

/-- TIME_REQ: answered with T1 and T2. -/
def timeReq (p : Rec8) (s : State) : State :=
  fabSend (packet s 7 (pSrcChip p) 0 srcFabric 0 p.w1 (BitVec.ofNat 64 s.tb)) s

def execTimeReq (p : Rec8) (s : State) : Res := .next (recvCtrl 6 p (timeReq p) s)

/-- Twice the offset o of an exchange. -/
def offset2 (p : Rec8) (t4 : Nat) : Int :=
  ((p.w4.toNat : Int) - (p.w3.toNat : Int)) - ((t4 : Int) - (p.w1.toNat : Int))

/-- The lock (R304) after an exchange with twice the offset `o`. -/
def lockRun (o : Int) (s : State) : State :=
  let good := decide (-2 ≤ o) && decide (o ≤ 2)
  let bad := decide (o < -4) || decide (4 < o)
  let g := if good then min (s.fab.goodRun + 1) 16 else 0
  let b := if bad then s.fab.badRun + 1 else 0
  let s1 : State := { s with fab := { s.fab with goodRun := g, badRun := b } }
  if b = 4 then loseLock s1 else if g = 16 then { s1 with fab := { s1.fab with locked := true } } else s1

/-- The correction (R303): a step, or slewing from now on. -/
def correct (s : State) : State :=
  let o := s.offset
  if s.flag K.FAB_CFG 11 && (decide (o < -64) || decide (64 < o)) then
    { s with tb := (((s.tb : Int) + o) % 2 ^ 64).toNat, fab := { s.fab with slew := 0 } }
  else { s with fab := { s.fab with slew := o } }

/-- TIME_RSP: taken when it answers the exchange under way. -/
def timeRsp (p : Rec8) (s : State) : State :=
  if s.fab.asked = some p.w3.toNat ∧ !s.isMaster then
    let o := offset2 p s.tb
    correct (lockRun o { s with fab := { s.fab with asked := none, lastRsp := s.tb, offsets := (o :: s.fab.offsets).take 16 } })
  else s

def execTimeRsp (p : Rec8) (s : State) : Res := .next (recvCtrl 7 p (timeRsp p) s)

/-! ## The frame tick (R307, R320, R322) -/

/-- The order of R322. -/
def itemBefore (a b : Rec8) : Bool :=
  let k := fun p : Rec8 => [p.w1.toNat, pSrcChip p, pSrcId p, pSeq p]
  decide (k a < k b)

/-- A held item or announcement that falls due takes effect. -/
def applyDue (p : Rec8) (s : State) : State :=
  if pCls p = 2 ∧ sigFrag p ≠ 0 then pendRun (pSrcChip p) (pSrcId p) (sigTag p) s
  else applyItem p { s with fab := { s.fab with hold := dropFirst (· == p) s.fab.hold } }

/-- The items due in the frame that has started; an announcement that waits for the pending-signal table is none. -/
def State.dueItems (s : State) : List Rec8 :=
  ((s.fab.hold.filter fun p => !isAnn p && !s.mustHold p) ++
    (s.sync.pend.filter fun e => !e.applied).filterMap fun e => e.ann.filter fun p => pApply p != 0 && !s.mustHold p).foldl
    (fun acc p => insertBy itemBefore p acc) []

/-- The root's own release of a group falls due. -/
def releaseDue (s : State) : State :=
  (s.sync.grps.filter fun e => e.2.release.any fun r => s.ticked r.2).foldl (fun t e =>
    match (t.grp e.1).release with
    | some r => barCheck (t.grpUnit e.1) (grpRelease e.1 r.1 (t.setGrp e.1 { t.grp e.1 with release := none }))
    | none => t) s

def dueEffects (s : State) : State :=
  let s1 := releaseDue s
  s1.dueItems.foldl (fun t p => applyDue p t) s1

/-- FRAME_TICK: the tick of the next frame that has started. The record's source is open (log entry 6). -/
def frameTick (s : State) : State :=
  if s.tb < s.epochNs + s.fab.frame * s.frameLen then s
  else
    let n := s.fab.frame
    let (x, s1) := openWord s
    let s2 : State := { s1 with fab := { s1.fab with
      frame := n + 1, startDone := s.fab.startDone || (n == 0 && s.fab.startGo.isSome) } }
    dueEffects (dldTick (trace1 21 0x07 none (bits x 15 0) 0 (BitVec.ofNat 64 n) s2))

def execFrameTick (s : State) : Res := .next (if s.live then frameTick s else s)

/-- The frame number of an epoch or length that has just been set (R307, R310). -/
def resyncFrame (s : State) : State :=
  { s with fab := { s.fab with frame := if s.tb < s.epochNs then 0 else s.frameAt s.tb + 1 } }

/-! ## The start barrier (R310) -/

/-- START_GO takes effect on a chip. -/
def setEpoch (tGo len : Nat) (s : State) : State :=
  let late := decide (tGo ≤ s.tb)
  let s1 := (s.setBank64 K.FRM_EPOCH_LO tGo).setReg K.FRM_LEN (BitVec.ofNat 32 len)
  let s2 := resyncFrame { s1 with fab := { s1.fab with startGo := some tGo, startDone := late } }
  if late then dueEffects (setBits K.FAB_STOP (2 ^ 31) s2) else s2

def State.startMembers (s : State) : Nat := s.fld K.FAB_START 19 9

/-- T_GO (R310 step 2). -/
def State.tGo (s : State) : Nat := ceilDiv (s.tb + (s.reg K.FAB_START_LEAD).toNat) 1024 * 1024

/-- The root counts an arrival; with the last one it sends START_GO with the frame length that it acts on (R310, R426). -/
def countStart (chip : Nat) (s : State) : State :=
  if s.fab.startCount.contains chip then s
  else
    let s1 : State := { s with fab := { s.fab with startCount := s.fab.startCount ++ [chip] } }
    if s1.fab.startCount.length = s.startMembers then
      let t := s.tGo
      let len := s.frameLen
      setEpoch t len ((s1.fab.startCount.filter (· != s.chipId)).foldl (fun u c =>
        fabSend (packet u 9 c 0 srcFabric 0 (BitVec.ofNat 64 t) (word [(31, 0, len)])) u) s1)
    else s1

/-- ARRIVE_START: a write of FAB_START with its ROOT and MEMBERS. -/
def writeStart (v : W32) (s : State) : State :=
  let s1 := plainWrite K.FAB_START v s
  if bit v 0 && s.isG4 && s.glb.initDone && !s.anyCtx then
    let s2 : State := { s1 with fab := { s1.fab with startArrived := true } }
    if s2.isStartRoot then countStart s2.chipId s2
    else fabSend (packet s2 8 (s2.fld K.FAB_START 29 20) 0 srcFabric 0 0 0) s2
  else s1

def execArriveStart (v : W32) (s : State) : Res := .next (hostWrite (writeStart v) s)

def execStartArrive (p : Rec8) (s : State) : Res :=
  .next (recvCtrl 8 p (fun s => if s.isStartRoot then countStart (pSrcChip p) s else s) s)

def execStartGo (p : Rec8) (s : State) : Res :=
  .next (recvCtrl 9 p (setEpoch p.w3.toNat (bits p.w4 31 0)) s)

/-! ## STOP (R327, R403) -/

def fabStop (p : Rec8) (s : State) : State :=
  if s.glb.armed then s
  else if p.w3.toNat < s.tb + s.stopLead then armStop 5 (s.tb + s.stopLead) (setBits K.FAB_STOP (2 ^ 31) s)
  else armStop 5 p.w3.toNat s

def execFabStop (p : Rec8) (s : State) : Res := .next (recvCtrl 0xA p (fabStop p) s)

/-! ## The throttle (R332, R333, R361) -/

/-- THR_REQ: a code outside 10 to 15 is none that R332 allows, and changes nothing. -/
def throttle (code : Nat) (s : State) : State :=
  if s.glb.thrReq || decide (code < 10) || decide (15 < code) then s
  else
    emit (.thrAck true) (bumpFld K.THR_STAT 31 16 1
      { s with fmhz := code * 100, tbPhase := s.tbPhase % (code * 100), glb := { s.glb with thrReq := true, thrAck := true } })

def execThrReq (code : Nat) (s : State) : Res := .next (throttle code s)

def execThrReqRelease (s : State) : Res :=
  .next (if s.glb.thrReq then emit (.thrAck false) { s with glb := { s.glb with thrReq := false, thrAck := false } } else s)

end Sys2Proof.Machine
end

