-- ==== Sys2Proof/Machine/Bringup.lean ====
section
/-! DEFINITION. Resets and bring-up (R335, R351 to R359, R361, R372). -/

namespace Sys2Proof.Machine

/-! ## COLD and BLOCK resets (R351, R352, R361) -/

/-- What no reset reaches: the variant, the queue of commands, memory, what has been put on the ports, and the counters that
name free values and messages. -/
def keepOutside (s : State) : State :=
  { State.reset with
    pending := s.pending, variant := s.variant, free := s.free, mem := s.mem, poison := s.poison, refuse := s.refuse,
    nextId := s.nextId, out := s.out }

def execColdReset (s : State) : Res := .next (keepOutside s)

/-- A BLOCK reset: the timebase keeps counting at the clock in force. -/
def blockReset (s : State) : State :=
  { keepOutside s with
    tb := s.tb, tbPhase := s.tbPhase, fmhz := s.fmhz, hc := s.hc
    glb := { Glb.zero with thrReq := s.glb.thrReq, thrAck := s.glb.thrAck } }

/-- A write of RST_CTRL takes effect with the key, out of BOOT, while BUSY is 0. -/
def resetWrite (kind : Nat) (v : W32) (f : State → State) (s : State) : State :=
  if s.glb.phase = .boot then (if s.live then bump K.BOOT_DROP 1 s else s)
  else if bits v 31 24 = 0xB7 ∧ bits v 23 22 = kind ∧ s.glb.rstBusy = false then f s
  else s

def execBlockReset (req : BlockReq) (s : State) : Res :=
  .next (match req with
    | .line => blockReset s
    | .write v => resetWrite 2 v blockReset s)

/-! ## ENGINE reset (R353, Table 12-5) -/

/-- Offset 0: the engine is not free, and a PREEMPT to it is released (R94). -/
def startEngineReset (e : Nat) (s : State) : State :=
  { s with
    glb := { s.glb with rstBusy := true, rstEng := e }
    disp := { s.disp with outOfReset := s.disp.outOfReset.filter (· != e), pre := s.disp.pre.filter fun p => p.victim != some e } }

/-- ENGINE_RESET. A fatal or stopped block, whose state is held, starts none. -/
def execEngineReset (v : W32) (s : State) : Res :=
  .next (resetWrite 1 v (fun s => if s.live then startEngineReset (bits v 9 0) s else s) s)

/-- A task of the engine is settled as one with a FAULTED token (R88, R89), unless the settling of another has freed its slot. -/
def settleFaulted (e : Nat) (k : Nat × Nat × Nat) (s : State) : State :=
  let (sh, n, gen) := k
  let v := s.slot sh n
  if v.state = .free ∨ v.gen ≠ gen then s
  else
    reportLaunch (uShard sh) 0x14 v.ctx (ordSerial v.ordinal) 1 (word [(63, 32, handleOf sh n v.gen), (9, 0, e)])
      ((endSteep sh n v.gen (endStages sh n v.gen (removeReady sh n s))).setSlot sh n { v with state := .walking, silent := true })

/-- The slots RUNNING on an engine, and those whose ready entry resumes there, with their generations. -/
def State.tasksOf (s : State) (e : Nat) : List (Nat × Nat × Nat) :=
  (s.hub.slots.filter fun x => x.2.state == .running && x.2.engine == e).map (fun x => (x.1.1, x.1.2, x.2.gen)) ++
    (s.hub.ready.filter fun r => r.resume && r.resumeEng == e).map fun r => (r.shard, r.slot, r.gen)

/-- Combine requests in flight to the engine are acknowledged FAULTED. -/
def faultCombines (e u : Nat) (s : State) : State :=
  ((s.foldUnit u).reqs.filter fun r => r.eng == some e).foldl (fun t r => settleReq u r false t) s

/-- Offsets d + 1 and d + 2. -/
def finishEngineReset (s : State) : State :=
  let e := s.glb.rstEng
  let s1 := losePends true (fun p => p.chip == s.chipId && p.src == e) s
  let s2 := (s1.tasksOf e).foldl (fun t k => settleFaulted e k t) s1
  let s3 := (List.range 4).foldl (fun t u => faultCombines e u t) s2
  let s4 := (channelReset e (withdrawEngine e s3)).setEngine e Eng.zero
  { s4 with
    glb := { s4.glb with rstBusy := false, rstCount := (s.glb.rstCount + 1) % 65536 }
    disp := { s4.disp with outOfReset := if s.glb.enable then s4.disp.outOfReset ++ [e] else s4.disp.outOfReset } }

/-- Every inbound lane of a requester is empty. -/
def State.lanesEmpty (s : State) (req : Nat) : Bool := (List.range 3).all fun l => (s.lane l req).isEmpty

/-- ENGINE_RESET_COMPLETE: every lane of the engine is empty. -/
def execEngineResetComplete (s : State) : Res :=
  .next (if s.glb.rstBusy && s.live && s.lanesEmpty s.glb.rstEng then finishEngineReset s else s)

/-! ## FIFO reset (R335, R372, R380) -/

/-- The unit that reports a FIFO: the stations for the engine port (Table 13-10), else the unit that takes or sends its
records (DEDUCED, log entry 50). -/
def fifoUnit (fifo : Nat) : Nat :=
  if fifo / 2 ^ 12 < 6 then uDispatch
  else
    match fifo / 2 ^ 8 % 16 with
    | 0 => uSync
    | 1 => uFrontEnd
    | 2 => uFabric
    | _ => uObs

/-- The account classes of a FIFO as a mask of AUD_UNC (Table 13-9). -/
def fifoClasses (fifo : Nat) : Nat :=
  match fifo / 2 ^ 12 with
  | 0 | 3 => 0xF
  | 1 => 0x30
  | 2 => 0x40
  | 5 => 0x42
  | 6 => if fifo % 2 ^ 12 = 0x001 then 0x10 else if fifo % 2 ^ 12 = 0x101 then 0x100 else if fifo / 2 ^ 8 % 16 = 2 then 0x80 else 0
  | _ => 0

/-- Whether a FIFO carries records whose format names no context: consume requests of lane M (R283), combine acknowledgements of
lane K (Table 05-4), most records of lane O, host read completions, fabric CTRL packets (R372). -/
def fifoNoCtx (fifo : Nat) : Bool :=
  match fifo / 2 ^ 12 with
  | 2 | 3 | 5 => true
  | 6 => fifo == 0x6101 || fifo == 0x6201 || fifo == 0x6203
  | _ => false

/-- The contexts that a FIFO reset marks: all of them when the FIFO carries records that name none, or a discarded record names
none or has a failing sideband. -/
def lostCtxs (fifo : Nat) (recs : List LostRec) : Nat :=
  if fifoNoCtx fifo || recs.any fun r => !r.sidebandOk || r.ctx.isNone then allCtxs
  else recs.foldl (fun m r => m ||| 2 ^ (r.ctx.getD 0 % 64)) 0

/-- The context that a record of lane T, S or M names. -/
def laneCtx (lane : Nat) (x : LaneRec) : Option Nat :=
  match lane, x.ty with
  | 0, 1 => some (parseToken x.r).ctx
  | 0, 2 => some (parseSprout x.r).ctx
  | 0, _ => some (parseRemDec 0 x.r).ctx
  | 1, _ => some (jCTX x.r)
  | _, 5 => some (msCtx x.r)
  | _, _ => none

/-- The records that an inbound lane holds in State: their sidebands pass. -/
def State.fifoRecs (s : State) (fifo : Nat) : List LostRec :=
  if fifo / 2 ^ 12 < 3 then
    (s.lane (fifo / 2 ^ 12) (fifo % 2 ^ 12)).map fun x => ⟨true, laneCtx (fifo / 2 ^ 12) x⟩
  else []

/-- The FIFO empty, what it held having left its link. -/
def emptyFifo (fifo : Nat) (s : State) : State :=
  if (s.fifoRecs fifo).isEmpty then s
  else linkRecv fifo (s.fifoRecs fifo).length { s with lanes := Tab.put s.lanes (fifo / 2 ^ 12, fifo % 2 ^ 12) [] }

/-- A FIFO reset (R335): what the lane holds is discarded, with the records `more` that no command has brought in (log entry 50). -/
def fifoReset (fifo : Nat) (more : List LostRec) (s : State) : State :=
  let recs := s.fifoRecs fifo ++ more
  let n := recs.length
  let s1 := errContained (fifoUnit fifo) 0x03 none none (word [(63, 48, fifo), (31, 0, n)]) (bump K.FIFO_LOST n (emptyFifo fifo s))
  if (recs.isEmpty && !fifoNoCtx fifo) || fifoClasses fifo == 0 then s1
  else auditMark (fifoClasses fifo) (lostCtxs fifo recs) 0x03 s1

def execFifoReset (fifo : Nat) (recs : List LostRec) (s : State) : Res :=
  .next (if s.live && s.glb.phase != .boot then fifoReset fifo recs s else s)

/-! ## Power-up (R354 to R357) -/

/-- SELF_INIT_DONE: `bistUnit` 0 says that the self-test found no fault. -/
def execSelfInitDone (bistUnit : Nat) (s : State) : Res :=
  .next (if s.glb.phase = .boot then
    { s with glb := { s.glb with phase := .setup, siDone := true, bistFail := bistUnit != 0, bistUnit := bistUnit } } else s)

/-- What ENABLE 1 does to a unit that has it when GBL_CTRL ENABLE is set (R359). -/
def beginUnit (u : UnitId) (s : State) : State :=
  let e := s.unit u
  if !e.enable || e.enabled then s
  else
    match u with
    | .ctx c => tryEnable u (ctxRule c) s
    | .ring r => tryEnable u (ringRule r) s
    | .bar b => tryEnable u (barRule b) s
    | .queue q => qOpen q s
    | _ => tryEnable u alwaysEnable s

def UnitId.isCtx : UnitId → Bool
  | .ctx _ => true
  | _ => false

/-- GBL_CTRL ENABLE: engines leave reset, units begin to enable, contexts in ascending order. -/
def blockEnable (s : State) : State :=
  let s1 : State := { s with
    glb := { s.glb with enable := true, phase := .run }
    disp := { s.disp with outOfReset := List.range 1024 } }
  let s2 := (List.range 64).foldl (fun t c => beginUnit (.ctx c) t) s1
  ((s2.en.map (·.1)).filter fun u => !u.isCtx).foldl (fun t u => beginUnit u t) s2

/-- A write of GBL_CTRL: INIT_DONE first, then ENABLE. -/
def gblCtrl (v : W32) (s : State) : State :=
  let s1 := if bit v 1 && !s.glb.initDone && !s.glb.bistFail then { s with glb := { s.glb with initDone := true, phase := .ready } } else s
  if bit v 0 && s1.glb.initDone && !s1.glb.enable then blockEnable s1 else s1

/-- INIT_DONE: a write of GBL_CTRL. -/
def execInitDone (v : W32) (s : State) : Res := .next (hostWrite (gblCtrl v) s)

/-- GBL_ENABLE: a write of GBL_CTRL too. -/
def execGblEnable (v : W32) (s : State) : Res := .next (hostWrite (gblCtrl v) s)

end Sys2Proof.Machine
end

