-- ==== Sys2Proof/Machine/Dlm.lean ====
section
/-! DEFINITION. The deadline monitor (R208 to R213): checkpoint evaluation, the switch, the fall-back. -/

namespace Sys2Proof.Machine

def State.modDlm (s : State) (ctx serial : Nat) (f : DlmEntry → DlmEntry) : State :=
  { s with dlm := updFirst (·.is ctx serial) f s.dlm }

/-! ## The estimate (R209) -/

inductive Estimate where
  | none
  | poison (a : Nat)
  | found (remain : Nat) (scale : Bool)
  deriving DecidableEq, Repr

def State.estBase (s : State) (ctx : Nat) : Nat := s.addrOf (K.CTX_EST_LO ctx) (K.CTX_EST_HI ctx)

/-- The entries probed from index `i`, at most `k` of them; base 0 is no table. -/
def State.probe (s : State) (base tid node : Nat) : Nat → Nat → Estimate
  | 0, _ => .none
  | k + 1, i =>
    let a := addr48 (base + i % 4096 * 16)
    match s.readWords a 2 with
    | .none => .poison a
    | some w =>
      let e := wordAt w 0
      if bit e 27 && bits e 63 48 == tid && bits e 47 28 == node then .found (bits (wordAt w 1) 63 32) (bit e 26)
      else s.probe base tid node k (i + 1)

/-- Where the probe of a template's node begins. -/
def probeFrom (tid node : Nat) : Nat := (tid % 4096) ^^^ (node % 4096)

def State.estimate (s : State) (ctx tid node : Nat) : Estimate :=
  if s.estBase ctx = 0 then .none else s.probe (s.estBase ctx) tid node 4 (probeFrom tid node)

/-- The entries that a probe reads: it ends with the first that it takes or cannot read. -/
def State.probed (s : State) (base tid node : Nat) : Nat → Nat → List Nat
  | 0, _ => []
  | k + 1, i =>
    let a := addr48 (base + i % 4096 * 16)
    match s.probe base tid node 1 i with
    | .none => a :: s.probed base tid node k (i + 1)
    | _ => [a]

/-- The reads of a probe. -/
def noteProbe (ctx tid node : Nat) (s : State) : State :=
  if s.estBase ctx = 0 then s
  else (s.probed (s.estBase ctx) tid node 4 (probeFrom tid node)).foldl (fun t a => noteRead uFrontEnd (some ctx) a 16 t) s

/-- R of R210. -/
def remaining (remain : Nat) (scale : Bool) (fmhz : Nat) : Nat := if scale then ceilDiv (remain * 1500) fmhz else remain

/-! ## The switch (R211) -/

/-- Step 1: the fall-back is pinned in the same cycle, or the pin fails. A serial whose launch record is still in use
(R28) makes it fail VERSION_BUSY (DESIGN CHOICE, log entry 44). -/
def pinFallback (l : Launch) (d : DlmEntry) (s : State) : State :=
  let fail := fun (st : Nat) (s : State) => bump K.DLM_FBFAIL 1 (s.modDlm l.ctx l.serial fun d => { d with pinFail := some st })
  if s.serialBusy l.ctx then fail stVERSION_BUSY s
  else
    match pinVersion l.ctx d.fb s with
    | .inl st => fail st (ifThen (st == stVERSION_BUSY) (noteBusy l.ctx d.fb) s)
    | .inr (k, s1) =>
      let n := s1.serialNext l.ctx
      let f : Launch := { newLaunch s1 l.ctx n d.fb k l.prio l.params with
        framed := l.framed, ordered := l.ordered, fbOf := some l.serial, started := false }
      let (x, s2) := openWord (enterFlight f (takeSerial l.ctx (s1.modDlm l.ctx l.serial fun d => { d with fbSerial := n })))
      trace1 20 0x09 (some l.ctx) (bits x 15 0) (BitVec.ofNat 64 l.serial) (BitVec.ofNat 64 n) s2

/-- Steps 1 and 2. -/
def switchLaunch (l : Launch) (d : DlmEntry) (t : Nat) (s : State) : State :=
  cancelRemainder l.ctx l.serial
    (pinFallback l d (s.modDlm l.ctx l.serial fun d => { d with state := .switching, switchStamp := t }))

/-! ## Checkpoints (R210) -/

/-- The entry that a checkpoint completion is evaluated for. -/
def State.tracked (s : State) (k : Ckpt) : Option DlmEntry :=
  s.dlm.find? fun d => d.is k.ctx k.serial && d.state == .tracking && !d.dead

/-- The switch, with the primary's parameter words read from its launch record (words L8 to L23); a record that cannot be read
fails the launch (R172). -/
def trySwitch (l : Launch) (d : DlmEntry) (t : Nat) (s : State) : State :=
  let s1 := noteRead uFrontEnd (some l.ctx) (addr48 (s.lrecAddr l.ctx l.serial + 64)) 128 s
  match s1.lrecBad l with
  | some a => dataFault uFrontEnd l.ctx l.serial a s1
  | none => switchLaunch l d t s1

/-- A checkpoint is evaluated. A launch that is complete completes first, and no switch follows (R212). A POISON on an entry
cancels the launch (Table 13-9; DEDUCED, log entry 45). -/
def evalCkpt (k : Ckpt) (d : DlmEntry) (s0 : State) : State :=
  match s0.launch? k.ctx k.serial with
  | none => s0
  | some l =>
    if s0.launchDone l then s0
    else
      let s := noteProbe k.ctx l.template k.node s0
      match s.estimate k.ctx l.template k.node with
      | .none => bump K.DLM_NOEST 1 s
      | .poison a => reportLaunch uFrontEnd 0x04 k.ctx k.serial 5 (BitVec.ofNat 64 a) s
      | .found r sc =>
        let p := k.t + remaining r sc k.fmhz + s.fld K.DLM_CFG 31 12
        let s1 := s.modDlm k.ctx k.serial fun d => { d with projection := p }
        if d.deadline ≤ p then trySwitch l d k.t s1 else s1

/-- CHECKPOINT_EVAL: the first completion that waits, by t, then source ID. -/
def checkpointEval (s : State) : State :=
  let live := s.ckpts.filter fun k => (s.tracked k).isSome
  match leastBy (fun a b : Ckpt => decide (a.t < b.t) || (a.t == b.t && decide (a.src < b.src))) live with
  | none => { s with ckpts := [] }
  | some k =>
    match s.tracked k with
    | none => s
    | some d => evalCkpt k d { s with ckpts := dropFirst (· == k) live }

def execCheckpointEval (s : State) : Res := .next (whenRunning checkpointEval s)

/-! ## The fall-back (R211 step 3) -/

/-- The LAUNCH whose fall-back could not be pinned completes with that status (R31). -/
def endUnpinned (l : Launch) (st : Nat) (s : State) : State :=
  residentExit l (freeDlm l.ctx l.serial (endLaunch l (completeLaunchOp l st 0 0 (noteAudit l l false s))))

def startFallback (l : Launch) (f pick : Nat) (s : State) : State :=
  let s1 := releasePin l (s.modDlm l.ctx l.serial fun d => { d with state := .fallback, drained := true })
  match s1.launch? l.ctx f with
  | none => s1
  | some g => if (s1.vslot g.ctx g.template g.vslot).breach then reportBreach uFrontEnd l.ctx f s1 else materialiseRoots l.ctx f pick s1

/-- DLM_FALLBACK_START: the primary has drained. -/
def dlmFallbackStart (ctx serial pick : Nat) (s : State) : State :=
  match s.dlm.find? (·.is ctx serial), s.launch? ctx serial with
  | some d, some l =>
    if d.state != .switching || d.dead || !s.drained ctx serial then s
    else
      match d.pinFail with
      | some st => endUnpinned l st s
      | none => startFallback l d.fbSerial pick s
  | _, _ => s

def execDlmFallbackStart (ctx serial pick : Nat) (s : State) : Res := .next (whenRunning (dlmFallbackStart ctx serial pick) s)

end Sys2Proof.Machine
end

