-- ==== Sys2Proof/Machine/Faults.lean ====
section
/-! DEFINITION. The scrubber, the error log and its vector, the dump (R362 to R371, R382). -/

namespace Sys2Proof.Machine

/-! ## Writes in a fatal or stopped block (R368, R406) -/

/-- Whether the block takes a write of the register at an offset: a fatal block those of 13_faults_and_conservation.md and
RST_CTRL, a stopped one those of the observation region, DUMP_BASE, DUMP_CMD and RST_CTRL. -/
def State.takesWrite (s : State) (a : Nat) : Bool :=
  if s.glb.fatal then (decide (0x400 ≤ a) && decide (a < 0x460)) || a == 0x2C
  else if s.glb.stopped then (decide (0x8000 ≤ a) && decide (a < 0x9000)) || a == 0x2C || (decide (0x450 ≤ a) && decide (a ≤ 0x458))
  else true

/-- A write of a register: dropped and counted in BOOT (Table 12-7), discarded where a fatal or stopped block takes none. -/
def gated (a : Nat) (f : State → State) (s : State) : State :=
  if !s.takesWrite a then s
  else if s.glb.phase = .boot then ifThen s.live (bump K.BOOT_DROP 1) s
  else f s

/-! ## The check code and the scrubber (R363, R364) -/

/-- DETAIL of codes 0x01 and 0x02. -/
def sramDetail (array word : Nat) : Word := Machine.word [(63, 56, array), (31, 0, word)]

/-- A word of the block's SRAM is read with `flips` flipped bits among its 80. Of 4 or more the block promises nothing: what
is made of them is a free value (log entry 6). -/
def sramRead (unit : Nat) (detail : Word) (flips : Nat) (s : State) : State :=
  match flips with
  | 0 => s
  | 1 | 2 => errCorrected unit detail s
  | 3 => blockFatal unit 0x02 detail s
  | _ =>
    let (x, s1) := openWord s
    match bits x 1 0 with
    | 0 => s1
    | 1 => errCorrected unit detail s1
    | _ => blockFatal unit 0x02 detail s1

/-- A word found uncorrectable stays so until the SRAM is initialised: a dump reads it as 0 (R370). -/
def noteBadWord (unit array word : Nat) (s : State) : State :=
  if s.glb.fatal then { s with glb := { s.glb with badWords := s.glb.badWords ++ [(unit, array, word)] } } else s

/-- SCRUB. In BOOT the SRAM is being initialised (log entry 52). -/
def execScrub (unit array word flips : Nat) (s : State) : Res :=
  .next (if s.live && s.glb.phase != .boot then noteBadWord unit array word (sramRead unit (sramDetail array word) flips s) else s)

/-! ## The error log (R366, R367, R382) -/

/-- A write of ERR_POP. -/
def errPopWrite (v : W32) (s : State) : State :=
  if bit v 0 then { s with glb := { s.glb with errLog := s.glb.errLog.drop 1 } } else s

def execErrPop (v : W32) (s : State) : Res := .next (gated 0x418 (errPopWrite v) s)

/-- ERR_HOLDOFF_EXPIRY: the end of the holdoff, with the merged request if one waits. -/
def errHoldoffExpiry (s : State) : State :=
  match s.glb.errHoldoff with
  | none => s
  | some t =>
    if s.tb < t then s
    else if s.glb.errMerged then
      sendMsix (s.causeVec 0) { s with glb := { s.glb with errMerged := false, errHoldoff := some (s.tb + 1000) } }
    else { s with glb := { s.glb with errHoldoff := none } }

def execErrHoldoffExpiry (s : State) : Res := .next (if s.glb.initDone && s.live then errHoldoffExpiry s else s)

/-! ## The dump (R370, R371) -/

/-- A write of DUMP_CMD. -/
def dumpCmd (v : W32) (s : State) : State :=
  if bit v 0 && (s.glb.fatal || s.glb.stopped) && !s.glb.dumpBusy then
    { s with glb := { s.glb with dumpBusy := true, dumpDone := false, dumpError := false, dumpStart := s.tb } }
  else s

def execDumpGo (v : W32) (s : State) : Res := .next (gated 0x458 (dumpCmd v) s)

/-- The registers from an offset of the flat map, in pairs. -/
def flatWords (s : State) (a n : Nat) : List Word :=
  (List.range n).map fun i =>
    join32 (s.show32 Selector.zero ⟨0, 0, a + 8 * i⟩) (s.show32 Selector.zero ⟨0, 0, a + 8 * i + 4⟩)

/-- The first `n` words of an instance's window, with every inner selector 0 (R418); 0 where the instance is absent. -/
def windowWords (s : State) (ty i n : Nat) : List Word :=
  (List.range n).map fun j =>
    if s.winPresent ty i then
      join32 (s.show32 Selector.zero (s.viewKey ty i (8 * j))) (s.show32 Selector.zero (s.viewKey ty i (8 * j + 4)))
    else 0

/-- Section 3, its windows in their order. -/
def dumpWindows (s : State) : List Word :=
  let all := fun ty n b => (List.range n).flatMap fun i => windowWords s ty (b + i) 32
  all 1 64 0 ++ all 5 128 0 ++ all 3 16 0 ++ all 4 64 0 ++ all 6 64 0 ++ all 8 64 0 ++ all 8 256 256

/-- Section 4: a pending signal as its sync request (Table 08-3). Its notices carry no HANDLE: FREE VALUE (log entry 6). -/
def pendWords (s : State) (e : PendSig × Nat) : List Word :=
  let p := e.1
  [word [(61, 60, p.scope), (59, 59, b2n p.add), (58, 55, p.frag), (54, 49, p.ctx), (48, 25, p.obj), (24, 15, s.chipId)],
   p.value, word [(63, 32, bits (Config.openWord (s.free + s.trees.length + e.2)) 31 0), (31, 16, p.tag)], 0]

/-- Section 6: the second word is left open (FREE VALUE, log entry 6). -/
def treeWords (s : State) : List Word :=
  s.trees.zipIdx.flatMap fun t => [word [(63, 58, t.1.1), (57, 38, t.1.2.1), (37, 26, t.1.2.2)], Config.openWord (s.free + t.2)]

/-- Section 7: the expansion queue of each shard. -/
def expansionParts (s : State) : List (Nat × List Word) :=
  (List.range 16).map fun sh =>
    (0x88000 + sh * 0x800, (s.hub.sprQueue.filter fun q => q.1 == sh).flatMap fun q => sproutWords q.2)

/-- Section 9: the groups and slots of a fold unit. -/
def foldParts (s : State) (u : Nat) : List (Nat × List Word) :=
  let x := s.foldUnit u
  let b := 0x200000 + u * 0xC0000
  (x.groups.map fun g => (b + 32 * g.gid, g.words)) ++
    (x.groups.flatMap fun g => g.slotsUsed.map fun n => (b + 0x80000 + 16 * n, x.slotWords n))

/-- The queue descriptors that hold anything: the work queues and those listed. -/
def State.queueIds (s : State) : List Nat := List.range 1024 ++ (s.queues.map (·.1)).filter fun q => decide (1024 ≤ q)

/-- Section 11: the queue window, then PROD, CONS and the hold-queue count. -/
def queueParts (s : State) : List (Nat × List Word) :=
  s.queueIds.map fun q =>
    let x := s.queue q
    (0x700000 + 64 * q, windowWords s 9 q 6 ++
      [join32 (BitVec.ofNat 32 x.prod) (BitVec.ofNat 32 x.cons), BitVec.ofNat 64 x.hold.length])

/-- Section 12: held packets, held for their frame, as orphans, and behind a gap. -/
def State.heldPackets (s : State) : List Rec8 :=
  s.fab.hold ++ s.fab.orphans.map (·.p) ++ s.fab.gaps.flatMap (·.held)

def bucketBefore (a b : Parked) : Bool := decide (a.ctx < b.ctx) || (a.ctx == b.ctx && decide (a.tree < b.tree))

/-- Section 15: what is parked on-block in a shard, in bucket order. -/
def onBlockWords (s : State) (sh : Nat) : List Word :=
  ((s.hub.parked.filter fun p => p.shard == sh && !p.inCellar).foldl (fun l p => insertBy bucketBefore p l) []).flatMap fun p =>
    match p.item with
    | .edge a => edgeWords a
    | .spr r => sproutWords r

/-- Section 13, the objects that are not FREE. -/
def State.objIds (s : State) : List Nat := (s.sync.objs.filter fun e => e.2.isSome).map (·.1)

/-- The records written by each section. For the sections that are no arrays of records they are counted in registers of 32
bits and in windows (DESIGN CHOICE, log entry 53). -/
def dumpCounts (s : State) : List Nat :=
  let dir := (s.hub.ready.filter fun e => e.place == .directory).length
  let groups := ((List.range 4).map fun u => (s.foldUnit u).groups.length).sum
  let slots := ((List.range 4).map fun u => ((s.foldUnit u).groups.map fun g => g.slotsUsed.length).sum).sum
  [1, s.glb.errLog.length, 10240, 656, s.sync.pend.length, s.dlm.length, s.trees.length, s.hub.sprQueue.length, dir,
   groups + slots, s.sync.waiters.length, s.queueIds.length, s.heldPackets.length, s.objIds.length, s.shards * 16384,
   (s.hub.parked.filter fun p => !p.inCellar).length]

/-- The offsets of sections 0 to 15, and of what follows them (Table 13-4). -/
def dumpSections : List Nat :=
  [0, 0x1000, 0x4000, 0x10000, 0x50000, 0x70000, 0x78000, 0x88000, 0x100000, 0x200000, 0x500000, 0x700000, 0xB00000, 0xF00000,
   0x1700000, 0x1F00000, 0x3F00000]

/-- The offsets, in words of 8 bytes, of what the dump reads uncorrectable. Where an SRAM word stands in the dump area is left
open: FREE VALUE (log entry 106). -/
def State.dumpLost (s : State) : List Nat :=
  (s.glb.badWords.flatMap fun w => (Config.dumpPlace w.1 w.2.1 w.2.2).map (8 * ·)).filter fun o =>
    decide (0x1000 ≤ o) && decide (o < 0x3F00000)

/-- The second word of section `k`'s entry in the header: how many of the words `lost` are its own, and the first of them. -/
def lostWord (lost : List Nat) (k : Nat) : Word :=
  let own := lost.filter fun o => decide (dumpSections.getD k 0 ≤ o) && decide (o < dumpSections.getD (k + 1) 0)
  word [(63, 32, own.length), (31, 0, own.min?.getD 0)]

/-- The header (Table 13-5). -/
def dumpHeader (s : State) : List Word :=
  let fatal := match s.glb.fatalRec with | some r => words4 r | none => [0, 0, 0, 0]
  [0x534B504400000002, BitVec.ofNat 64 s.glb.dumpStart, word [(63, 56, if s.glb.fatal then 1 else 2), (9, 0, s.chipId)],
   word [(63, 32, s.cap0), (31, 0, s.cap1)]] ++ fatal ++ List.replicate 24 0 ++
  (dumpCounts s).zipIdx.flatMap fun n => [BitVec.ofNat 64 n.1, lostWord s.dumpLost n.2]

/-- Section 14: every slot of a shard that is present; one never used shows GENERATION 1 (Table 02-1). -/
def slotParts (s : State) : List (Nat × List Word) :=
  (List.range s.shards).map fun sh =>
    (0x1700000 + sh * 0x80000, (List.range 16384).flatMap fun n => slotWords (s.slot sh n))

/-- What the dump writes at each offset; everything else of the area is written 0 (Table 13-4), and so is a word read uncorrectable
(R370). -/
def dumpParts (s : State) : List (Nat × List Word) :=
  [(0, dumpHeader s), (0x1000, s.glb.errLog.flatMap words4), (0x4000, flatWords s 0 5120), (0x10000, dumpWindows s),
   (0x50000, s.sync.pend.zipIdx.flatMap (pendWords s)), (0x70000, s.dlm.flatMap dlmWords), (0x78000, treeWords s)] ++
  expansionParts s ++
  [(0x100000, (s.hub.ready.filter fun e => e.place == .directory).flatMap readyWords)] ++
  (List.range 4).flatMap (foldParts s) ++
  [(0x500000, s.sync.waiters.flatMap waiterWords)] ++ queueParts s ++
  [(0xB00000, s.heldPackets.flatMap words8)] ++
  (s.objIds.map fun p => (0xF00000 + 32 * p, objWords s p)) ++
  slotParts s ++
  ((List.range 16).map fun sh => (0x1F00000 + sh * 0x200000, onBlockWords s sh)) ++
  s.dumpLost.map fun o => (o, [0])

def State.dumpBase (s : State) : Nat := s.addrOf K.DUMP_BASE_LO K.DUMP_BASE_HI

/-- The size of the dump area. -/
def dumpSize : Nat := 0x4000000

/-- DUMP_COMPLETE: the area is written and the dump ends. The port's events are not counted: every unit is stopped. -/
def dumpComplete (s : State) : State :=
  let t := writeArea uObs s.dumpBase dumpSize (dumpParts s) s
  { s with
    mem := t.mem, poison := t.poison, reqs := t.reqs, free := s.free + s.trees.length + s.sync.pend.length
    glb := { s.glb with dumpBusy := false, dumpDone := true, dumpError := !s.areaOk s.dumpBase dumpSize } }

def execDumpComplete (s : State) : Res := .next (if s.glb.dumpBusy then dumpComplete s else s)

end Sys2Proof.Machine
end

