-- ==== Sys2Proof/Machine/Observe.lean ====
section
/-! DEFINITION. The observation unit's own commands: snapshots and freezes, counter overflow, interval samples, the trace
port, watchpoints, the global stop and the hang snapshot (R383 to R407). -/

namespace Sys2Proof.Machine

/-! ## Counters (R384 to R389) -/

/-- PMC_CFG of counter `k` of a unit; the fixed counter (0) has none. -/
def State.pmcCfg (s : State) (u k : Nat) : W32 := if k = 0 then 0 else s.reg (K.PMC_CFG u (k - 1))

def State.frozen (s : State) (u : Nat) : Bool := s.flag K.OBS_CTRL u

def setPmc (u k : Nat) (p : Pmc) (s : State) : State := { s with obs := { s.obs with pmc := Tab.put s.obs.pmc (u, k) p } }

/-- A counter raised by `n`: past 2^48 − 1 it wraps, with its OVF bits and the observation vector (R388). OVF_FREEZE acts in
the next hub cycle: it is `freezeAll` once the cycle's counts are in. -/
def pmcAdd (u k n : Nat) (s : State) : State :=
  let p := State.pmcOf s.obs.pmc u k
  let c := p.count + n
  if c < 2 ^ 48 then setPmc u k { p with count := c } s
  else
    let s1 := setBits K.OBS_STAT (2 ^ u) (setPmc u k { p with count := c % 2 ^ 48, ovf := true } s)
    ifThen (bit (s.pmcCfg u k) 10) (irqCause 3) s1

/-- Whether raising counter `k` by `n` makes it pass 2^48 − 1. -/
def State.pmcPasses (s : State) (u k n : Nat) : Bool := decide (2 ^ 48 ≤ (State.pmcOf s.obs.pmc u k).count + n)

/-- A freeze asked for by an overflow acts in the next hub cycle: the counts of the present one still go in (R388). -/
def freezeNext (s : State) : State := { s with obs := { s.obs with frzNext := true } }

/-- Whether a counter counts: EN, and always for PMC_FIXED (index 0). -/
def State.pmcOn (s : State) (u k : Nat) : Bool := k == 0 || bit (s.pmcCfg u k) 31

/-- COUNTER_WRAP: an unfrozen counter of a present unit passes 2^48 − 1 by the count of `n`. -/
def counterWrap (u k n : Nat) (s : State) : State :=
  if s.unitPresent u && !s.frozen u && s.pmcOn u k && s.pmcPasses u k n then
    ifThen (bit (s.pmcCfg u k) 9) freezeNext (pmcAdd u k n s)
  else s

def execCounterWrap (unit k n : Nat) (s : State) : Res := .next (if s.live then counterWrap unit k n s else s)

/-- SNAP: every counter as it stands, with the stamp (R389). -/
def takeSnap (s : State) : State :=
  ({ s with obs := { s.obs with snap := some s.obs.pmc } }).setBank64 K.OBS_SNAP s.tb

/-- A write of OBS_CTRL: the snapshot, then SHOW and FRZ. -/
def obsCtrlWrite (v : W32) (s : State) : State := plainWrite K.OBS_CTRL v (ifThen (bit v 31) takeSnap s)

def execObsSnap (v : W32) (s : State) : Res := .next (gated 0x8000 (obsCtrlWrite v) s)
def execObsFrz (v : W32) (s : State) : Res := .next (gated 0x8000 (obsCtrlWrite v) s)

/-! ## Interval sampling (R390, R391) -/

/-- SMP_PERIOD; below 1,024 acts as 1,024. -/
def State.smpPeriod (s : State) : Nat := max (s.reg K.SMP_PERIOD).toNat 1024

/-- The units of MASK, ascending. -/
def State.smpUnits (s : State) : List Nat := (List.range 24).filter fun u => s.flag K.SMP_CTRL u

/-- The record length. -/
def State.smpLen (s : State) : Nat := 32 + 72 * s.smpUnits.length

/-- The record positions of the buffer. -/
def State.smpPositions (s : State) : Nat := s.fld K.SMP_SIZE 19 0 * 1024 / s.smpLen

/-- Records written and not returned. -/
def State.smpHeld (s : State) : Nat := ((s.reg K.SMP_PROD).toNat + 2 ^ 32 - (s.reg K.SMP_CONS).toNat) % 2 ^ 32

/-- One counter of a unit as its own address would show it, without SHOW. -/
def State.pmcLive (s : State) (u k : Nat) : Word := if s.unitPresent u then (State.pmcOf s.obs.pmc u k).toWord else 0

/-- Sample record `n` with the samples lost since the previous record. -/
def sampleRecord (n lost : Nat) (s : State) : List Word :=
  [word [(63, 56, 1), (55, 32, s.fld K.SMP_CTRL 23 0), (31, 0, s.smpLen)], BitVec.ofNat 64 ((n + 1) * s.smpPeriod),
   BitVec.ofNat 64 n, word [(63, 32, satTo 32 lost)]] ++
  s.smpUnits.flatMap fun u => (List.range 9).map fun k => s.pmcLive u k

/-- A sample that is not written, or one that is written over. -/
def loseSample (s : State) : State :=
  bump K.SMP_LOST 1 { s with obs := { s.obs with smpLostPrev := s.obs.smpLostPrev + 1 } }

/-- The record at its position; SMP_PROD rises. -/
def writeSample (n : Nat) (s : State) : State :=
  let a := s.addrOf K.SMP_BASE_LO K.SMP_BASE_HI + (s.reg K.SMP_PROD).toNat % s.smpPositions * s.smpLen
  let s1 := pmc 23 0x54 none 1 (bumpWrap K.SMP_PROD 1 (writeWords uObs none a (sampleRecord n s.obs.smpLostPrev s) s))
  { s1 with obs := { s1.obs with smpBusy := true, smpLostPrev := 0 } }

/-- SAMPLE_WINDOW: the end of the window that is due. A full buffer is one whose records not returned are at least its
positions (DEDUCED, log entry 54). -/
def sampleWindow (s : State) : State :=
  let n := s.obs.smpNext
  if !s.flag K.SMP_CTRL 31 || decide (s.tb < (n + 1) * s.smpPeriod) then s
  else
    let s1 := { s with obs := { s.obs with smpNext := n + 1 } }
    if s.obs.smpBusy || s.smpPositions == 0 then loseSample s1
    else if s.smpHeld < s.smpPositions then writeSample n s1
    else if s.flag K.SMP_CTRL 30 then writeSample n (loseSample s1)
    else loseSample s1

def execSampleWindow (s : State) : Res := .next (whenRunning sampleWindow s)

/-- SAMPLE_WRITE_COMPLETE. -/
def execSampleWriteComplete (s : State) : Res :=
  .next (if s.obs.smpBusy then memTake (fun s => { s with obs := { s.obs with smpBusy := false } }) s else s)

/-- A write of SMP_CTRL: EN set begins with the window that now runs. -/
def smpCtrlWrite (v : W32) (s : State) : State :=
  let s1 := plainWrite K.SMP_CTRL v s
  if bit v 31 && !s.flag K.SMP_CTRL 31 then { s1 with obs := { s1.obs with smpNext := s.tb / s.smpPeriod } } else s1

/-! ## The trace port (R348, R398) -/

/-- A frame: the record's 32 bytes and the CRC, its high byte first (DEDUCED, log entry 55). -/
def laneFrame (r : Rec4) : List Byte :=
  let bs := wordsBytes (words4 r)
  let c := crc16 bs
  bs ++ [BitVec.ofNat 8 (c.toNat / 256), BitVec.ofNat 8 c.toNat]

def idleFrame : List Byte := List.replicate 34 0xFF

/-- The next record of the stream on its lane. -/
def sendRecord (r : Rec4) (s : State) : State :=
  linkPass (0x6300 + s.obs.lane) (emit (.frame s.obs.lane (laneFrame r))
    (bump K.TRC_REC 1 { s with obs := { s.obs with lane := (s.obs.lane + 1) % 4 } }))

/-- The LOSS record; its SRC and SEQ are left open (FREE VALUE, log entry 6). -/
def lossRecord (s : State) : Rec4 × State :=
  let (x, s1) := openWord s
  (⟨word [(63, 58, 0x30), (57, 48, s.chipId), (40, 25, bits x 15 0), (23, 0, bits x 39 16)], BitVec.ofNat 64 s.tb,
    BitVec.ofNat 64 s.obs.traceLost, 0⟩, { s1 with obs := { s1.obs with traceLost := 0 } })

/-- TRACE_SEND: one lane frame. No record is sent before INIT_DONE or in a fatal block, and nothing before SI_DONE. -/
def traceSend (s : State) : State :=
  if !s.glb.siDone then s
  else if s.glb.fatal || !s.glb.initDone then emit (.frame s.obs.lane idleFrame) s
  else
    match s.obs.trace with
    | [] => emit (.frame s.obs.lane idleFrame) s
    | r :: t =>
      if s.obs.traceLost = 0 then sendRecord r { s with obs := { s.obs with trace := t } }
      else
        let (l, s1) := lossRecord s
        sendRecord l s1

def execTraceSend (s : State) : Res := .next (traceSend s)

/-- A MARK record: as L1 records are formed, also in a stopped block, which takes the write (DEDUCED, log entry 56). Its SRC
is left open (FREE VALUE, log entry 6). -/
def markRecord (v : W32) (s : State) : State :=
  if s.glb.initDone && decide (1 ≤ s.traceLevel) then
    if 0 < s.obs.budget then
      let (x, s1) := openWord s
      tracePush 23 0x31 none (bits x 15 0) 0 (BitVec.ofNat 64 v.toNat) { s1 with obs := { s1.obs with budget := s.obs.budget - 1 } }
    else traceLose s
  else s

def execTrcMark (v : W32) (s : State) : Res := .next (gated 0x8028 (markRecord v) s)

/-! ## Watchpoints (R401, R402) -/

/-- The bytes that an access covers: the sector range of a port access, 32 bytes of a pointer. -/
def accRange (a : Access) : Nat × Nat :=
  if a.cls < 2 then (a.addr / 32 * 32, ceilDiv (a.addr + a.len) 32 * 32)
  else if a.cls = 3 then (a.addr, a.addr + 32)
  else (a.addr, a.addr + a.len)

/-- SIZE_LOG; below 5 acts as 5. -/
def State.wpLog (s : State) (n : Nat) : Nat := max (s.fld (K.WP_CFGn n) 30 25) 5

/-- The window W; only the bits of BASE from SIZE_LOG on count. -/
def State.wpWindow (s : State) (n : Nat) : Nat × Nat :=
  let k := s.wpLog n
  let b := s.addrOf (K.WP_BASE_LOn n) (K.WP_BASE_HIn n) / 2 ^ k * 2 ^ k
  (b, b + 2 ^ k)

def State.wpMatches (s : State) (n : Nat) (a : Access) : Bool :=
  let w := s.wpWindow n
  let r := accRange a
  s.flag (K.WP_CFGn n) 31 && s.flag (K.WP_CFGn n) (20 + a.cls) &&
    decide (r.1 < w.2) && decide (w.1 < r.2) && decide (r.1 < r.2) &&
    (!s.flag (K.WP_CFGn n) 14 || a.ctx == some (s.fld (K.WP_CFGn n) 13 8))

/-- WATCH: a match and its actions. The record's SRC is open (FREE VALUE, log entry 6); its address is the lowest that access
and window share (DEDUCED, log entry 57). -/
def watchHit (n : Nat) (a : Access) (s : State) : State :=
  let act := fun i => s.flag (K.WP_CFGn n) i
  let s1 := pmc 23 0x53 none 1 (bump (K.WP_HITn n) 1 s)
  let (x, s2) := openWord s1
  let s3 := ifThen (act 15) (trace1 23 0x32 a.ctx (bits x 15 0) (word [(2, 0, n), (10, 8, a.cls)])
    (word [(47, 0, max (accRange a).1 (s.wpWindow n).1)])) s2
  ifThen (act 18) (irqCause 4) (ifThen (act 17) (stopTrigger 3) (ifThen (act 16) freezeAll s3))

/-- A watchpoint compares an access. -/
def watchOne (a : Access) (s : State) (n : Nat) : State := if s.wpMatches n a then watchHit n a s else s

/-- A request on the memory port as a watchpoint sees it (R344). -/
def MemReq.access (r : MemReq) : Access := ⟨b2n r.write, r.addr, r.len, r.ctx⟩

/-- The accesses of the present hub cycle. -/
def State.accesses (s : State) : List Access :=
  ((s.reqs.drop s.cyc.reqBase).filter fun r => !r.host).map (·.access) ++ s.cyc.accs

/-- The watchpoints and the accesses of the hub cycle, as it ends; the actions follow within the same hub cycle (R402). -/
def watchAll (s : State) : State :=
  s.accesses.foldl (fun t a => if t.live then (List.range 8).foldl (watchOne a) t else t) s

/-- WATCH: an access that no other command of the model makes. -/
def execWatch (n : Nat) (a : Access) (s : State) : Res :=
  .next (if s.live && s.wpMatches n a then watchHit n a s else s)

/-! ## The global stop (R403 to R406) -/

/-- STOP_LINE: a rising edge, ignored before INIT_DONE (R350). -/
def execStopLine (s : State) : Res := .next (stopTrigger 1 s)

/-- A write of STOP_CTRL. -/
def stopCtrlWrite (v : W32) (s : State) : State := ifThen (bit v 31) (stopTrigger 2) (plainWrite K.STOP_CTRL v s)

def execStopGo (v : W32) (s : State) : Res := .next (gated 0x8080 (stopCtrlWrite v) s)

/-- An item entered in a link's capture buffer. -/
def capture (l kind size : Nat) (ws : List Word) (o : Obs) : Obs :=
  let k := Tab.get ⟨0, 0, []⟩ o.links l
  { o with links := Tab.put o.links l { k with items := k.items ++ [(kind, size, ws)] } }

/-- An item on its way to a shard, as its link holds it: the packet on the fabric's link, an edge record elsewhere (Table 14-9). -/
def captureItem (o : Obs) (x : XItem) : Obs :=
  match x.pkt with
  | some p => capture (linkOfSrc x.src) 5 64 (words8 p) o
  | none => capture (linkOfSrc x.src) 1 16 (edgeWords x.arr) o

/-- What a lane holds unread (R340). -/
def captureLane (o : Obs) (e : (Nat × Nat) × List LaneRec) : Obs :=
  e.2.foldl (fun o x => let ws := laneWords x.ty x.r; capture (e.1.1 * 0x1000 + e.1.2) 6 (8 * ws.length) ws o) o

/-- What is on the internal links and in the inbound lanes at the cut: arrivals and forwarded sprout records in the crossbar (the
latter shown as port records: DEDUCED, log entry 58), fold routing items, waiting records. The other links carry nothing from one
command to the next. -/
def captureLinks (s : State) : Obs :=
  let o1 := (s.hub.xbar.filter fun x => x.src != x.dst).foldl captureItem s.obs
  let o2 := (s.hub.sprHeld.filter fun q => hShard q.2.producer != q.1).foldl
    (fun o q => capture (0x8000 + hShard q.2.producer) 6 32 (sproutWords q.2) o) o1
  let o3 := (List.range 4).foldl (fun o u =>
    (s.foldUnit u).routing.foldl (fun o i => capture (0x9000 + i.srcShard * 4 + u) 2 32 (foldItemWords i) o) o) o2
  s.lanes.foldl captureLane o3

/-- STOP_CUT: the cut of a stop that is due. The STOP record's SRC is open (FREE VALUE, log entry 6). -/
def stopCut (s : State) : State :=
  let (x, s1) := openWord s
  let s2 := irqCause 5 (trace1 23 0x33 none (bits x 15 0) (BitVec.ofNat 64 s.glb.stopCause) (BitVec.ofNat 64 s.glb.tStop) s1)
  let s3 := freezeAll s2
  { s3 with
    obs := captureLinks s3
    glb := { s3.glb with stopped := true, stopCut := s.tb, errMerged := false, errHoldoff := none } }

def execStopCut (s : State) : Res :=
  .next (if s.live && s.glb.armed && decide (s.glb.tStop ≤ s.tb) then stopCut s else s)

/-! ## The hang snapshot (R407) -/

/-- A write of HANG_CTRL. A stopped block writes no memory but a dump, so GO starts nothing there (DEDUCED, log entry 56). -/
def hangCtrlWrite (v : W32) (s : State) : State := ifThen (bit v 31 && s.live) (hangTrigger 1) (plainWrite K.HANG_CTRL v s)

def execHangGo (v : W32) (s : State) : Res := .next (gated 0x8060 (hangCtrlWrite v) s)

/-- HANG_DONE: the snapshot is written and ends. -/
def hangFinish (s : State) : State :=
  let s1 := hangWrite s
  irqCause 6 { s1 with obs := { s1.obs with hangBusy := false, hangDone := true } }

def execHangDone (s : State) : Res := .next (whenRunning (fun s => if s.obs.hangBusy then hangFinish s else s) s)

/-! ## Perturbation (R408) -/

/-- A write of PERT_CTRL: EN written 1 seeds the generator. -/
def pertCtrlWrite (v : W32) (s : State) : State :=
  let s1 := plainWrite K.PERT_CTRL v s
  if bit v 31 then { s1 with obs := { s1.obs with pert := max (s.reg K.PERT_SEED).toNat 1 } } else s1

end Sys2Proof.Machine
end

