-- ==== Sys2Proof/Machine/Walk.lean ====
section
/-! DEFINITION. The walk of a completed instance (R20, R38, R110, R125, R314). -/

namespace Sys2Proof.Machine

/-- A DEC entry: the successor's ordinal and shard, and one arrival (R40, R49). -/
def walkDec (sh : Nat) (v : Slot) (target : Nat) (s : State) : State :=
  let serial := ordSerial v.ordinal
  match s.launchNodeBad v.ctx serial target, s.deriveFor v.ctx serial target v.ordinal with
  | some a, _ => dataFault (uShard sh) v.ctx serial a s
  | none, none => reportBreach (uShard sh) v.ctx serial s
  | none, some o =>
    addOut v.ctx serial 1
      (sendArr sh (shardOf s.shards v.ctx target o) ⟨.dec, v.ctx, target, o, v.vslot, 1, 0, sh, none⟩ s)

/-- A FOLD entry: one routing item (R125). -/
def walkFold (sh : Nat) (v : Slot) (desc : Nat) (s : State) : State :=
  let u := foldUnitOf v.ctx (ordSerial v.ordinal) desc
  let w := s.foldUnit u
  linkSent (0x9000 + sh * 4 + u) 1
    (s.setFoldUnit u { w with routing := w.routing ++ [⟨sh, v.node, desc, v.ctx, v.vslot, v.ordinal, v.partialPtr, 0, 0⟩] })

/-- Successor entry `k` of the image; a launch that has been cancelled meanwhile gets nothing more (R173), and an entry that
reads as POISON fails it (R172). -/
def walkEntry (sh : Nat) (v : Slot) (k : Nat) (s : State) : State :=
  if s.dropsItem v.ctx (ordSerial v.ordinal) then s
  else
    match (s.slotLaunch? v).bind fun l => s.succBad l k, succ? (s.slotImage v) k with
    | some a, _ => dataFault (uShard sh) v.ctx (ordSerial v.ordinal) a s
    | none, some (0, t) => walkDec sh v t s
    | none, some (1, t) => walkFold sh v t s
    | none, _ => reportBreach (uShard sh) v.ctx (ordSerial v.ordinal) s

/-- The accepted sprout records of a task leave for their home shards (R110). -/
def forwardKept (sh handle : Nat) (s : State) : State :=
  (s.keptOf handle).foldl (fun t q => ifThen (q.1 != sh) (linkSent (0x8000 + sh) 1)
    { t with hub := { t.hub with sprHeld := t.hub.sprHeld ++ [q] } }) (forgetKept handle s)

/-- The DEC packet of a held remote decrement (R314, Table 11-3). -/
def remPacket (s : State) (r : RemDec) : Rec8 :=
  packet s 1 r.chip r.ctx r.eng (s.applyFrame r.ctx) r.ordinal (word [(63, 44, r.node), (43, 42, r.kind), (41, 26, r.amount)])

/-- The held requests of a task leave for the fabric port (R314). -/
def walkRemote (handle : Nat) (s : State) : State :=
  (s.hub.remHeld.filter fun r => r.producer == handle).foldl (fun t r => fabSend (remPacket t r) (linkPass 0xF000 t))
    { s with hub := { s.hub with remHeld := s.hub.remHeld.filter fun r => r.producer != handle } }

/-- What a walk issues (R20, R110, R314): nothing for a faulted token or a cancelled launch, whose sprout records are dropped
(R88, R120), nor for a node record that is POISON or breaks the image's rules; else its sprout records, its successor
entries and its remote decrements. -/
def walkOut (sh n : Nat) (v : Slot) (s : State) : State :=
  let serial := ordSerial v.ordinal
  let h := handleOf sh n v.gen
  if v.silent || s.dropsItem v.ctx serial then dropKept sh h s
  else
    match s.launchNodeBad v.ctx serial v.node, s.slotNode? v with
    | some a, _ => dropKept sh h (dataFault (uShard sh) v.ctx serial a s)
    | none, none => dropKept sh h (reportBreach (uShard sh) v.ctx serial s)
    | none, some nd =>
      walkRemote h ((List.range nd.succCount).foldl (fun t i => walkEntry sh v (nd.succBase + i) t) (forwardKept sh h s))

/-- The walk of a WALKING slot, after which the slot is free (R38, R52). -/
def walk (sh n : Nat) (s : State) : State :=
  let v := s.slot sh n
  if v.state ≠ .walking then s
  else subOut v.ctx (ordSerial v.ordinal) 1 (freeSlot sh n (walkOut sh n v s))

/-- WALK_ISSUE (R38). -/
def execWalkIssue (shard slot : Nat) (s : State) : Res := .next (whenRunning (walk shard slot) s)

end Sys2Proof.Machine
end

