-- ==== Sys2Proof/Machine/Window.lean ====
section
/-! DEFINITION. Register accesses: the window and its selectors, reads with their latch and clearing, writes by address,
interrupt enables, the error injector (R12, R13, R188, R336, R355, R392, R410 to R425). -/

namespace Sys2Proof.Machine

/-! ## 64-bit words and pairs (R188, R336, R417) -/

/-- A counter of the user page: only with USER and CTX_EN, and never PMC_FIXED (R392). -/
def State.userWord (s : State) (j : Nat) : Word :=
  let u := j / 0x48
  let i := j % 0x48 / 8
  if i = 0 then 0
  else if s.flag (K.PMC_CFG u (i - 1)) 30 && s.flag (K.PMC_CFG u (i - 1)) 19 then s.pmcWord u i else 0

def inUserPage (k : RegKey) : Bool := k.ty == 0 && decide (0x80000 ≤ k.off) && decide (k.off < 0x81000)

/-- The word of 64 bits that starts at a place, the user page included. -/
def State.wide64 (s : State) (x : Selector) (k : RegKey) : Option Word :=
  if inUserPage k then
    (if 0x80800 ≤ k.off ∧ k.off < 0x80EC0 ∧ k.off % 8 = 0 then some (s.userWord (k.off - 0x80800)) else none)
  else s.word64 x k

/-- The low register of a pair, its high one 4 bytes on. Every adjacent pair of names in _LO and _HI is one (DESIGN CHOICE,
log entry 59). -/
def pairLow (k : RegKey) : Bool :=
  match k.ty with
  | 0 =>
    [0x100, 0x108, 0x114, 0x444, 0x450, 0x5014, 0x5048, 0x8020, 0x8048, 0x8068].contains k.off ||
      (decide (0x1100 ≤ k.off) && decide (k.off < 0x1500) && [4, 0x10, 0x18, 0x20, 0x28].contains (k.off % 0x80)) ||
      (decide (0x8100 ≤ k.off) && decide (k.off < 0x8200) && k.off % 0x20 == 0)
  | 1 => [0xC, 0x18, 0x24, 0x2C].contains k.off
  | 4 => k.off == 0
  | 5 => k.off == 0x2C
  | 6 => k.off == 0 || k.off == 0xC
  | _ => false

/-- The register at an address, as an origin sees it; `none` for window data while no valid instance is selected (R415). -/
def State.target (s : State) (o : Origin) (a : Nat) : Option RegKey :=
  if 0xA100 ≤ a ∧ a < 0xA200 then (s.window o).map fun w => s.viewKey w.1 w.2 (a - 0xA100) else some ⟨0, 0, a⟩

/-- Whether an access of 8 bytes is one that a field map names (R336, R415). -/
def State.wideOk (s : State) (o : Origin) (a : Nat) : Bool :=
  match s.target o a with
  | none => true
  | some k => (s.wide64 (s.sel o) k).isSome || pairLow k

/-- An access of wrong size or alignment (R336). -/
def State.badAccess (s : State) (o : Origin) (a size : Nat) : Bool :=
  match size with
  | 4 => a % 4 != 0
  | 8 => a % 8 != 0 || !s.wideOk o a
  | _ => true

/-- An access that passes the host's register FIFO, until the cut (Table 14-9; the commands that count are the model's choice, log
entry 107). -/
def hostPass (o : Origin) (s : State) : State := ifThen (o == .host && s.live) (linkPass 0x6100) s

/-- A refused access: counted, and a read returns 0. -/
def refuseAccess (o : Origin) (size : Nat) (read : Bool) (s : State) : State :=
  ifThen read (emit (.readData o size 0)) (ifThen s.live (bump K.HOST_BAD 1) s)

/-- HOST_BAD. -/
def execHostBad (o : Origin) (addr size : Nat) (read : Bool) (s : State) : Res :=
  .next (if s.badAccess o addr size then refuseAccess o size read (hostPass o s) else s)

/-! ## Reads -/

/-- Registers that read their current value in BOOT (Table 12-7). -/
def bootCurrent (k : RegKey) : Bool := k.ty == 0 && [0x04, 0x08, 0x0C, 0x20, 0x100, 0x104].contains k.off

/-- The block as its registers show it in BOOT: at reset, with the hub clock in force (R361). -/
def State.resetView (s : State) : State := { State.reset with variant := s.variant, fmhz := s.fmhz }

/-- What a register shows to an origin. -/
def State.view32 (s : State) (o : Origin) (k : RegKey) : W32 :=
  let x := s.sel o
  if inUserPage k then
    (match s.wide64 x { k with off := k.off / 8 * 8 } with
     | some w => if k.off % 8 = 0 then lo32 w else hi32 w
     | none => 0)
  else if k = K.WIN_SEL then x.winSel
  else if k = K.WIN_STAT then word32 [(31, 31, b2n (s.window o).isSome), (30, 30, b2n (o == .mgmt))]
  else if s.glb.phase = .boot ∧ !bootCurrent k then s.resetView.show32 Selector.zero k
  else s.show32 x k

/-- Whether a read clears: not in BOOT, and in a fatal or stopped block only where a write would be taken (DEDUCED, log
entry 60). -/
def State.readClears (s : State) (a : Nat) : Bool := s.glb.phase != .boot && s.takesWrite a

/-- The RC fields of a register as a mask. -/
def rcMask (k : RegKey) : W32 :=
  if k.ty = 2 ∧ k.off = 4 then 0xFFFFFFFF#32
  else
    match regDesc k with
    | some d => BitVec.ofNat 32 d.rc
    | none => 0

/-- What a read that clears returns of `v`: an RC field updated in the present hub cycle shows its value before (R13). -/
def State.rcValue (s : State) (k : RegKey) (v : W32) : W32 :=
  match Tab.get none s.cyc.upd k with
  | some (old, _) => (v &&& ~~~rcMask k) ||| (old &&& rcMask k)
  | none => v

/-- The clearing of the RC fields of a register (R12); an update of the present hub cycle stays (R13). -/
def clearRc (k : RegKey) (s : State) : State :=
  let m := rcMask k
  if m = 0 then s
  else
    let part := match Tab.get none s.cyc.upd k with
      | some (_, p) => p &&& m
      | none => 0
    let s1 := if part = 0 then s else { s with cyc := { s.cyc with upd := Tab.put s.cyc.upd k (some (0, part)) } }
    if k.ty = 2 then
      let c := k.idx / 2 ^ 16
      let t := k.idx % 2 ^ 16
      s1.setTemplate c t { s1.template c t with busyCount := part.toNat }
    else s1.setReg k ((s1.reg k &&& ~~~m) ||| part)

def setLatch (o : Origin) (l : Option (RegKey × W32)) (s : State) : State := s.setSel o { s.sel o with latch := l }

/-- A read of 4 bytes: a latched high half, or the current value; a low half latches the high one of the same moment. -/
def read4 (o : Origin) (a : Nat) (s : State) : W32 × State :=
  match s.target o a with
  | none => (0, s)
  | some k =>
    match (s.sel o).latch with
    | some (j, w) =>
      if j = k then (w, setLatch o none s) else readNow k
    | none => readNow k
where
  readNow (k : RegKey) : W32 × State :=
    let hi : RegKey := { k with off := k.off + 4 }
    let low := (s.wide64 (s.sel o) k).isSome || pairLow k
    let s1 := if low then setLatch o (some (hi, s.view32 o hi)) s else s
    if s.readClears a then (s.rcValue k (s.view32 o k), clearRc k s1) else (s.view32 o k, s1)

/-- The latch after a read of 8 bytes: one of the same word is released, since its high half has been read (R417). -/
def releaseHigh (o : Origin) (a : Nat) (s : State) : State :=
  match s.target o a, (s.sel o).latch with
  | some k, some (j, _) => if j = { k with off := k.off + 4 } then setLatch o none s else s
  | _, _ => s

/-- A read of 8 bytes. -/
def read8 (o : Origin) (a : Nat) (s : State) : Word :=
  match s.target o a with
  | none => 0
  | some k => join32 (s.view32 o k) (s.view32 o { k with off := k.off + 4 })

/-- A read of the register window. -/
def readReg (o : Origin) (a size : Nat) (s : State) : State :=
  if s.badAccess o a size then refuseAccess o size true s
  else if size = 8 then emit (.readData o 8 (read8 o a s)) (releaseHigh o a s)
  else
    let (v, s1) := read4 o a s
    emit (.readData o 4 (BitVec.ofNat 64 v.toNat)) s1

/-- RC_READ: a read of a register; its RC fields are cleared. -/
def execRcRead (o : Origin) (addr size : Nat) (s : State) : Res := .next (readReg o addr size (hostPass o s))

/-! ## Selectors (R413 to R416) -/

/-- A write of WIN_SEL: it clears the origin's latch. -/
def winSelWrite (o : Origin) (v : W32) (s : State) : State :=
  s.setSel o { s.sel o with winSel := v &&& 0xF0FFFFFF#32, latch := none }

def execWinSel (o : Origin) (v : W32) (s : State) : Res := .next (gated 0xA000 (winSelWrite o v) s)

/-- The latch after a write of an inner selector of a type. -/
def Selector.released (x : Selector) (ty : Nat) : Option (RegKey × W32) :=
  match x.latch with
  | some (k, w) => if k.ty = ty then none else some (k, w)
  | none => none

def innerWrite (o : Origin) (ty : Nat) (f : Selector → Selector) (s : State) : State :=
  s.setSel o (f { s.sel o with latch := (s.sel o).released ty })

/-! ## Interrupt enables (R420, R421) -/

/-- A write of IRQ_EN: a cause that stands and is newly enabled requests its vector once, one message for a vector. -/
def irqEnWrite (v : W32) (s : State) : State :=
  let s1 := plainWrite K.IRQ_EN v s
  let fresh := (List.range 7).filter fun c => bit v c && !s.flag K.IRQ_EN c && s.flag K.IRQ_CAUSE c
  let err := fresh.contains 0
  let vs := ((fresh.filter fun c => c != 0).map s1.causeVec).eraseDups.filter fun x =>
    !(err && s.glb.errHoldoff.isNone && x == s1.causeVec 0)
  vs.foldl (fun t x => msix x t) (ifThen err errVector s1)

def execIrqEn (v : W32) (s : State) : Res := .next (gated 0x48 (irqEnWrite v) s)

/-! ## The error injector (R422 to R424) -/

/-- A unit code of GBL_STAT BIST_UNIT that names a present unit. -/
def State.unitCodeOk (s : State) (u : Nat) : Bool :=
  decide (1 ≤ u) && decide (u ≤ 0x1B) && (decide (u ≤ s.shards) || decide (0x11 ≤ u)) && (s.isG4 || u != uFabric)

/-- A FIFO of Table 13-3 that is present. -/
def State.fifoOk (s : State) (f : Nat) : Bool :=
  let c := f % 256
  match f / 2 ^ 12 with
  | 6 =>
    (match f / 256 % 16 with
     | 0 | 1 => decide (c < 2)
     | 2 => s.isG4 && decide (c < 4)
     | 3 => decide (c < 4)
     | _ => false)
  | n => decide (n < 6) && decide (f % 2 ^ 12 < 1152)

/-- A write of TST_INJ. -/
def tstInjWrite (v : W32) (s : State) : State :=
  let kind := bits v 23 21
  let unit := bits v 20 15
  let fifo := s.fld K.TST_FIFO 15 0
  if s.glb.initDone && s.flag K.TST_CFG 0 && bits v 31 24 == 0xC3 && s.glb.inj.isNone then
    if 1 ≤ kind ∧ kind ≤ 3 ∧ s.unitCodeOk unit then { s with glb := { s.glb with inj := some (kind, unit) } }
    else if kind = 4 ∧ s.fifoOk fifo then { s with glb := { s.glb with inj := some (4, fifo) } }
    else s
  else s

/-- A write of TST_INJ that arms nothing is discarded, in BOOT too, without counting (R423). -/
def tstInjTake (v : W32) (s : State) : State := if s.takesWrite 0x9014 then tstInjWrite v s else s

def execTstInj (v : W32) (s : State) : Res := .next (tstInjTake v s)

/-- The injection's count, and PENDING 0. -/
def injected (s : State) : State :=
  let n := (s.fld K.TST_STAT 15 0 + 1) % 65536
  { s.setFld K.TST_STAT 15 0 n with glb := { s.glb with inj := none } }

/-- INJECTION_APPLY: the target's next SRAM read or pointer comparison. The word hit is a free value (log entry 6). -/
def injectionApply (s : State) : State :=
  match s.glb.inj with
  | none => s
  | some (kind, t) =>
    let s1 := injected s
    if kind = 4 then fifoReset t [] s1
    else
      let x := Config.injectedWord s.free
      sramRead t (sramDetail (bits x 63 56) (bits x 31 0)) kind { s1 with free := s.free + 1 }

def execInjectionApply (s : State) : Res := .next (if s.live then injectionApply s else s)

/-! ## Writes -/

/-- The state after a meaning that is carried out as part of a register write. -/
def took (r : Res) (s : State) : State :=
  match r with
  | .next t => t
  | _ => s

/-- A write of RST_CTRL of any kind. -/
def rstWrite (v : W32) (s : State) : State :=
  match bits v 23 22 with
  | 1 => took (execEngineReset v s) s
  | 2 => took (execBlockReset (.write v) s) s
  | k => resetWrite k v id s

/-- A write of FE_CANCEL of any kind. -/
def feCancelWrite (v : W32) (s : State) : State :=
  match bits v 31 30 with
  | 0 => took (execFeCancelLaunch v s) s
  | 1 => took (execFeCancelEntry v s) s
  | 2 => took (execFeCancelRing v s) s
  | _ => hostWrite id s

/-- A write of SYN_CMD of any command. -/
def synCmdWrite (v : W32) (s : State) : State :=
  match bits v 31 30 with
  | 1 => took (execSynCreate v s) s
  | 2 => took (execSynDestroy v s) s
  | 3 => took (execSynReinit v s) s
  | _ => hostWrite id s

/-- A write of CTX_CMD of any command. -/
def ctxCmdWrite (o : Origin) (v : W32) (s : State) : State :=
  match bits v 31 29 with
  | 1 => took (execCtxSave o v s) s
  | 2 => took (execCtxRestore o v s) s
  | 3 => took (execCtxReset o v s) s
  | 4 => took (execCtxInit o v s) s
  | _ => hostWrite id s

/-- RING_CSN_NEXT given a new value (R188). -/
def csnNextWrite (r v : Nat) (s : State) : State :=
  let x := s.ring r
  if s.ringLocked r || (decide (v < x.csnNext) && !x.fresh) then s else s.setRing r { x with csnNext := v }

/-- A write of a register whose fields only hold what is written, as the phase and the block's state take it. -/
def plainGated (k : RegKey) (v : W32) (s : State) : State :=
  if writable k then gated (if k.ty = 0 then k.off else 0xA100) (plainWrite k v) s else s

/-- A write of one of a ring's registers. -/
def ringWrite (r p : Nat) (v : W32) (s : State) : State :=
  let c := (s.ring r).csnNext
  match p with
  | 0x00 => took (execRingCtrlEnableWrite r v s) s
  | 0x20 => gated 0x1100 (csnNextWrite r (c / 2 ^ 32 * 2 ^ 32 + v.toNat)) s
  | 0x24 => gated 0x1100 (csnNextWrite r (v.toNat * 2 ^ 32 + c % 2 ^ 32)) s
  | 0x30 => took (execRingDb r v s) s
  | _ => plainGated ⟨0, 0, 0x1100 + 0x80 * r + p⟩ v s

/-- A counter written whole (Table 14-6). -/
def pmcWrite (u i : Nat) (w : Word) (s : State) : State :=
  if s.unitPresent u then setPmc u i { State.pmcOf s.obs.pmc u i with count := bits w 47 0, ovf := bit w 63 } s else s

/-- The counter whose words an address lies in. -/
def pmcAt (a : Nat) : Nat × Nat := ((a - 0x8800) / 0x48, (a - 0x8800) % 0x48 / 8)

/-- One half of a counter written. -/
def pmcHalf (a : Nat) (v : W32) (s : State) : State :=
  let p := pmcAt a
  let w := (State.pmcOf s.obs.pmc p.1 p.2).toWord
  pmcWrite p.1 p.2 (if a % 8 = 0 then join32 v (hi32 w) else join32 (lo32 w) v) s

/-- A write of FRM_EPOCH or FRM_LEN: the frames are counted from them (R307). -/
def frmWrite (a : Nat) (v : W32) (s : State) : State :=
  let k : RegKey := ⟨0, 0, a⟩
  if s.locked k = 0 then resyncFrame (plainWrite k v s) else s

/-- A write of a flat register. -/
def flatWrite (a : Nat) (v : W32) (s : State) : State :=
  match a with
  | 0x00 => hostWrite (gblCtrl v) s
  | 0x2C => rstWrite v s
  | 0x48 => gated a (irqEnWrite v) s
  | 0x108 => gated a (frmWrite a v) s
  | 0x10C => gated a (frmWrite a v) s
  | 0x110 => gated a (frmWrite a v) s
  | 0x418 => gated a (errPopWrite v) s
  | 0x458 => gated a (dumpCmd v) s
  | 0x1008 => feCancelWrite v s
  | 0x500C => synCmdWrite v s
  | 0x7000 => gated a (fun s => fabFlush (plainWrite K.FAB_CFG v s)) s
  | 0x7010 => hostWrite (writeStart v) s
  | 0x8000 => gated a (obsCtrlWrite v) s
  | 0x8028 => gated a (markRecord v) s
  | 0x8040 => gated a (smpCtrlWrite v) s
  | 0x8060 => gated a (hangCtrlWrite v) s
  | 0x8080 => gated a (stopCtrlWrite v) s
  | 0x9000 => gated a (pertCtrlWrite v) s
  | 0x9014 => tstInjTake v s
  | _ =>
    if 0x1100 ≤ a ∧ a < 0x1500 then ringWrite ((a - 0x1100) / 0x80) ((a - 0x1100) % 0x80) v s
    else if 0x8800 ≤ a ∧ a < 0x8EC0 then gated a (pmcHalf a v) s
    else plainGated ⟨0, 0, a⟩ v s

/-- A write of window data of a valid instance. -/
def windowWrite (o : Origin) (ty i off : Nat) (v : W32) (s : State) : State :=
  match ty, off with
  | 1, 0x00 => took (execCtxCtrlEnableWrite o v s) s
  | 1, 0x04 => ctxCmdWrite o v s
  | 3, 0x00 => took (execShdCtrlEnableWrite o v s) s
  | 3, 0x20 => gated 0xA100 (innerWrite o 3 fun x => { x with slotSel := bits v 13 0 }) s
  | 5, 0x00 => took (execStnCtrlEnableWrite o v s) s
  | 5, 0x24 => gated 0xA100 (innerWrite o 5 fun x => { x with engSel := bits v 2 0 }) s
  | 5, 0x2C => took (execStnCtxmWrite o false v s) s
  | 5, 0x30 => took (execStnCtxmWrite o true v s) s
  | 6, 0x3C => gated 0xA100 (innerWrite o 6 fun x => { x with fldwSel := v &&& 0xCFFFFFFF#32 }) s
  | 7, 0x20 => gated 0xA100 (innerWrite o 7 fun x => { x with wtrSel := bits v 15 0 }) s
  | 8, 0x00 => if i < 256 then took (execBarCtrlEnableWrite o v s) s else took (execGrpCtrlEnableWrite o v s) s
  | 9, 0x00 => took (execQCtrlEnableWrite o v s) s
  | _, _ => plainGated (s.viewKey ty i off) v s

/-- A write of 4 bytes. -/
def write4 (o : Origin) (a : Nat) (v : W32) (s : State) : State :=
  if 0xA100 ≤ a ∧ a < 0xA200 then
    match s.window o with
    | some (ty, i) => windowWrite o ty i (a - 0xA100) v s
    | none => s
  else if a = 0xA000 then gated a (winSelWrite o v) s
  else flatWrite a v s

/-- A write of 8 bytes: a counter, RING_CSN_NEXT, or the two halves of another pair; other words of 64 bits are RO. -/
def write8 (o : Origin) (a : Nat) (w : Word) (s : State) : State :=
  if 0x8800 ≤ a ∧ a < 0x8EC0 then gated a (pmcWrite (pmcAt a).1 (pmcAt a).2 w) s
  else if 0x1100 ≤ a ∧ a < 0x1500 ∧ a % 0x80 = 0x20 then gated 0x1100 (csnNextWrite ((a - 0x1100) / 0x80) w.toNat) s
  else
    match s.target o a with
    | none => s
    | some k =>
      if !pairLow k then s
      else if s.glb.phase = .boot then plainGated k (lo32 w) s
      else write4 o (a + 4) (hi32 w) (write4 o a (lo32 w) s)

/-- A write of the register window. -/
def writeReg (o : Origin) (a size : Nat) (w : Word) (s : State) : State :=
  if s.badAccess o a size then refuseAccess o size false s
  else if size = 8 then write8 o a w s
  else write4 o a (lo32 w) s

/-- REGISTER_WRITE, of any register: those with a behaviour of their own act as their own commands do. -/
def execRegisterWrite (o : Origin) (addr size : Nat) (v : Word) (s : State) : Res := .next (writeReg o addr size v (hostPass o s))

end Sys2Proof.Machine
end

