-- ==== Sys2Proof/Machine/Dispatch.lean ====
section
/-! DEFINITION. One arm for each command: a direct call of its meaning. -/

namespace Sys2Proof.Machine

def exec (i : Instr) (s : State) : Host.Outcome State Fault Refusal :=
  match i with
  | .launch pick => Sys2Proof.Machine.execLaunch pick s
  | .launchHoldRelease ctx pick => Sys2Proof.Machine.execLaunchHoldRelease ctx pick s
  | .buildComplete ctx tid => Sys2Proof.Machine.execBuildComplete ctx tid s
  | .buildAbort ctx tid => Sys2Proof.Machine.execBuildAbort ctx tid s
  | .decArrival src dst pick => Sys2Proof.Machine.execDecArrival src dst pick s
  | .lateArrival src dst pick => Sys2Proof.Machine.execLateArrival src dst pick s
  | .sproutArrival src dst pick => Sys2Proof.Machine.execSproutArrival src dst pick s
  | .refill shard pick poison => Sys2Proof.Machine.execRefill shard pick poison s
  | .readyRingRefill ctx cls prio => Sys2Proof.Machine.execReadyRingRefill ctx cls prio s
  | .readyLinkToRing ctx cls prio => Sys2Proof.Machine.execReadyLinkToRing ctx cls prio s
  | .tokenIntake eng r => Sys2Proof.Machine.execTokenIntake eng r s
  | .walkIssue shard slot => Sys2Proof.Machine.execWalkIssue shard slot s
  | .dispatchCycle => Sys2Proof.Machine.execDispatchCycle s
  | .descriptorLand eng => Sys2Proof.Machine.execDescriptorLand eng s
  | .consumerIndexReport eng ci => Sys2Proof.Machine.execConsumerIndexReport eng ci s
  | .ackYield eng handle => Sys2Proof.Machine.execAckYield eng handle s
  | .nack eng handle => Sys2Proof.Machine.execNack eng handle s
  | .cpAck core => Sys2Proof.Machine.execCpAck core s
  | .preemptTimeout eng => Sys2Proof.Machine.execPreemptTimeout eng s
  | .cpIrqTimeout core => Sys2Proof.Machine.execCpIrqTimeout core s
  | .steepRequest core gran => Sys2Proof.Machine.execSteepRequest core gran s
  | .steepWriteAck shard slot => Sys2Proof.Machine.execSteepWriteAck shard slot s
  | .stnCtrlEnableWrite o v => Sys2Proof.Machine.execStnCtrlEnableWrite o v s
  | .stationDrainComplete core => Sys2Proof.Machine.execStationDrainComplete core s
  | .stnCtxmWrite o hi v => Sys2Proof.Machine.execStnCtxmWrite o hi v s
  | .ctxMaskApply core => Sys2Proof.Machine.execCtxMaskApply core s
  | .shdCtrlEnableWrite o v => Sys2Proof.Machine.execShdCtrlEnableWrite o v s
  | .shardDrainComplete shard => Sys2Proof.Machine.execShardDrainComplete shard s
  | .sproutRecordIntake eng r => Sys2Proof.Machine.execSproutRecordIntake eng r s
  | .sproutExpansionEntry shard => Sys2Proof.Machine.execSproutExpansionEntry shard s
  | .sproutIssue shard => Sys2Proof.Machine.execSproutIssue shard s
  | .foldContribution src unit => Sys2Proof.Machine.execFoldContribution src unit s
  | .foldSeal src unit => Sys2Proof.Machine.execFoldSeal src unit s
  | .foldWaitAdmit unit poison => Sys2Proof.Machine.execFoldWaitAdmit unit poison s
  | .combineRequestIssue unit eng k => Sys2Proof.Machine.execCombineRequestIssue unit eng k s
  | .combineAck eng r => Sys2Proof.Machine.execCombineAck eng r s
  | .ringDb ring v => Sys2Proof.Machine.execRingDb ring v s
  | .ringFetch ring => Sys2Proof.Machine.execRingFetch ring s
  | .cbStart ring => Sys2Proof.Machine.execCbStart ring s
  | .opNop => Sys2Proof.Machine.execOpNop s
  | .opWait => Sys2Proof.Machine.execOpWait s
  | .opSignal => Sys2Proof.Machine.execOpSignal s
  | .opRecord => Sys2Proof.Machine.execOpRecord s
  | .opBarrier => Sys2Proof.Machine.execOpBarrier s
  | .opCopy => Sys2Proof.Machine.execOpCopy s
  | .opWrite => Sys2Proof.Machine.execOpWrite s
  | .opHash => Sys2Proof.Machine.execOpHash s
  | .opTest => Sys2Proof.Machine.execOpTest s
  | .opLoop => Sys2Proof.Machine.execOpLoop s
  | .loopIteration ring idx => Sys2Proof.Machine.execLoopIteration ring idx s
  | .opBreak => Sys2Proof.Machine.execOpBreak s
  | .opCall => Sys2Proof.Machine.execOpCall s
  | .opLoad => Sys2Proof.Machine.execOpLoad s
  | .opPatchStructural => Sys2Proof.Machine.execOpPatchStructural s
  | .opPatchParam => Sys2Proof.Machine.execOpPatchParam s
  | .opUnload => Sys2Proof.Machine.execOpUnload s
  | .reservedOpcode => Sys2Proof.Machine.execReservedOpcode s
  | .operationReadError => Sys2Proof.Machine.execOperationReadError s
  | .dmaComplete id err hash => Sys2Proof.Machine.execDmaComplete id err hash s
  | .launchComplete ctx serial => Sys2Proof.Machine.execLaunchComplete ctx serial s
  | .launchCancelComplete ctx serial => Sys2Proof.Machine.execLaunchCancelComplete ctx serial s
  | .cbComplete ring idx => Sys2Proof.Machine.execCbComplete ring idx s
  | .msixHoldoffExpiry ring => Sys2Proof.Machine.execMsixHoldoffExpiry ring s
  | .cbTimeout ring idx => Sys2Proof.Machine.execCbTimeout ring idx s
  | .wtimeExpiry ring idx pos => Sys2Proof.Machine.execWtimeExpiry ring idx pos s
  | .feCancelLaunch v => Sys2Proof.Machine.execFeCancelLaunch v s
  | .feCancelEntry v => Sys2Proof.Machine.execFeCancelEntry v s
  | .feCancelRing v => Sys2Proof.Machine.execFeCancelRing v s
  | .ringCtrlEnableWrite ring v => Sys2Proof.Machine.execRingCtrlEnableWrite ring v s
  | .ringDrainComplete ring => Sys2Proof.Machine.execRingDrainComplete ring s
  | .ctxCtrlEnableWrite o v => Sys2Proof.Machine.execCtxCtrlEnableWrite o v s
  | .ctxPauseWrite o v => Sys2Proof.Machine.execCtxPauseWrite o v s
  | .ctxSave o v => Sys2Proof.Machine.execCtxSave o v s
  | .ctxQuiescent ctx => Sys2Proof.Machine.execCtxQuiescent ctx s
  | .ctxSaveDone ctx => Sys2Proof.Machine.execCtxSaveDone ctx s
  | .ctxRestore o v => Sys2Proof.Machine.execCtxRestore o v s
  | .ctxRestoreDone ctx => Sys2Proof.Machine.execCtxRestoreDone ctx s
  | .ctxReset o v => Sys2Proof.Machine.execCtxReset o v s
  | .ctxInit o v => Sys2Proof.Machine.execCtxInit o v s
  | .ctxDrainComplete ctx => Sys2Proof.Machine.execCtxDrainComplete ctx s
  | .ctxResetComplete ctx => Sys2Proof.Machine.execCtxResetComplete ctx s
  | .checkpointEval => Sys2Proof.Machine.execCheckpointEval s
  | .dlmFallbackStart ctx serial pick => Sys2Proof.Machine.execDlmFallbackStart ctx serial pick s
  | .synCreate v => Sys2Proof.Machine.execSynCreate v s
  | .synDestroy v => Sys2Proof.Machine.execSynDestroy v s
  | .synReinit v => Sys2Proof.Machine.execSynReinit v s
  | .engineSignal src r => Sys2Proof.Machine.execEngineSignal src r s
  | .engineWait src r => Sys2Proof.Machine.execEngineWait src r s
  | .arrive src r => Sys2Proof.Machine.execArrive src r s
  | .syncRequestBad src r => Sys2Proof.Machine.execSyncRequestBad src r s
  | .signalNotice chip src r => Sys2Proof.Machine.execSignalNotice chip src r s
  | .barCtrlEnableWrite o v => Sys2Proof.Machine.execBarCtrlEnableWrite o v s
  | .barrierDrainComplete unit => Sys2Proof.Machine.execBarrierDrainComplete unit s
  | .grpCtrlEnableWrite o v => Sys2Proof.Machine.execGrpCtrlEnableWrite o v s
  | .groupDrainComplete grp => Sys2Proof.Machine.execGroupDrainComplete grp s
  | .barArrive p => Sys2Proof.Machine.execBarArrive p s
  | .barRelease p => Sys2Proof.Machine.execBarRelease p s
  | .deadlockDeclare grp => Sys2Proof.Machine.execDeadlockDeclare grp s
  | .sendRequest src r => Sys2Proof.Machine.execSendRequest src r s
  | .sendAccept route => Sys2Proof.Machine.execSendAccept route s
  | .payloadReadComplete msg => Sys2Proof.Machine.execPayloadReadComplete msg s
  | .messageLand landing => Sys2Proof.Machine.execMessageLand landing s
  | .consumeRequest src w0 w1 => Sys2Proof.Machine.execConsumeRequest src w0 w1 s
  | .headRead core head reader => Sys2Proof.Machine.execHeadRead core head reader s
  | .headReadTimeout core head => Sys2Proof.Machine.execHeadReadTimeout core head s
  | .qCtrlEnableWrite o v => Sys2Proof.Machine.execQCtrlEnableWrite o v s
  | .qClose o v => Sys2Proof.Machine.execQClose o v s
  | .landingDrainComplete q => Sys2Proof.Machine.execLandingDrainComplete q s
  | .landingCloseComplete q => Sys2Proof.Machine.execLandingCloseComplete q s
  | .discardSinkDone msg landing => Sys2Proof.Machine.execDiscardSinkDone msg landing s
  | .routeCloseComplete q => Sys2Proof.Machine.execRouteCloseComplete q s
  | .landingFault msg landing denied => Sys2Proof.Machine.execLandingFault msg landing denied s
  | .timeExchangeStart => Sys2Proof.Machine.execTimeExchangeStart s
  | .timeReq p => Sys2Proof.Machine.execTimeReq p s
  | .timeRsp p => Sys2Proof.Machine.execTimeRsp p s
  | .frameTick => Sys2Proof.Machine.execFrameTick s
  | .arriveStart v => Sys2Proof.Machine.execArriveStart v s
  | .startArrive p => Sys2Proof.Machine.execStartArrive p s
  | .startGo p => Sys2Proof.Machine.execStartGo p s
  | .remoteDecRequest eng r => Sys2Proof.Machine.execRemoteDecRequest eng r s
  | .fabDec p => Sys2Proof.Machine.execFabDec p s
  | .orphanTimeout chip pseq => Sys2Proof.Machine.execOrphanTimeout chip pseq s
  | .fabSig p => Sys2Proof.Machine.execFabSig p s
  | .fabAck p => Sys2Proof.Machine.execFabAck p s
  | .gapTimeout chip => Sys2Proof.Machine.execGapTimeout chip s
  | .fabStop p => Sys2Proof.Machine.execFabStop p s
  | .thrReq code => Sys2Proof.Machine.execThrReq code s
  | .thrReqRelease => Sys2Proof.Machine.execThrReqRelease s
  | .coldReset => Sys2Proof.Machine.execColdReset s
  | .blockReset req => Sys2Proof.Machine.execBlockReset req s
  | .engineReset v => Sys2Proof.Machine.execEngineReset v s
  | .fifoReset fifo recs => Sys2Proof.Machine.execFifoReset fifo recs s
  | .selfInitDone bistUnit => Sys2Proof.Machine.execSelfInitDone bistUnit s
  | .initDone v => Sys2Proof.Machine.execInitDone v s
  | .gblEnable v => Sys2Proof.Machine.execGblEnable v s
  | .hostBad o addr size read => Sys2Proof.Machine.execHostBad o addr size read s
  | .stopLine => Sys2Proof.Machine.execStopLine s
  | .scrub unit array word flips => Sys2Proof.Machine.execScrub unit array word flips s
  | .errPop v => Sys2Proof.Machine.execErrPop v s
  | .errHoldoffExpiry => Sys2Proof.Machine.execErrHoldoffExpiry s
  | .dumpGo v => Sys2Proof.Machine.execDumpGo v s
  | .dumpComplete => Sys2Proof.Machine.execDumpComplete s
  | .obsSnap v => Sys2Proof.Machine.execObsSnap v s
  | .obsFrz v => Sys2Proof.Machine.execObsFrz v s
  | .counterWrap unit k n => Sys2Proof.Machine.execCounterWrap unit k n s
  | .sampleWindow => Sys2Proof.Machine.execSampleWindow s
  | .traceSend => Sys2Proof.Machine.execTraceSend s
  | .trcMark v => Sys2Proof.Machine.execTrcMark v s
  | .watch n a => Sys2Proof.Machine.execWatch n a s
  | .stopGo v => Sys2Proof.Machine.execStopGo v s
  | .stopCut => Sys2Proof.Machine.execStopCut s
  | .hangGo v => Sys2Proof.Machine.execHangGo v s
  | .hangDone => Sys2Proof.Machine.execHangDone s
  | .winSel o v => Sys2Proof.Machine.execWinSel o v s
  | .irqEn v => Sys2Proof.Machine.execIrqEn v s
  | .tstInj v => Sys2Proof.Machine.execTstInj v s
  | .injectionApply => Sys2Proof.Machine.execInjectionApply s
  | .rcRead o addr size => Sys2Proof.Machine.execRcRead o addr size s
  | .registerWrite o addr size v => Sys2Proof.Machine.execRegisterWrite o addr size v s
  | .engineResetComplete => Sys2Proof.Machine.execEngineResetComplete s
  | .sampleWriteComplete => Sys2Proof.Machine.execSampleWriteComplete s

end Sys2Proof.Machine
end

