-- ==== Sys2Proof/Machine/Lanes.lean ====
section
/-! DEFINITION. Records that wait in the inbound lanes of the engine port, as a hub cycle takes them (R340, R341; Table 12-3). -/

namespace Sys2Proof.Machine

/-- Whether a record at the head of its lane is still held: lane T behind a remote decrement and by the trace (R314, R397), lane S
behind a WAIT (R228), lane M behind a send (R276). -/
def State.laneHeld (s : State) (lane req : Nat) (x : LaneRec) : Bool :=
  match lane, x.ty with
  | 0, 1 => s.tokenHeld x.r
  | 0, 2 => s.sproutHeld x.r
  | 0, _ => s.remDecHeld req (parseRemDec req x.r)
  | 1, _ => s.syncHeld req x.r
  | _, 5 => s.sendHeld req x.r
  | _, _ => s.consumeHeld req x.r.w0

/-- A record taken off its lane. -/
def laneRun (lane req : Nat) (x : LaneRec) (s : State) : State :=
  match lane, x.ty with
  | 0, 1 => tokenRun x.r s
  | 0, 2 => sproutTake req (parseSprout x.r) s
  | 0, _ => remoteDec req (parseRemDec req x.r) s
  | 1, _ => syncRun req x.r s
  | _, 5 => sendRun req x.r s
  | _, _ => consumeRun req x.r.w0 x.r.w1 s

/-- The record at the head of a lane, if nothing holds it (DESIGN CHOICE, log entry 91: one for each lane and hub cycle). -/
def drainLane (k : Nat × Nat) (s : State) : State :=
  match s.lane k.1 k.2 with
  | [] => s
  | x :: t =>
    if s.laneHeld k.1 k.2 x then s
    else laneRun k.1 k.2 x (linkRecv (k.1 * 0x1000 + k.2) 1 { s with lanes := Tab.put s.lanes k t })

/-- The lanes that hold records in the order in which they are served: by lane, in lane M consume requests first (R294), then by
requester, which orders acceptances by source (R287). -/
def State.laneOrder (s : State) : List (Nat × Nat) :=
  let place := fun e : (Nat × Nat) × List LaneRec =>
    [e.1.1, b2n (e.1.1 == 2 && (e.2.head?.any fun x => x.ty == 5)), e.1.2]
  (((s.lanes.filter fun e => !e.2.isEmpty).foldl (fun acc e => insertBy (fun a b => decide (place a < place b)) e acc) [])).map (·.1)

/-- The heads of the lanes taken in a hub cycle. -/
def drainLanes (s : State) : State := whenRunning (fun s => s.laneOrder.foldl (fun t k => drainLane k t) s) s

end Sys2Proof.Machine
end

