-- ==== Sys2Proof/Machine/Tick.lean ====
section
/-! DEFINITION. What one hub cycle does by itself: the timebase and its slewing, the counters, the stalls, the trace budget. -/

namespace Sys2Proof.Machine

/-! ## Time (R9, R303) -/

/-- The timebase after one hub cycle: whole ns of (1000 + phase) / F_MHZ. -/
def tickTime (s : State) : State :=
  { s with hc := s.hc + 1, tb := (s.tb + (1000 + s.tbPhase) / s.fmhz) % 2 ^ 64, tbPhase := (1000 + s.tbPhase) % s.fmhz }

/-- Slewing towards the filtered offset: at most 1 ns in a span of 1,024 ns, when the timebase enters one from `before` in which no
step has been taken; the moment is a free value (log entry 6). The timebase of the master runs free (R301). -/
def slewStep (before : Nat) (s : State) : State :=
  if s.fab.slew = 0 ∨ s.isMaster = true ∨ before / 1024 = s.tb / 1024 ∨ s.fab.slewSpan = s.tb / 1024 ∨ Config.slewNow s.tb = false then s
  else
    let f := { s.fab with slewSpan := s.tb / 1024 }
    if 0 < s.fab.slew then { s with tb := (s.tb + 1) % 2 ^ 64, fab := { f with slew := s.fab.slew - 1 } }
    else { s with tb := max before (s.tb - 1), fab := { f with slew := s.fab.slew + 1 } }

/-! ## Stalls (R71, R276) -/

/-- The routes whose oldest held send waits for credit in this hub cycle. -/
def State.stalledRoutes (s : State) : List (Nat × Nat) :=
  s.queues.filterMap fun e =>
    match e.2.hold with
    | [] => none
    | h :: _ =>
      if e.2.kind == .route && e.2.state == .opened && !s.saveHeld e.2.owner &&
          (takeCredits (msLength h.r) (s.dests e.1) s).isNone then some (e.1, e.2.owner) else none

/-- The source shards with an arrival that a busy destination holds. -/
def State.stalledShards (s : State) : List Nat :=
  (List.range s.shards).filter fun sh => (s.hub.xbar.any fun x => x.src == sh && x.dst != sh) && Config.portBusy s.hc sh

def countStalls (s : State) : State :=
  let s1 := s.stalledRoutes.foldl (fun t r => pmc 19 0x31 (some r.2) 1 (bump (K.RT_STALL r.1) 1 t)) s
  let s2 := s.stalledShards.foldl (fun t sh => pmc sh 0x03 none 1 (bump (K.SHD_XSTALL sh) 1 t)) s1
  pmc 22 0x4C none (Config.creditStalls s.hc) s2

/-! ## Counters (R383 to R386) -/

/-- What an O event presents: one entry for each part of its value, with the context it belongs to. `none` for an event that
is no O event. The reads out are the payload and staging reads under way (DEDUCED, log entry 61). -/
def State.occupancy (s : State) (u e : Nat) : Option (List (Option Nat × Nat)) :=
  let ones : List Nat → List (Option Nat × Nat) := fun l => l.map fun c => (some c, 1)
  match e with
  | 0x06 => some (ones ((s.slotsWhere fun a _ v => a == u && v.state != .free).map fun x => x.2.ctx))
  | 0x07 => some (ones ((s.slotsWhere fun a _ v => a == u && v.state == .ready).map fun x => x.2.ctx))
  | 0x08 => some (ones ((s.hub.parked.filter fun p => p.shard == u && !p.inCellar).map (·.ctx)))
  | 0x16 => some [(none, Config.lanes s.hc)]
  | 0x17 => some (ones (s.hub.ready.map (·.ctx)))
  | 0x18 => some (ones ((s.hub.ready.filter fun r => decide (r.prio < 2) && s.eligible r).map (·.ctx)))
  | 0x22 => some (s.fold.flatMap fun x => x.2.groups.map fun g => (some g.ctx, g.slotsUsed.length))
  | 0x23 => some (s.fold.flatMap fun x => ones (x.2.waiting.map (·.ctx)))
  | 0x2A => some (ones (s.sync.waiters.map (·.ctx)))
  | 0x2B => some [(none, s.sync.pend.length)]
  | 0x3B => some (ones ((s.cbs.filter fun c => c.state == .running).map (·.ctx)))
  | 0x43 => some (ones (s.heldPackets.map pCtx))
  | 0x44 => some [(none, s.fab.unacked.length)]
  | 0x4A => some [(none, (s.msgs.filter fun m => !m.read).length + (s.disp.steeps.filter fun t => !t.acked).length)]
  | 0x52 => some [(none, s.obs.trace.length)]
  | _ => none

/-- The unit of Table 14-1 whose event an occupancy code is; shards have one set each. -/
def occUnit (u e : Nat) : Bool :=
  match e / 8 with
  | 0 | 1 => decide (u < 16)
  | 2 | 3 => u == 16
  | 4 => u == 17
  | 5 => u == 18
  | 7 => u == 20
  | 8 => u == 21
  | 9 => u == 22
  | 10 => u == 23
  | _ => false

/-- What a counter adds in this hub cycle (Table 14-2), and whether its value exceeded THRESH. -/
def State.counterStep (s : State) (u k : Nat) : Nat × Bool :=
  let cfg := s.reg (K.PMC_CFG u k)
  let flt := s.reg (K.PMC_FLT u k)
  let e := bits cfg 27 20
  let mode := bits cfg 29 28
  let ctxOk := fun c : Option Nat => !bit cfg 19 || c == some (bits cfg 18 13)
  let level := mode == 1 || mode == 3
  let tagsOk := fun l o : Option Nat =>
    level || ((!bit cfg 12 || l == some (bits flt 31 16)) && (!bit cfg 11 || o == some (bits flt 15 0)))
  let occ := if occUnit u e then s.occupancy u e else none
  let value :=
    match occ with
    | some parts => ((parts.filter fun p => ctxOk p.1 && tagsOk none none).map (·.2)).sum
    | none => ((s.obs.now.filter fun v => v.unit == u && v.code == e && ctxOk v.ctx && tagsOk v.layer v.op).map (·.n)).sum
  let past := decide (flt.toNat < value)
  let was := (State.pmcOf s.obs.pmc u (k + 1)).above
  if !bit cfg 31 || e == 0 then (0, past)
  else
    match mode with
    | 0 => (if occ.isSome then 0 else value, past)
    | 1 => (b2n past, past)
    | 2 => (value, past)
    | _ => (b2n (past && !was), past)

/-- One programmable counter in this hub cycle: a frozen one, or one with EN 0, only keeps whether the value exceeded THRESH, for the
next cycle's EDGE (R385). An overflow may ask for a freeze (R388). -/
def countOne (u : Nat) (s : State) (k : Nat) : State :=
  let r := s.counterStep u k
  let n := if s.frozen u then 0 else r.1
  let frz := s.pmcPasses u (k + 1) n && bit (s.pmcCfg u (k + 1)) 9
  let s1 := ifThen frz freezeNext (if n = 0 then s else pmcAdd u (k + 1) n s)
  let p := State.pmcOf s1.obs.pmc u (k + 1)
  if p.above = r.2 then s1 else setPmc u (k + 1) { p with above := r.2 } s1

/-- The counters of a unit that is present. -/
def countUnit (s : State) (u : Nat) : State :=
  if !s.unitPresent u then s
  else (List.range 8).foldl (countOne u) (if s.frozen u then s else pmcAdd u 0 1 s)

/-- The counters of every unit; a freeze that an overflow asks for acts on the next hub cycle. -/
def countAll (s : State) : State :=
  let s1 := (List.range 24).foldl countUnit s
  if s1.obs.frzNext then freezeAll { s1 with obs := { s1.obs with frzNext := false } } else s1

/-- The end of a hub cycle at the observation unit: its events are counted, the L2 intake is free again, and the L1 budget
gains 3 records per 100 hc, one at a time (R396, R397). -/
def endCycle (s : State) : State :=
  let b := s.obs.budgetHc + 3
  let full := decide (100 ≤ b)
  { s with obs := { s.obs with
      now := [], l2Now := 0, budgetHc := if full then b - 100 else b
      budget := if full then min (s.obs.budget + 1) 64 else s.obs.budget } }

/-! ## The cycle -/

/-- What happens as the next hub cycle begins: records that wait in lanes and announcements that wait for the pending-signal table
are taken (R340, R224), and a time exchange that has had no answer for 8 periods costs LOCKED (R304). -/
def beginCycle (s : State) : State := checkResponse (drainAnns (drainLanes s))

/-- Nothing has happened yet in the hub cycle that begins. -/
def freshCycle (s : State) : State := { s with cyc := { Cyc.empty with reqBase := s.reqs.length } }

/-- One hub cycle: in a fatal or stopped block only time passes (R368, R404). -/
def tick (s : State) : State :=
  if s.live then
    beginCycle (freshCycle (slewStep s.tb (tickTime (endCycle (countAll (watchAll (dldCycle (countStalls s))))))))
  else freshCycle (tickTime s)

end Sys2Proof.Machine
end

