-- ==== Sys2Proof/Safety.lean ====
section
/-! DEFINITION. What a safe run is, in the terms that claims use. -/

namespace Sys2Proof

open Machine

/-- A step that neither faults nor is refused. -/
def Answers (s : State) : Prop := ∃ t, step s = .next t

/-- The invariant of the block's memory: it stands in its canonical form. -/
def MemInv (s : State) : Prop := Mem.wf s.mem = true

end Sys2Proof
end

