-- ==== Sys2Proof/WellFormed.lean ====
section
/-! DEFINITION. Which commands can be sent: every operand within the range that its field has in the spec. The meanings do
not rest on it: a command that names no unit of the block changes nothing. -/

namespace Sys2Proof

def isCtx (n : Nat) : Bool := decide (n < 64)
def isShard (n : Nat) : Bool := decide (n < 16)
def isSlot (n : Nat) : Bool := decide (n < 16384)
def isEngine (n : Nat) : Bool := decide (n < 1024)
def isCore (n : Nat) : Bool := decide (n < 128)
def isRing (n : Nat) : Bool := decide (n < 8)
def isSerial (n : Nat) : Bool := decide (n < 2 ^ 20)
def isQueue (n : Nat) : Bool := decide (n < 65536)
def isFold (n : Nat) : Bool := decide (n < 4)
def isChip (n : Nat) : Bool := decide (n < 1024)
def isTid (n : Nat) : Bool := decide (n < 65536)
def isIdx (n : Nat) : Bool := decide (n < 2 ^ 32)
/-- Source of a crossbar path (R55): a shard, a fold unit (16 to 19) or the fabric port (20). -/
def isSrc (n : Nat) : Bool := decide (n < 21)
/-- A requester of the engine port: a global engine, or 1,024 + core (Table 13-3). -/
def isReq (n : Nat) : Bool := decide (n < 1152)
/-- An offset of the 1 MiB register window. -/
def isOffset (n : Nat) : Bool := decide (n < 2 ^ 20)

/-- Every operand within its range. -/
def Instr.wf : Instr → Bool
  | .launch pick => isSlot pick
  | .launchHoldRelease ctx pick => isCtx ctx && isSlot pick
  | .buildComplete ctx tid => isCtx ctx && isTid tid
  | .buildAbort ctx tid => isCtx ctx && isTid tid
  | .decArrival src dst pick => isSrc src && isShard dst && isSlot pick
  | .lateArrival src dst pick => isSrc src && isShard dst && isSlot pick
  | .sproutArrival src dst pick => isSrc src && isShard dst && isSlot pick
  | .refill shard pick _ => isShard shard && isSlot pick
  | .readyRingRefill ctx cls prio => isCtx ctx && decide (cls < 5) && decide (prio < 8)
  | .readyLinkToRing ctx cls prio => isCtx ctx && decide (cls < 5) && decide (prio < 8)
  | .tokenIntake eng _ => isEngine eng
  | .walkIssue shard slot => isShard shard && isSlot slot
  | .dispatchCycle => true
  | .descriptorLand eng => isEngine eng
  | .consumerIndexReport eng ci => isEngine eng && decide (ci < 128)
  | .ackYield eng _ => isEngine eng
  | .nack eng _ => isEngine eng
  | .cpAck core => isCore core
  | .preemptTimeout eng => isEngine eng
  | .cpIrqTimeout core => isCore core
  | .steepRequest core gran => isCore core && isSlot gran
  | .steepWriteAck shard slot => isShard shard && isSlot slot
  | .stnCtrlEnableWrite _ _ => true
  | .stationDrainComplete core => isCore core
  | .stnCtxmWrite _ _ _ => true
  | .ctxMaskApply core => isCore core
  | .shdCtrlEnableWrite _ _ => true
  | .shardDrainComplete shard => isShard shard
  | .sproutRecordIntake eng _ => isEngine eng
  | .sproutExpansionEntry shard => isShard shard
  | .sproutIssue shard => isShard shard
  | .foldContribution src unit => isSrc src && isFold unit
  | .foldSeal src unit => isSrc src && isFold unit
  | .foldWaitAdmit unit _ => isFold unit
  | .combineRequestIssue unit eng _ => isFold unit && isEngine eng
  | .combineAck eng _ => isEngine eng
  | .ringDb ring _ => isRing ring
  | .ringFetch ring => isRing ring
  | .cbStart ring => isRing ring
  | .opNop => true
  | .opWait => true
  | .opSignal => true
  | .opRecord => true
  | .opBarrier => true
  | .opCopy => true
  | .opWrite => true
  | .opHash => true
  | .opTest => true
  | .opLoop => true
  | .loopIteration ring idx => isRing ring && isIdx idx
  | .opBreak => true
  | .opCall => true
  | .opLoad => true
  | .opPatchStructural => true
  | .opPatchParam => true
  | .opUnload => true
  | .reservedOpcode => true
  | .operationReadError => true
  | .dmaComplete _ _ _ => true
  | .launchComplete ctx serial => isCtx ctx && isSerial serial
  | .launchCancelComplete ctx serial => isCtx ctx && isSerial serial
  | .cbComplete ring idx => isRing ring && isIdx idx
  | .msixHoldoffExpiry ring => isRing ring
  | .cbTimeout ring idx => isRing ring && isIdx idx
  | .wtimeExpiry ring idx _ => isRing ring && isIdx idx
  | .feCancelLaunch _ => true
  | .feCancelEntry _ => true
  | .feCancelRing _ => true
  | .ringCtrlEnableWrite ring _ => isRing ring
  | .ringDrainComplete ring => isRing ring
  | .ctxCtrlEnableWrite _ _ => true
  | .ctxPauseWrite _ _ => true
  | .ctxSave _ _ => true
  | .ctxQuiescent ctx => isCtx ctx
  | .ctxSaveDone ctx => isCtx ctx
  | .ctxRestore _ _ => true
  | .ctxRestoreDone ctx => isCtx ctx
  | .ctxReset _ _ => true
  | .ctxInit _ _ => true
  | .ctxDrainComplete ctx => isCtx ctx
  | .ctxResetComplete ctx => isCtx ctx
  | .checkpointEval => true
  | .dlmFallbackStart ctx serial pick => isCtx ctx && isSerial serial && isSlot pick
  | .synCreate _ => true
  | .synDestroy _ => true
  | .synReinit _ => true
  | .engineSignal src _ => isReq src
  | .engineWait src _ => isReq src
  | .arrive src _ => isReq src
  | .syncRequestBad src _ => isReq src
  | .signalNotice chip src _ => isChip chip && isReq src
  | .barCtrlEnableWrite _ _ => true
  | .barrierDrainComplete unit => decide (unit < 64)
  | .grpCtrlEnableWrite _ _ => true
  | .groupDrainComplete grp => decide (grp < 256)
  | .barArrive _ => true
  | .barRelease _ => true
  | .deadlockDeclare grp => decide (grp < 16)
  | .sendRequest src _ => isReq src
  | .sendAccept route => isQueue route
  | .payloadReadComplete _ => true
  | .messageLand landing => isQueue landing
  | .consumeRequest src _ _ => isReq src
  | .headRead core head reader => isCore core && decide (head < 32) && isReq reader
  | .headReadTimeout core head => isCore core && decide (head < 32)
  | .qCtrlEnableWrite _ _ => true
  | .qClose _ _ => true
  | .landingDrainComplete q => isQueue q
  | .landingCloseComplete q => isQueue q
  | .discardSinkDone _ landing => isQueue landing
  | .routeCloseComplete q => isQueue q
  | .landingFault _ landing _ => isQueue landing
  | .timeExchangeStart => true
  | .timeReq _ => true
  | .timeRsp _ => true
  | .frameTick => true
  | .arriveStart _ => true
  | .startArrive _ => true
  | .startGo _ => true
  | .remoteDecRequest eng _ => isEngine eng
  | .fabDec _ => true
  | .orphanTimeout chip pseq => isChip chip && decide (pseq < 2 ^ 18)
  | .fabSig _ => true
  | .fabAck _ => true
  | .gapTimeout chip => isChip chip
  | .fabStop _ => true
  | .thrReq code => decide (10 ≤ code) && decide (code ≤ 15)
  | .thrReqRelease => true
  | .coldReset => true
  | .blockReset _ => true
  | .engineReset _ => true
  | .fifoReset fifo recs => decide (fifo < 0x7000) && decide (recs.length < 2 ^ 32)
  | .selfInitDone bistUnit => decide (bistUnit ≤ 0x1B)
  | .initDone _ => true
  | .gblEnable _ => true
  | .hostBad _ addr _ _ => isOffset addr
  | .stopLine => true
  | .scrub unit array _ flips => decide (1 ≤ unit) && decide (unit ≤ 0x1B) && decide (array < 256) && decide (flips ≤ 3)
  | .errPop _ => true
  | .errHoldoffExpiry => true
  | .dumpGo _ => true
  | .dumpComplete => true
  | .obsSnap _ => true
  | .obsFrz _ => true
  | .counterWrap unit k n => decide (unit < 24) && decide (k < 9) && decide (0 < n)
  | .sampleWindow => true
  | .traceSend => true
  | .trcMark _ => true
  | .watch n a => decide (n < 8) && decide (a.cls < 5)
  | .stopGo _ => true
  | .stopCut => true
  | .hangGo _ => true
  | .hangDone => true
  | .winSel _ _ => true
  | .irqEn _ => true
  | .tstInj _ => true
  | .injectionApply => true
  | .rcRead _ addr size => isOffset addr && (size == 4 || size == 8)
  | .registerWrite _ addr size _ => isOffset addr && (size == 4 || size == 8)
  | .engineResetComplete => true
  | .sampleWriteComplete => true

end Sys2Proof
end

