-- ==== Sys2Proof/Certificates/Slice0/Obligations.lean ====
section
/-! DEFINITION. The statements for the provers, family by family of the command table, over the model's own `exec` and `step`.
A statement's docstring names the rules it rests on; where a clause is the model's choice it names the log entry. -/

open Sys2Proof Sys2Proof.Machine

/-! ## Words that the statements share -/

namespace Sys2Proof.Claims

/-- The operations that a command buffer has started have earlier positions than the next one. -/
def SeqOk (c : Cb) : Prop := ∀ i ∈ c.insts, i.pos < c.nextPos

/-- No operation of a command buffer that is still open waits for the status of another one (a TEST with SRC LAST can). -/
def NoneWaits (c : Cb) : Prop := ∀ i ∈ c.insts, i.waitFor.isSome = true → i.isOpen = false

/-- Of every command buffer. -/
def SeqInv (s : State) : Prop := ∀ c ∈ s.cbs, SeqOk c

/-- The next operation that starts is `m`, of command buffer `c`, the one that stands under its ring and index. -/
def Starting (s : State) (c : Cb) (m : Rec4) : Prop :=
  s.running = true ∧ SeqInv s ∧ s.nextOp = some (c, m) ∧ s.cb? c.ring c.idx = some c

/-- The operation that `c` started next stands in `t` at its position, and satisfies `P`. -/
def OpAt (t : State) (c : Cb) (P : OpInst → Prop) : Prop :=
  ∃ d i, t.cb? c.ring c.idx = some d ∧ d.nextPos = c.nextPos + 1 ∧ d.inst? c.nextPos = some i ∧ P i

/-- The command buffer `c` as it stands in `t`. -/
def CbAt (t : State) (c : Cb) (P : Cb → Prop) : Prop := ∃ d, t.cb? c.ring c.idx = some d ∧ P d

/-- Memory reads as before, byte by byte. -/
def SameMem (s t : State) : Prop := ∀ a, t.byteAt a = s.byteAt a

/-- Memory outside `n` bytes at `a` reads as before. -/
def SameMemBut (s t : State) (a n : Nat) : Prop := ∀ b, b < a ∨ a + n ≤ b → t.byteAt b = s.byteAt b

/-- Every register bank but those listed reads as before. -/
def SameRegsBut (s t : State) (ks : List RegKey) : Prop := ∀ k, k ∉ ks → t.reg k = s.reg k

/-- What tracing and perturbation count on the way. -/
def sideKeys : List RegKey := [K.TRC_LOST, K.PERT_CNT]

/-- What a CONTAINED report counts and sets (R366, R367, R420). -/
def errKeys : List RegKey := [K.ERR_CONT, K.ERR_LOST, K.IRQ_CAUSE]

/-- An arrival of this kind heads the path from `src` to `dst`. -/
def Heads (s : State) (src dst : Nat) (a : Arrival) : Prop :=
  ∃ p, s.hub.xbar.find? (·.onPath src dst) = some ⟨src, dst, a, p⟩

/-- The command of an arrival's kind. -/
def arrivalCmd (k : ArrKind) (src dst pick : Nat) : Instr :=
  match k with
  | .late => .lateArrival src dst pick
  | .sprout => .sproutArrival src dst pick
  | _ => .decArrival src dst pick

end Sys2Proof.Claims

open Sys2Proof.Claims

/-! ## The step -/

/-- A step carries out the command at the front of the queue on the state with the queue's rest. -/
def Obligations.StepRunsTheFrontCommand : Prop :=
  ∀ (c : Instr) (rest : List Instr) (s : State),
    Sys2Proof.Machine.step { s with pending := c :: rest } = Sys2Proof.Machine.exec c { s with pending := rest }

/-- On an empty queue one hub cycle passes (the model's choice, log entry 2): the hub clock advances by 1. Where no record waits in
an inbound lane and no announcement waits for the pending-signal table (log entries 91 and 100), nothing of the hub, the fold units,
the front end, the contexts, the sync unit or the channels moves, no memory and no template: only the time, the counts and marks of
the observation unit and of the deadlock detector, the time exchange and what they report change. With no access for a watchpoint
(R401) and without LOCKED (R304) the global state stays as well. -/
def Obligations.EmptyQueuePassesOneHubCycle : Prop :=
  ∀ s : State, s.pending = [] →
    ∃ t, Sys2Proof.Machine.step s = .next t ∧ t.hc = s.hc + 1 ∧
      ((∀ e ∈ s.lanes, e.2 = []) → (∀ p ∈ s.fab.hold, isAnn p = false) →
        t = { s with hc := s.hc + 1, tb := t.tb, tbPhase := t.tbPhase, free := t.free, regs := t.regs, glb := t.glb, fab := t.fab,
                     sync := { s.sync with dldTicks := t.sync.dldTicks }, obs := t.obs, out := t.out, cyc := t.cyc } ∧
        t.fab.hold = s.fab.hold ∧ t.fab.orphans = s.fab.orphans ∧ t.fab.gaps = s.fab.gaps ∧ t.fab.rxSeq = s.fab.rxSeq ∧
        (s.accesses = [] → s.fab.locked = false → t.glb = s.glb ∧ t.free = s.free))

/-! ## Launches and templates -/

/-- R31: a LAUNCH that names a template with no CURRENT version completes UNSUPPORTED, one that would take LAUNCHES above 1,048,575
completes VERSION_BUSY, and neither pins anything. -/
def Obligations.LaunchWithoutVersionPinsNothing : Prop :=
  ∀ (s : State) (c : Cb) (m : Rec4) (pick : Nat), Starting s c m → opOPC m = 0x01 → c.skips m = false →
    s.serialBusy c.ctx = false → (∀ h ∈ s.heldLaunches, h.ctx ≠ c.ctx) →
    ((s.template c.ctx (opTID m)).current = none →
      ∃ t, Sys2Proof.Machine.exec (.launch pick) s = .next t ∧ OpAt t c (fun i => i.status = some stUNSUPPORTED) ∧
        t.templates = s.templates ∧ t.launches = s.launches) ∧
    (∀ k, (s.template c.ctx (opTID m)).current = some k → 1048575 ≤ (s.vslot c.ctx (opTID m) k).launches →
      ∃ t, Sys2Proof.Machine.exec (.launch pick) s = .next t ∧ OpAt t c (fun i => i.status = some stVERSION_BUSY) ∧
        (∀ j, t.vslot c.ctx (opTID m) j = s.vslot c.ctx (opTID m) j) ∧ t.launches = s.launches)

/-- R26: a LAUNCH that nothing holds pins the CURRENT version, captures its parameter words, takes the context's serial and enters
flight with them. -/
def Obligations.LaunchPinsAndEntersFlight : Prop :=
  ∀ (s : State) (c : Cb) (m : Rec4) (pick k : Nat) (ps : List Word), Starting s c m → opOPC m = 0x01 → c.skips m = false →
    s.serialBusy c.ctx = false → (∀ h ∈ s.heldLaunches, h.ctx ≠ c.ctx) →
    (s.template c.ctx (opTID m)).current = some k → (s.vslot c.ctx (opTID m) k).launches < 1048575 →
    s.captured c.ctx (opTID m) (bits m.w2 47 0) = some ps →
    ∃ t l, Sys2Proof.Machine.exec (.launch pick) s = .next t ∧ t.launch? c.ctx (s.serialNext c.ctx) = some l ∧
      l.template = opTID m ∧ l.vslot = k ∧ l.version = (s.vslot c.ctx (opTID m) k).version ∧ l.params = ps ∧
      l.prio = opPRIO m ∧ l.pinStamp = s.tb ∧
      (t.vslot c.ctx (opTID m) k).launches = (s.vslot c.ctx (opTID m) k).launches + 1 ∧
      t.fld (K.CTX_SERIAL c.ctx) 19 0 = (s.serialNext c.ctx + 1) % 2 ^ 20

/-- R28: a LAUNCH whose serial, or launch record, belongs to a launch in flight is held, in order, and changes nothing else of the
launches; the release gives the first held LAUNCH of a context the steps of R26. -/
def Obligations.LaunchHeldWhileSerialInFlight : Prop :=
  (∀ (s : State) (c : Cb) (m : Rec4) (pick : Nat), Starting s c m → opOPC m = 0x01 → c.skips m = false →
    s.serialBusy c.ctx = true →
    ∃ t, Sys2Proof.Machine.exec (.launch pick) s = .next t ∧
      t.heldLaunches = s.heldLaunches ++ [⟨c.ctx, c.ring, c.idx, c.nextPos, m⟩] ∧ t.launches = s.launches ∧
      t.templates = s.templates ∧ OpAt t c (fun i => i.status = none ∧ i.held = true)) ∧
  (∀ (s : State) (ctx pick : Nat), s.running = true → s.serialBusy ctx = true →
    Sys2Proof.Machine.exec (.launchHoldRelease ctx pick) s = .next s) ∧
  (∀ (s : State) (ctx pick k : Nat) (h : HeldLaunch) (ps : List Word), s.running = true → s.serialBusy ctx = false →
    s.heldLaunches.find? (fun h => h.ctx == ctx) = some h →
    (s.template ctx (opTID h.m)).current = some k → (s.vslot ctx (opTID h.m) k).launches < 1048575 →
    s.captured ctx (opTID h.m) (bits h.m.w2 47 0) = some ps →
    ∃ t l, Sys2Proof.Machine.exec (.launchHoldRelease ctx pick) s = .next t ∧
      t.heldLaunches = dropFirst (fun h => h.ctx == ctx) s.heldLaunches ∧ t.launch? ctx (s.serialNext ctx) = some l ∧
      l.template = opTID h.m ∧ l.vslot = k ∧ l.params = ps)

/-- R45 and Table 01-8: a build that completes makes its version CURRENT, with its image and its pages; the version before it is
RETIRING when its LAUNCHES is above 0, with its count and its image kept, and FREE otherwise; every other version slot stays. Only
the store's pages of the build and the template's directory entry are written (where the directory entry lies and what it holds is
the model's choice, log entry 95). A page that cannot be written is a data error of the build. A build that is aborted frees its
slot, which keeps no page. -/
def Obligations.BuildEndsAsItsEndSays : Prop :=
  ∀ (s : State) (ctx tid : Nat) (b : Build), s.running = true → (s.template ctx tid).build = some b →
    b.slot < 4 → (s.template ctx tid).slots.length = 4 → ((s.template ctx tid).slot b.slot).state = .building →
    (b.abort = none → s.buildBad ctx tid b.slot = none →
      ∃ t, Sys2Proof.Machine.exec (.buildComplete ctx tid) s = .next t ∧ (t.template ctx tid).build = none ∧
        t.vslot ctx tid b.slot = { s.vslot ctx tid b.slot with state := .current } ∧
        (∀ k, (s.template ctx tid).current = some k → 0 < (s.vslot ctx tid k).launches →
          t.vslot ctx tid k = { s.vslot ctx tid k with state := .retiring }) ∧
        (∀ k, (s.template ctx tid).current = some k → (s.vslot ctx tid k).launches = 0 →
          (t.vslot ctx tid k).state = .free ∧ (t.vslot ctx tid k).pages = []) ∧
        (∀ k, k ≠ b.slot → (s.template ctx tid).current ≠ some k → t.vslot ctx tid k = s.vslot ctx tid k) ∧
        (∀ a, (∀ w ∈ s.buildWrites ctx tid b.slot, a < w.1 ∨ w.1 + 8 * w.2.length ≤ a) → t.byteAt a = s.byteAt a) ∧
        t.launches = s.launches ∧ t.regs = s.regs) ∧
    (∀ a, b.abort = none → s.buildBad ctx tid b.slot = some a →
      ∃ t, Sys2Proof.Machine.exec (.buildComplete ctx tid) s = .next t ∧
        (t.template ctx tid).build = some { b with abort := some (1, 5) } ∧ (∀ k, t.vslot ctx tid k = s.vslot ctx tid k) ∧
        t.reg K.ERR_CONT = BitVec.ofNat 32 (countTo 32 ((s.reg K.ERR_CONT).toNat + 1)) ∧ SameRegsBut s t errKeys ∧
        t.launches = s.launches ∧ SameMem s t) ∧
    (b.abort.isSome = true →
      ∃ t, Sys2Proof.Machine.exec (.buildAbort ctx tid) s = .next t ∧ (t.template ctx tid).build = none ∧
        (t.vslot ctx tid b.slot).state = .free ∧ (t.vslot ctx tid b.slot).pages = [] ∧
        (∀ k, k ≠ b.slot → t.vslot ctx tid k = s.vslot ctx tid k) ∧ t.launches = s.launches ∧ SameMem s t ∧ t.regs = s.regs)

/-- R44: a parameter patch rewrites the default parameter block in place and creates no version, and has no effect on any launch
already pinned. -/
def Obligations.ParameterPatchCreatesNoVersion : Prop :=
  ∀ (s : State) (c : Cb) (m : Rec4) (k : Nat) (ds : List Word), Starting s c m → opOPC m = 0x0E → bit m.w0 30 = true →
    c.skips m = false → (s.template c.ctx (opTID m)).current = some k → s.readWords (bits m.w2 47 0) 16 = some ds →
    ∃ t, Sys2Proof.Machine.exec .opPatchParam s = .next t ∧ (t.template c.ctx (opTID m)).defaults = ds ∧
      (t.template c.ctx (opTID m)).slots = (s.template c.ctx (opTID m)).slots ∧
      (t.template c.ctx (opTID m)).lastVersion = (s.template c.ctx (opTID m)).lastVersion ∧ t.launches = s.launches ∧
      OpAt t c (fun i => i.status = some stOK) ∧ SameMem s t ∧ t.regs = s.regs

/-- LOAD of a template with no version builds version 1 from the image (R175); a structural patch builds the next version number
from CURRENT with its good entries written (R45, R46, R176); UNLOAD takes CURRENT out of use (R177). Which FREE slot and which free
pages a build takes is left to the block: the lowest ones are the model's choice (log entry 4). -/
def Obligations.TemplateOperationsStart : Prop :=
  ∀ (s : State) (c : Cb) (m : Rec4), Starting s c m → c.skips m = false →
    (∀ img ds ps, opOPC m = 0x0D → (∀ k, ((s.template c.ctx (opTID m)).slot k).state = .free) →
      (s.template c.ctx (opTID m)).slots.length = 4 →
      s.readImage (bits m.w2 47 0) = some img → s.readWords (bits m.w3 47 0) 16 = some ds →
      s.takePages c.ctx (imagePages (hdrSize img)) = some ps →
      ∃ t, Sys2Proof.Machine.exec .opLoad s = .next t ∧ t.vslot c.ctx (opTID m) 0 = ⟨.building, 0, 1, img, ps, false⟩ ∧
        (t.template c.ctx (opTID m)).defaults = ds ∧ (t.template c.ctx (opTID m)).lastVersion = 1 ∧
        OpAt t c (fun i => i.status = none) ∧ t.launches = s.launches ∧ SameMem s t) ∧
    (∀ k f ws fresh, opOPC m = 0x0E → bit m.w0 30 = false → (s.template c.ctx (opTID m)).current = some k →
      (s.template c.ctx (opTID m)).building = false → (s.template c.ctx (opTID m)).freeSlot = some f →
      (s.template c.ctx (opTID m)).slots.length = 4 → s.readWords (bits m.w2 47 0) (2 * bits m.w1 31 0) = some ws →
      (∀ e ∈ patchEntries ws, patchOk (hdrSize (s.vslot c.ctx (opTID m) k).image) e = true) →
      s.takePages c.ctx (((patchEntries ws).map fun e => e.1 / 4096).foldl
        (fun acc p => if acc.contains p then acc else acc ++ [p]) []).length = some fresh →
      ∃ t, Sys2Proof.Machine.exec .opPatchStructural s = .next t ∧ (t.vslot c.ctx (opTID m) f).state = .building ∧
        (t.vslot c.ctx (opTID m) f).version = ((s.template c.ctx (opTID m)).lastVersion + 1) % 65536 ∧
        (t.vslot c.ctx (opTID m) f).image =
          (patchEntries ws).foldl patchImage (s.vslot c.ctx (opTID m) k).image ∧
        t.vslot c.ctx (opTID m) k = s.vslot c.ctx (opTID m) k ∧ OpAt t c (fun i => i.status = none) ∧
        t.launches = s.launches ∧ SameMem s t) ∧
    (∀ k, opOPC m = 0x0F → (s.template c.ctx (opTID m)).building = false →
      (s.template c.ctx (opTID m)).current = some k → (s.template c.ctx (opTID m)).slots.length = 4 →
      ∃ t, Sys2Proof.Machine.exec .opUnload s = .next t ∧
        (t.vslot c.ctx (opTID m) k).state = (if (s.vslot c.ctx (opTID m) k).launches = 0 then .free else .retiring) ∧
        OpAt t c (fun i => i.status = some stOK) ∧ t.launches = s.launches ∧ SameMem s t)

/-- R171, R173, R30: a launch whose conditions hold leaves flight, and its pin, if it still holds one, is released. -/
def Obligations.LaunchLeavesFlightAndReleasesItsPin : Prop :=
  ∀ (s : State) (ctx serial : Nat) (l : Launch), s.running = true → s.launch? ctx serial = some l → l.fbOf = none →
    (∀ j ∈ s.launches, j.ctx = ctx → j.serial = serial → j = l) → s.launches.Nodup → l.pinned = true →
    (l.resident = true → s.savedOf ctx = none) →
    (s.launchDone l = true →
      ∃ t, Sys2Proof.Machine.exec (.launchComplete ctx serial) s = .next t ∧ t.launch? ctx serial = none ∧
        t.vslot ctx l.template l.vslot = (s.vslot ctx l.template l.vslot).unpinned ∧ t.hub.slots = s.hub.slots ∧ SameMem s t) ∧
    (s.cancelDone l = true →
      ∃ t, Sys2Proof.Machine.exec (.launchCancelComplete ctx serial) s = .next t ∧ t.launch? ctx serial = none ∧
        t.vslot ctx l.template l.vslot = (s.vslot ctx l.template l.vslot).unpinned ∧ t.hub.slots = s.hub.slots ∧ SameMem s t)

/-! ## Operations of a command buffer -/

/-- R161, R162, Table 06-4: NOP completes OK when it starts; a reserved opcode completes UNSUPPORTED; an operation of any other
opcode whose condition does not match the flag completes OK without its effect, and the sequence goes on behind it, behind the body
as well for a LOOP (which skips its body with it). None of these touches a launch, a template, an object or memory. -/
def Obligations.NopReservedAndSkippedOperationsComplete : Prop :=
  ∀ (s : State) (c : Cb) (m : Rec4), Starting s c m →
    (c.skips m = false → opOPC m = 0x00 →
      ∃ t, Sys2Proof.Machine.exec .opNop s = .next t ∧ OpAt t c (fun i => i.status = some stOK) ∧
        t = { s with cbs := t.cbs, obs := t.obs, reqs := t.reqs }) ∧
    (c.skips m = false → 0x10 ≤ opOPC m →
      ∃ t, Sys2Proof.Machine.exec .reservedOpcode s = .next t ∧ OpAt t c (fun i => i.status = some stUNSUPPORTED) ∧
        t = { s with cbs := t.cbs, obs := t.obs, reqs := t.reqs }) ∧
    (∀ (x : Instr) (pick : Nat) (f : Frame) (rest : List Frame), c.skips m = true → NoneWaits c → c.frames = f :: rest →
      ((x, opOPC m) ∈ [(.opNop, 0x00), (.launch pick, 0x01), (.opWait, 0x02), (.opSignal, 0x03), (.opRecord, 0x04),
          (.opBarrier, 0x05), (.opCopy, 0x06), (.opWrite, 0x07), (.opHash, 0x08), (.opTest, 0x09), (.opLoop, 0x0A),
          (.opBreak, 0x0B), (.opCall, 0x0C), (.opLoad, 0x0D), (.opUnload, 0x0F)] ∨
        (opOPC m = 0x0E ∧ bit m.w0 30 = false ∧ x = .opPatchStructural) ∨ (opOPC m = 0x0E ∧ bit m.w0 30 = true ∧ x = .opPatchParam)) →
      ∃ t, Sys2Proof.Machine.exec x s = .next t ∧ OpAt t c (fun i => i.status = some stOK) ∧
        t = { s with cbs := t.cbs, obs := t.obs, reqs := t.reqs } ∧
        CbAt t c (fun d => d.flag = c.flag ∧ d.hashes = c.hashes ∧ d.frames = (popFrames
          ({ f with pc := f.pc + 1 + (if opOPC m = 0x0A then bits m.w1 63 44 else 0) } :: rest)).1))

/-- R170: COPY, WRITE and HASH issue one DMA command with the context's default partition, and wait for it. -/
def Obligations.DmaOperationsIssueOneCommand : Prop :=
  ∀ (s : State) (c : Cb) (m : Rec4), Starting s c m → c.skips m = false →
    (opOPC m = 0x06 →
      ∃ t d, Sys2Proof.Machine.exec .opCopy s = .next t ∧
        d = ⟨s.nextId, c.ring, c.idx, c.nextPos, c.ctx, 0x06, opSRC m, opDST m, opLENGTH m, 0⟩ ∧ t.dmas = s.dmas ++ [d] ∧
        t.out = s.out ++ [.dma d (s.defaultPart c.ctx)] ∧ OpAt t c (fun i => i.status = none ∧ i.dma = some s.nextId) ∧
        t = { s with cbs := t.cbs, obs := t.obs, reqs := t.reqs, cyc := t.cyc, dmas := t.dmas, out := t.out, nextId := s.nextId + 1 }) ∧
    (opOPC m = 0x07 →
      ∃ t d, Sys2Proof.Machine.exec .opWrite s = .next t ∧
        d = ⟨s.nextId, c.ring, c.idx, c.nextPos, c.ctx, 0x07, 0, opDST m, 8, m.w3⟩ ∧ t.dmas = s.dmas ++ [d] ∧
        t.out = s.out ++ [.dma d (s.defaultPart c.ctx)] ∧ OpAt t c (fun i => i.status = none ∧ i.dma = some s.nextId) ∧
        t = { s with cbs := t.cbs, obs := t.obs, reqs := t.reqs, cyc := t.cyc, dmas := t.dmas, out := t.out, nextId := s.nextId + 1 }) ∧
    (opOPC m = 0x08 → s.hashesOf c < 64 →
      ∃ t d, Sys2Proof.Machine.exec .opHash s = .next t ∧
        d = ⟨s.nextId, c.ring, c.idx, c.nextPos, c.ctx, 0x08, opSRC m, 0, opLENGTH m, 0⟩ ∧ t.dmas = s.dmas ++ [d] ∧
        t.out = s.out ++ [.dma d (s.defaultPart c.ctx)] ∧ OpAt t c (fun i => i.status = none ∧ i.dma = some s.nextId) ∧
        t = { s with cbs := t.cbs, obs := t.obs, reqs := t.reqs, cyc := t.cyc, dmas := t.dmas, out := t.out, nextId := s.nextId + 1 }) ∧
    (opOPC m = 0x08 → 64 ≤ s.hashesOf c →
      ∃ t, Sys2Proof.Machine.exec .opHash s = .next t ∧ t.dmas = s.dmas ∧
        OpAt t c (fun i => i.status = some stUNSUPPORTED))

/-- R170, R265: a COPY whose accesses are all answered OK has copied its bytes and a WRITE its word, a HASH leaves the hash of its
region, nothing else of memory changes, and the operation completes OK; the command is no longer outstanding. One that fails, or one
of whose accesses is not answered OK, writes nothing (the model's choice, log entry 32) and makes a CONTAINED report, and its
operation completes CANCELLED. That the hash is taken when the command completes is the model's reading (log entry 103). -/
def Obligations.DmaCompletionWritesItsBytes : Prop :=
  ∀ (s : State) (d : Dma) (h : Rec4) (c : Cb) (i : OpInst), s.running = true → MemInv s →
    s.dmas.find? (fun e => e.id == d.id) = some d → (d.kind = 0x07 → d.len = 8) →
    s.cb? d.ring d.idx = some c → c.inst? d.pos = some i → i.isOpen = true →
    (s.dmaOk d = true →
      ∃ t e j, Sys2Proof.Machine.exec (.dmaComplete d.id false h) s = .next t ∧ t.dmas = s.dmas.filter (fun e => e.id != d.id) ∧
        (d.kind = 0x06 → ∀ i, i < d.len → t.byteAt (d.dst + i) = s.byteAt (d.src + i)) ∧
        (d.kind = 0x07 → t.wordAtAddr d.dst = d.imm) ∧ (d.kind = 0x08 → SameMem s t) ∧ SameMemBut s t d.dst d.len ∧
        t.regs = s.regs ∧ t.cb? d.ring d.idx = some e ∧ e.inst? d.pos = some j ∧ j.status = some stOK ∧
        (d.kind = 0x08 → (d.pos, d.len, s.regionHash d) ∈ e.hashes)) ∧
    (∀ err : Bool, err = true ∨ s.dmaOk d = false →
      ∃ t e j, Sys2Proof.Machine.exec (.dmaComplete d.id err h) s = .next t ∧ t.dmas = s.dmas.filter (fun e => e.id != d.id) ∧
        SameMem s t ∧ SameRegsBut s t errKeys ∧ t.reg K.ERR_CONT = BitVec.ofNat 32 (countTo 32 ((s.reg K.ERR_CONT).toNat + 1)) ∧
        t.cb? d.ring d.idx = some e ∧ e.inst? d.pos = some j ∧ j.status = some stCANCELLED ∧
        (s.cyc.errs = 0 → t.glb.errLog.getLast? = some (errRecord 2 uFrontEnd 0x1B (some d.ctx) none
          (BitVec.ofNat 64 (if d.kind = 0x08 then d.src else d.dst)) s.tb)))

/-- R167: a TEST with SRC MEM compares the 8-byte word and sets the condition flag; one with SRC ITER takes the iteration of the
innermost loop. Both complete OK. -/
def Obligations.TestSetsTheConditionFlag : Prop :=
  ∀ (s : State) (c : Cb) (m : Rec4) (b : Bool), Starting s c m → opOPC m = 0x09 → c.skips m = false → NoneWaits c →
    (∀ v, bits m.w0 30 28 = 0 → s.readWords (bits m.w1 47 0 / 8 * 8) 1 = some [v] →
      testHolds (bits m.w0 27 25) v m.w2 = some b →
      ∃ t, Sys2Proof.Machine.exec .opTest s = .next t ∧ CbAt t c (fun d => d.flag = b) ∧
        OpAt t c (fun i => i.status = some stOK) ∧ t = { s with cbs := t.cbs, obs := t.obs, reqs := t.reqs }) ∧
    (bits m.w0 30 28 = 3 → testHolds (bits m.w0 27 25) (BitVec.ofNat 64 (innerIter c)) m.w2 = some b →
      ∃ t, Sys2Proof.Machine.exec .opTest s = .next t ∧ CbAt t c (fun d => d.flag = b) ∧
        OpAt t c (fun i => i.status = some stOK) ∧ t = { s with cbs := t.cbs, obs := t.obs, reqs := t.reqs })

/-- R165, R166: a LOOP opens its body with iteration 0, a CALL the operations at its pointer, one level deeper; at the fourth level
a further one completes UNSUPPORTED, no level is opened and the sequence goes on behind it, behind the body for a LOOP. A LOOP of
COUNT 0, or without body, completes OK at once. BREAK ends the innermost loop, and the CALLs within it; outside a loop it only
completes OK. Once the operations of an iteration that set an event of EV_CLR are complete, the next iteration begins at the first
operation of the body, with those events cleared; after the last one it does not. -/
def Obligations.LoopsAndCallsNest : Prop :=
  (∀ (s : State) (c : Cb) (m : Rec4) (a : Nat) (f : Frame) (rest : List Frame), Starting s c m → c.skips m = false →
    c.nextAddr = some a → c.frames = f :: rest →
    (opOPC m = 0x0A → c.frames.length ≤ 4 → 0 < bits m.w1 31 0 → 0 < bits m.w1 63 44 →
      ∃ t, Sys2Proof.Machine.exec .opLoop s = .next t ∧ OpAt t c (fun i => i.status = none) ∧
        CbAt t c (fun d => d.frames =
          ⟨addr48 (a + 32), bits m.w1 63 44, 0, true, bits m.w1 31 0, 0, bits m.w2 15 0, some c.nextPos⟩ ::
            { f with pc := f.pc + 1 + bits m.w1 63 44 } :: rest) ∧ t = { s with cbs := t.cbs, obs := t.obs, reqs := t.reqs }) ∧
    (opOPC m = 0x0C → c.frames.length ≤ 4 → 0 < bits m.w2 19 0 →
      ∃ t, Sys2Proof.Machine.exec .opCall s = .next t ∧ OpAt t c (fun i => i.status = none) ∧
        CbAt t c (fun d => d.frames =
          ⟨bits m.w1 47 0, bits m.w2 19 0, 0, false, 0, 0, 0, some c.nextPos⟩ :: { f with pc := f.pc + 1 } :: rest) ∧
        t = { s with cbs := t.cbs, obs := t.obs, reqs := t.reqs }) ∧
    (5 ≤ c.frames.length → opOPC m = 0x0A →
      ∃ t, Sys2Proof.Machine.exec .opLoop s = .next t ∧ OpAt t c (fun i => i.status = some stUNSUPPORTED) ∧
        CbAt t c (fun d => d.frames = (popFrames ({ f with pc := f.pc + 1 + bits m.w1 63 44 } :: rest)).1) ∧
        t = { s with cbs := t.cbs, obs := t.obs, reqs := t.reqs }) ∧
    (5 ≤ c.frames.length → opOPC m = 0x0C →
      ∃ t, Sys2Proof.Machine.exec .opCall s = .next t ∧ OpAt t c (fun i => i.status = some stUNSUPPORTED) ∧
        CbAt t c (fun d => d.frames = (popFrames ({ f with pc := f.pc + 1 } :: rest)).1) ∧
        t = { s with cbs := t.cbs, obs := t.obs, reqs := t.reqs }) ∧
    (c.frames.length ≤ 4 → opOPC m = 0x0A → bits m.w1 31 0 = 0 ∨ bits m.w1 63 44 = 0 →
      ∃ t, Sys2Proof.Machine.exec .opLoop s = .next t ∧ OpAt t c (fun i => i.status = some stOK) ∧
        CbAt t c (fun d => d.frames = (popFrames ({ f with pc := f.pc + 1 + bits m.w1 63 44 } :: rest)).1) ∧
        t = { s with cbs := t.cbs, obs := t.obs, reqs := t.reqs }) ∧
    (∀ calls loop out, opOPC m = 0x0B → c.frames = calls ++ loop :: out →
      (∀ g ∈ calls, g.isLoop = false ∧ g.pos.isSome = true) → loop.isLoop = true → loop.pos.isSome = true →
      ∃ t, Sys2Proof.Machine.exec .opBreak s = .next t ∧ OpAt t c (fun i => i.status = some stOK) ∧
        CbAt t c (fun d => d.frames = (popFrames out).1) ∧ t = { s with cbs := t.cbs, obs := t.obs, reqs := t.reqs }) ∧
    (opOPC m = 0x0B → (∀ g ∈ c.frames, g.isLoop = false) →
      ∃ t, Sys2Proof.Machine.exec .opBreak s = .next t ∧ OpAt t c (fun i => i.status = some stOK) ∧
        CbAt t c (fun d => d.frames = (popFrames ({ f with pc := f.pc + 1 } :: rest)).1) ∧
        t = { s with cbs := t.cbs, obs := t.obs, reqs := t.reqs })) ∧
  (∀ (s : State) (c : Cb) (f : Frame) (rest : List Frame) (p : Nat), s.running = true → s.cb? c.ring c.idx = some c →
    c.term = none → c.frames = f :: rest → f.pos = some p → f.isLoop = true → f.len ≤ f.pc →
    (f.iter + 1 < f.count → c.iterDone f p = true →
      ∃ t, Sys2Proof.Machine.exec (.loopIteration c.ring c.idx) s = .next t ∧
        CbAt t c (fun d => d.frames = { f with pc := 0, iter := f.iter + 1 } :: rest ∧
          ∀ i, i < 16 → d.events.testBit i = (c.events.testBit i && !f.evClr.testBit i)) ∧
        t = { s with cbs := t.cbs }) ∧
    (f.count ≤ f.iter + 1 ∨ c.iterDone f p = false →
      Sys2Proof.Machine.exec (.loopIteration c.ring c.idx) s = .next s))

/-- R429: an operation that cannot be read takes its position and completes CANCELLED with the report of uncorrectable data. -/
def Obligations.UnreadableOperationIsCancelled : Prop :=
  ∀ (s : State) (c : Cb) (a : Nat), s.running = true → SeqInv s → s.opWinner = some c → s.cb? c.ring c.idx = some c →
    c.nextAddr = some a → s.opWords a = none →
    ∃ t, Sys2Proof.Machine.exec .operationReadError s = .next t ∧ OpAt t c (fun i => i.status = some stCANCELLED) ∧
      CbAt t c (fun d => d.term.isSome = true) ∧ SameMem s t ∧ SameRegsBut s t errKeys ∧
      t.reg K.ERR_CONT = BitVec.ofNat 32 (countTo 32 ((s.reg K.ERR_CONT).toNat + 1)) ∧ t.launches = s.launches

/-! ## Hub shards -/

namespace Sys2Proof.Claims

/-- The arrival `a` heads the path from `src` to the present shard `dst` while the block runs, and the shard intake does not hold it
(R397). -/
def Arrives (s : State) (src dst : Nat) (a : Arrival) : Prop :=
  s.running = true ∧ Heads s src dst a ∧ dst < s.shards ∧ s.holdsReady dst a = false

/-- The commands of an arrival's kind. -/
def arrivals (src dst pick : Nat) : List (ArrKind × Instr) :=
  [(.dec, .decArrival src dst pick), (.late, .lateArrival src dst pick), (.sprout, .sproutArrival src dst pick)]

/-- Nothing drops or saves it. -/
def Live (s : State) (a : Arrival) : Prop := s.dropsItem a.ctx (ordSerial a.ordinal) = false ∧ s.saveHeld a.ctx = false

/-- The OUTSTANDING word of a launch's record takes a write. -/
def OutOk (s : State) (ctx serial : Nat) : Prop := s.writeOk (s.lrecAddr ctx serial + 24) 8 = true

/-- The OUTSTANDING words of all launches in flight take writes. -/
def LrecsOk (s : State) : Prop := ∀ l ∈ s.launches, OutOk s l.ctx l.serial

/-- Memory outside them reads as before. -/
def SameMemButOuts (s t : State) : Prop :=
  ∀ b, (∀ l ∈ s.launches, b < s.lrecAddr l.ctx l.serial + 24 ∨ s.lrecAddr l.ctx l.serial + 32 ≤ b) → t.byteAt b = s.byteAt b

/-- The next position of the ready ring of a list takes a write, if the next entry of the list goes there. -/
def RingOk (s : State) (ctx cls prio : Nat) : Prop :=
  s.readyPlace ctx cls prio = .ring → s.writeOk (s.ringSlot ctx cls prio (s.ringNext ctx cls prio)) 16 = true

/-- Memory outside the OUTSTANDING word of a launch, and outside that position if the entry goes there, reads as before. -/
def SameMemButReady (s t : State) (ctx serial cls prio : Nat) : Prop :=
  ∀ b, (b < s.lrecAddr ctx serial + 24 ∨ s.lrecAddr ctx serial + 32 ≤ b) →
    (s.readyPlace ctx cls prio = .ring → b < s.ringSlot ctx cls prio (s.ringNext ctx cls prio) ∨
      s.ringSlot ctx cls prio (s.ringNext ctx cls prio) + 16 ≤ b) → t.byteAt b = s.byteAt b

/-- What an arrival may touch besides its slot and memory: the path, the account of its launch, steep requests, and what observation
counts. -/
def ArrivalFrame (s t : State) (src dst : Nat) : Prop :=
  t.hub.xbar = dropFirst (·.onPath src dst) s.hub.xbar ∧
  t = { s with hub := t.hub, disp := t.disp, launches := t.launches, ckpts := t.ckpts, obs := t.obs, regs := t.regs, mem := t.mem,
               poison := t.poison, reqs := t.reqs, cyc := t.cyc } ∧
  SameRegsBut s t (sideKeys ++ (List.range 64).map K.FRM_OVRn)

/-- Every slot but one is as before. -/
def SameSlotsBut (s t : State) (sh n : Nat) : Prop := ∀ a b, (a, b) ≠ (sh, n) → t.slot a b = s.slot a b

/-- No event is perturbed. -/
def Calm (s : State) : Prop := s.flag K.PERT_CTRL 31 = false

/-- The item may be parked on-block (R58). -/
def OnBlockOk (s : State) (sh ctx tree : Nat) : Prop :=
  (∀ p ∈ s.hub.parked, p.inBucket ctx sh tree = true → p.inCellar = false) ∧
  s.onBlock sh < s.fld K.HUB_CFG 31 20 * 64 ∧ s.onBlockOf ctx sh < s.fld (K.CEL_CTRL ctx) 19 8 * 64

/-- What an item filed in the cellar part of its bucket is written to (Table 02-5; places of fields and the free page: log entry
85): its record, the headers of its block and of the block before it, the bucket head and the cellar header. -/
def spillWrites (s : State) (ctx sh tree n : Nat) : List (Nat × Nat) :=
  let b := s.celBucket ctx sh tree
  let x := b.place n (s.freshPage ctx)
  [(addr48 (s.celPage ctx x.2.1 + 16 + 16 * x.2.2), 16 * n), (s.celPage ctx x.2.1, 16),
   (s.celPage ctx (b.blocks.getLastD ⟨x.2.1, 0, 0⟩).page, 16), (addr48 (s.celPage ctx 1 + 16 * (sh * 4096 + tree)), 16),
   (s.celPage ctx 0, 16)]

/-- A launch has failed and is cancelled. -/
def Failed (t : State) (ctx serial : Nat) : Prop := ∃ m, t.launch? ctx serial = some m ∧ m.failed = true ∧ m.cancelled = true

end Sys2Proof.Claims

/-- R34, R117, R114: an arrival lowers COUNTER of its instance by its count; the last one makes the instance READY with its stamp
and a ready entry, or WALKING when it is a JOIN (R19); a sprout arrival gives the parameter pointer (R115). One that asks more than
COUNTER holds changes no slot and is counted (R68). While the trace holds back the READY record of an arrival, the arrival waits at
the head of its path (R397). -/
def Obligations.ArrivalLowersItsCounter : Prop :=
  ∀ (s : State) (src dst pick n : Nat) (a : Arrival) (v : Slot) (x : Instr), (a.kind, x) ∈ arrivals src dst pick → s.running = true →
    Heads s src dst a →
    (s.holdsReady dst a = true → exec x s = .next s) ∧
    (Arrives s src dst a → Live s a → a.ctx < 64 → OutOk s a.ctx (ordSerial a.ordinal) →
      s.findKey dst a.ctx a.node a.ordinal = some (n, v) → (s.slot dst n).ctx = a.ctx →
      (a.count < (s.slot dst n).counter →
        ∃ t, exec x s = .next t ∧
          (t.slot dst n).counter = (s.slot dst n).counter - a.count ∧ (t.slot dst n).state = (s.slot dst n).state ∧
          (t.slot dst n).gen = (s.slot dst n).gen ∧
          (a.kind = .sprout → (s.slot dst n).sprSet = false → (t.slot dst n).sprPtr = a.ptr) ∧
          t.hub.ready = s.hub.ready ∧ SameSlotsBut s t dst n ∧ ArrivalFrame s t src dst ∧
          SameMemBut s t (s.lrecAddr a.ctx (ordSerial a.ordinal) + 24) 8) ∧
      (a.count = (s.slot dst n).counter → (s.slot dst n).cls ≠ clsJoin →
        RingOk s a.ctx (s.slot dst n).cls (s.slot dst n).prio →
        ∃ t, exec x s = .next t ∧
          (t.slot dst n).counter = 0 ∧ (t.slot dst n).state = .ready ∧ (t.slot dst n).readyStamp = s.tb ∧
          (∃ e ∈ t.hub.ready, e.shard = dst ∧ e.slot = n ∧ e.gen = (s.slot dst n).gen ∧ e.prio = (s.slot dst n).prio ∧
            e.cls = (s.slot dst n).cls ∧ e.ctx = a.ctx ∧ e.stamp = s.tb ∧ e.resume = false) ∧
          t.hub.ready.length = s.hub.ready.length + 1 ∧ SameSlotsBut s t dst n ∧ ArrivalFrame s t src dst ∧
          SameMemButReady s t a.ctx (ordSerial a.ordinal) (s.slot dst n).cls (s.slot dst n).prio) ∧
      (a.count = (s.slot dst n).counter → (s.slot dst n).cls = clsJoin →
        ∃ t, exec x s = .next t ∧
          (t.slot dst n).counter = 0 ∧ (t.slot dst n).state = .walking ∧ (t.slot dst n).readyStamp = s.tb ∧
          t.hub.ready = s.hub.ready ∧ SameSlotsBut s t dst n ∧ ArrivalFrame s t src dst ∧
          SameMemBut s t (s.lrecAddr a.ctx (ordSerial a.ordinal) + 24) 8) ∧
      ((s.slot dst n).counter < a.count →
        ∃ t, exec x s = .next t ∧ (∀ p q, t.slot p q = s.slot p q) ∧ t.hub.ready = s.hub.ready ∧
          t.reg (K.SHD_DEC_ZERO dst) = s.reg (K.SHD_DEC_ZERO dst) + 1 ∧
          t.reg K.ERR_CONT = BitVec.ofNat 32 (countTo 32 ((s.reg K.ERR_CONT).toNat + 1)) ∧
          SameRegsBut s t (K.SHD_DEC_ZERO dst :: K.PERT_CNT :: errKeys) ∧
          SameMemBut s t (s.lrecAddr a.ctx (ordSerial a.ordinal) + 24) 8))

/-- R32, R33: an arrival for an instance that does not exist creates it in a free slot, WAITING with the predecessor count of its
node less what it brings, and READY, or WALKING for a JOIN, when it brings the last; one that brings more than PRED_COUNT leaves its
instance WAITING and is counted (R35, R68). Without a free ordinary slot it is parked in its bucket (R56, R57), a sprout arrival as
a ONE record (R114): on-block as far as R58 lets it, else in the cellar, where it counts in CEL_SPILL, and when the cellar has no
room either it is lost and its launch fails (R65); of a context being saved it goes to the cellar (R203; of one being restored log
entry 20). Of a cancelled launch it is dropped and counted (R173). The places that the cellar record is written to: log entry 85. -/
def Obligations.ArrivalCreatesParksOrDrops : Prop :=
  ∀ (s : State) (src dst pick : Nat) (a : Arrival) (x : Instr), (a.kind, x) ∈ arrivals src dst pick → Arrives s src dst a →
    OutOk s a.ctx (ordSerial a.ordinal) →
    (∀ n l nd, Live s a → a.ctx < 64 → Calm s → s.findKey dst a.ctx a.node a.ordinal = none → s.mustPark dst a.ctx = false →
      (a.kind = .sprout → s.fld K.SPR_CFG 15 0 < s.freeOrdinary dst) → s.pickSlot dst pick = some n →
      s.launch? a.ctx (ordSerial a.ordinal) = some l → s.nodeBad l a.node = none → node? (s.imageOf l) a.node = some nd →
      (a.count < nd.pred →
        ∃ t, exec x s = .next t ∧
          (t.slot dst n).state = .waiting ∧ (t.slot dst n).counter = nd.pred - a.count ∧ (t.slot dst n).ctx = a.ctx ∧
          (t.slot dst n).node = a.node ∧ (t.slot dst n).ordinal = a.ordinal ∧ (t.slot dst n).cls = nd.cls ∧
          (t.slot dst n).prio = nd.effPrio l.prio ∧ (t.slot dst n).gen = (s.slot dst n).gen ∧
          SameSlotsBut s t dst n ∧ ArrivalFrame s t src dst ∧ SameMemBut s t (s.lrecAddr a.ctx (ordSerial a.ordinal) + 24) 8) ∧
      (a.count = nd.pred → RingOk s a.ctx nd.cls (nd.effPrio l.prio) →
        ∃ t, exec x s = .next t ∧ (t.slot dst n).state = (if nd.cls = clsJoin then .walking else .ready) ∧
          (t.slot dst n).counter = 0 ∧ (t.slot dst n).ctx = a.ctx ∧ (t.slot dst n).node = a.node ∧
          (t.slot dst n).ordinal = a.ordinal ∧ t.hub.ready.length = s.hub.ready.length + (if nd.cls = clsJoin then 0 else 1) ∧
          SameSlotsBut s t dst n ∧ ArrivalFrame s t src dst ∧
          SameMemButReady s t a.ctx (ordSerial a.ordinal) nd.cls (nd.effPrio l.prio)) ∧
      (nd.pred < a.count →
        ∃ t, exec x s = .next t ∧ (t.slot dst n).state = .waiting ∧ (t.slot dst n).counter = nd.pred ∧
          (t.slot dst n).node = a.node ∧ t.reg (K.SHD_DEC_ZERO dst) = s.reg (K.SHD_DEC_ZERO dst) + 1 ∧
          SameSlotsBut s t dst n ∧ SameRegsBut s t (K.SHD_DEC_ZERO dst :: errKeys) ∧
          SameMemBut s t (s.lrecAddr a.ctx (ordSerial a.ordinal) + 24) 8)) ∧
    (Live s a → Calm s → a.kind ≠ .sprout → s.findKey dst a.ctx a.node a.ordinal = none → s.mustPark dst a.ctx = true →
      OnBlockOk s dst a.ctx (ordTree a.ordinal) →
      ∃ t, exec x s = .next t ∧
        t.hub = { s.hub with xbar := dropFirst (·.onPath src dst) s.hub.xbar,
                             parked := s.hub.parked ++ [⟨a.ctx, dst, ordTree a.ordinal, false, .edge a⟩] } ∧
        t = { s with hub := t.hub, obs := t.obs }) ∧
    (Live s a → Calm s → a.kind = .sprout → s.findKey dst a.ctx a.node a.ordinal = none →
      s.mustPark dst a.ctx = true ∨ s.freeOrdinary dst ≤ s.fld K.SPR_CFG 15 0 → OnBlockOk s dst a.ctx (ordTree a.ordinal) →
      ∃ t, exec x s = .next t ∧
        t.hub = { s.hub with xbar := dropFirst (·.onPath src dst) s.hub.xbar, nextRid := s.hub.nextRid + 1, sprLeft := t.hub.sprLeft,
                             parked := s.hub.parked ++ [⟨a.ctx, dst, ordTree a.ordinal, false, .spr (oneRec a s.hub.nextRid)⟩] } ∧
        t = { s with hub := t.hub, launches := t.launches, obs := t.obs, mem := t.mem, poison := t.poison, reqs := t.reqs } ∧
        SameMemBut s t (s.lrecAddr a.ctx (ordSerial a.ordinal) + 24) 8) ∧
    (s.dropsItem a.ctx (ordSerial a.ordinal) = false → Calm s → a.kind ≠ .sprout →
      s.saveHeld a.ctx = true ∨ (s.findKey dst a.ctx a.node a.ordinal = none ∧ s.mustPark dst a.ctx = true ∧
        ((∃ p ∈ s.hub.parked, p.inBucket a.ctx dst (ordTree a.ordinal) = true ∧ p.inCellar = true) ∨
          s.fld K.HUB_CFG 31 20 * 64 ≤ s.onBlock dst ∨ s.fld (K.CEL_CTRL a.ctx) 19 8 * 64 ≤ s.onBlockOf a.ctx dst)) →
      (s.celHasRoom a.ctx dst (ordTree a.ordinal) 1 = true →
        (∀ w ∈ spillWrites s a.ctx dst (ordTree a.ordinal) 1, s.writeOk w.1 w.2 = true) →
        ∃ t, exec x s = .next t ∧
          t.hub = { s.hub with xbar := dropFirst (·.onPath src dst) s.hub.xbar, cellar := t.hub.cellar,
                               parked := s.hub.parked ++ [⟨a.ctx, dst, ordTree a.ordinal, true, .edge a⟩] } ∧
          t.reg (K.CEL_SPILL a.ctx) = BitVec.ofNat 32 (countTo 32 ((s.reg (K.CEL_SPILL a.ctx)).toNat + 1)) ∧
          t = { s with hub := t.hub, obs := t.obs, regs := t.regs, mem := t.mem, poison := t.poison, reqs := t.reqs,
                       cyc := t.cyc } ∧ SameRegsBut s t [K.CEL_SPILL a.ctx] ∧
          ∀ b, (∀ w ∈ spillWrites s a.ctx dst (ordTree a.ordinal) 1, b < w.1 ∨ w.1 + w.2 ≤ b) → t.byteAt b = s.byteAt b) ∧
      (s.celHasRoom a.ctx dst (ordTree a.ordinal) 1 = false →
        ∃ t, exec x s = .next t ∧ t.hub.parked = s.hub.parked ∧
          t.reg (K.CEL_LOST a.ctx) = BitVec.ofNat 32 (countTo 32 ((s.reg (K.CEL_LOST a.ctx)).toNat + 1)) ∧
          Failed t a.ctx (ordSerial a.ordinal) ∧ t.templates = s.templates ∧ t.cbs = s.cbs)) ∧
    (s.dropsItem a.ctx (ordSerial a.ordinal) = true →
      ∃ t, exec x s = .next t ∧
        t.reg (K.SHD_CANCEL_DROP dst) = s.reg (K.SHD_CANCEL_DROP dst) + 1 ∧ t.hub.slots = s.hub.slots ∧
        t.hub.ready = s.hub.ready ∧ t.hub.parked = s.hub.parked ∧
        t.hub.xbar = dropFirst (·.onPath src dst) s.hub.xbar ∧
        t = { s with hub := t.hub, launches := t.launches, obs := t.obs, regs := t.regs, mem := t.mem, poison := t.poison,
                     reqs := t.reqs, cyc := t.cyc } ∧
        SameRegsBut s t [K.SHD_CANCEL_DROP dst, K.PERT_CNT] ∧
        SameMemBut s t (s.lrecAddr a.ctx (ordSerial a.ordinal) + 24) 8)

/-- R60: refill gives the parked arrival at the head of a context's bucket to its instance; a cellar block that is answered with
POISON is reported, and its items are not applied (R68, R380); R66 and R74: the head of a list's ready ring moves to the directory
when there is room, and the oldest entry linked in its slot to the ring, in its place in memory (R59, R73). -/
def Obligations.RefillAndReadyListMoves : Prop :=
  (∀ (s : State) (sh pick c : Nat) (p : Parked), s.running = true → sh < s.shards → c < 64 →
    (∀ q ∈ s.hub.parked, q.shard = sh → q.ctx = c) → s.saveHeld c = false → s.bucketHead c sh = some p →
    (∀ n a v, p.item = .edge a → p.inCellar = false → a.ctx = c → a.kind = .dec → s.dropsItem c (ordSerial a.ordinal) = false →
      s.holdsReady sh a = false → s.findKey sh c a.node a.ordinal = some (n, v) → 1 < (s.slot sh n).counter → (s.slot sh n).ctx = c →
      OutOk s c (ordSerial a.ordinal) →
      ∃ t, exec (.refill sh pick false) s = .next t ∧
        (t.slot sh n).counter = (s.slot sh n).counter - 1 ∧ (t.slot sh n).state = (s.slot sh n).state ∧
        t.hub.parked = dropFirst (fun q => q.inBucket c sh p.tree) s.hub.parked ∧ SameSlotsBut s t sh n ∧
        t.hub.ready = s.hub.ready ∧ t.hub.xbar = s.hub.xbar ∧
        t = { s with hub := t.hub, disp := t.disp, launches := t.launches, obs := t.obs, mem := t.mem, poison := t.poison,
                     reqs := t.reqs } ∧
        SameMemBut s t (s.lrecAddr c (ordSerial a.ordinal) + 24) 8) ∧
    (p.inCellar = true → s.writeOk (addr48 (s.celPage c 1 + 16 * (sh * 4096 + p.tree))) 16 = true → s.writeOk (s.celPage c 0) 16 = true →
      p.ctx = c → p.shard = sh →
      ∃ t, exec (.refill sh pick true) s = .next t ∧ t.hub.slots = s.hub.slots ∧ t.hub.xbar = s.hub.xbar ∧
        t.hub.ready = s.hub.ready ∧ t.launches = s.launches ∧
        t.reg K.ERR_CONT = BitVec.ofNat 32 (countTo 32 ((s.reg K.ERR_CONT).toNat + 1)) ∧
        bit (t.reg K.AUD_UNC) 0 = true ∧ bit (t.reg K.AUD_UNC) 2 = true ∧
        t = { s with hub := t.hub, regs := t.regs, glb := t.glb, out := t.out, obs := t.obs, mem := t.mem, poison := t.poison,
                     reqs := t.reqs, cyc := t.cyc } ∧
        ∀ b, (b < s.celPage c 0 ∨ s.celPage c 0 + 16 ≤ b) →
          (b < addr48 (s.celPage c 1 + 16 * (sh * 4096 + p.tree)) ∨ addr48 (s.celPage c 1 + 16 * (sh * 4096 + p.tree)) + 16 ≤ b) →
          t.byteAt b = s.byteAt b)) ∧
  (∀ (s : State) (ctx cls prio : Nat) (e : ReadyEntry), s.running = true → s.dirHasRoom ctx = true →
    s.hub.ready.find? (fun e => e.inList ctx cls prio && e.place == .ring) = some e →
    ∃ t, exec (.readyRingRefill ctx cls prio) s = .next t ∧
      { e with place := .directory, pos := 0 } ∈ t.hub.ready ∧ t.hub.ready.length = s.hub.ready.length ∧
      t.ringHeld ctx cls prio + 1 = s.ringHeld ctx cls prio ∧
      t = { s with hub := { s.hub with ready := t.hub.ready }, obs := t.obs, reqs := t.reqs }) ∧
  (∀ (s : State) (ctx cls prio : Nat) (e : ReadyEntry), s.running = true → MemInv s → s.ringHeld ctx cls prio < 2048 →
    s.hub.ready.find? (fun e => e.inList ctx cls prio && e.place == .linked) = some e →
    s.writeOk (s.ringSlot ctx cls prio (s.ringNext ctx cls prio)) 16 = true →
    ∃ t, exec (.readyLinkToRing ctx cls prio) s = .next t ∧
      t.hub.ready.getLast? = some { e with place := .ring, pos := s.ringNext ctx cls prio } ∧
      t.hub.ready.length = s.hub.ready.length ∧ t.ringHeld ctx cls prio = s.ringHeld ctx cls prio + 1 ∧
      (∀ i, i < 16 → t.byteAt (s.ringSlot ctx cls prio (s.ringNext ctx cls prio) + i) = (wordsBytes (readyWords e)).getD i 0) ∧
      SameMemBut s t (s.ringSlot ctx cls prio (s.ringNext ctx cls prio)) 16 ∧
      t = { s with hub := { s.hub with ready := t.hub.ready }, mem := t.mem, poison := t.poison, obs := t.obs, reqs := t.reqs })

namespace Sys2Proof.Claims

/-- The token is taken off its lane: no record is ahead of it and the trace does not hold it (R340, R397). -/
def TokenTaken (s : State) (eng : Nat) (r : Rec4) : Prop :=
  s.running = true ∧ s.lane 0 eng = [] ∧ s.traceHoldsFor (parseToken r).ctx = false

/-- A completion token that passes the checks of R68 at slot (sh, n). -/
def TokenOk (s : State) (r : Rec4) (sh n : Nat) : Prop :=
  (parseToken r).handle ≠ 0 ∧
  sh = hShard (parseToken r).handle ∧ n = hSlot (parseToken r).handle ∧ sh < s.shards ∧
  (s.slot sh n).gen = hGen (parseToken r).handle ∧ (s.slot sh n).state = .running ∧
  (s.slot sh n).engine = (parseToken r).engine ∧ (s.slot sh n).ctx < 64

end Sys2Proof.Claims

/-- R88: a token DONE takes its task to WALKING with its partial pointer; YIELDED to READY with an entry that resumes on its engine,
or frees its slot when its launch is cancelled (R52, R173); any other status fails its launch (R172). A stale one and a duplicate
are dropped and counted (R68): a token whose handle names no shard counts at the present shard of the same low bits (log entry 11).
A token behind a held record of its lane waits (R340, R341), and so does one that the trace holds (R397). -/
def Obligations.TokenEndsItsTask : Prop :=
  (∀ (s : State) (eng sh n : Nat) (r : Rec4), TokenTaken s eng r → TokenOk s r sh n → (parseToken r).status = 0 →
    ∃ t, exec (.tokenIntake eng r) s = .next t ∧
      t.slot sh n = { s.slot sh n with state := .walking, partialPtr := (parseToken r).partialPtr } ∧
      t.hub.ready = s.hub.ready ∧ SameSlotsBut s t sh n ∧
      t = { s with hub := t.hub, disp := t.disp, obs := t.obs, regs := t.regs, launches := t.launches, ckpts := t.ckpts,
                   cyc := t.cyc } ∧
      SameRegsBut s t (sideKeys ++ (List.range 64).map K.FRM_OVRn)) ∧
  (∀ (s : State) (eng sh n : Nat) (r : Rec4), TokenTaken s eng r → TokenOk s r sh n → (parseToken r).status = 1 →
    (s.dropsItem (s.slot sh n).ctx (ordSerial (s.slot sh n).ordinal) = false →
      RingOk s (s.slot sh n).ctx (s.slot sh n).cls (s.slot sh n).prio →
      ∃ t, exec (.tokenIntake eng r) s = .next t ∧ t.slot sh n = { s.slot sh n with state := .ready, engine := 0 } ∧
        (∃ e ∈ t.hub.ready, e.shard = sh ∧ e.slot = n ∧ e.resume = true ∧ e.resumeEng = (parseToken r).engine) ∧
        t.hub.ready.length = s.hub.ready.length + 1 ∧ SameSlotsBut s t sh n ∧
        t = { s with hub := t.hub, disp := t.disp, obs := t.obs, regs := t.regs, mem := t.mem, poison := t.poison, reqs := t.reqs,
                     cyc := t.cyc } ∧ SameRegsBut s t sideKeys ∧
        ∀ b, (s.readyPlace (s.slot sh n).ctx (s.slot sh n).cls (s.slot sh n).prio = .ring →
            b < s.ringSlot (s.slot sh n).ctx (s.slot sh n).cls (s.slot sh n).prio
                (s.ringNext (s.slot sh n).ctx (s.slot sh n).cls (s.slot sh n).prio) ∨
            s.ringSlot (s.slot sh n).ctx (s.slot sh n).cls (s.slot sh n).prio
                (s.ringNext (s.slot sh n).ctx (s.slot sh n).cls (s.slot sh n).prio) + 16 ≤ b) → t.byteAt b = s.byteAt b) ∧
    (s.dropsItem (s.slot sh n).ctx (ordSerial (s.slot sh n).ordinal) = true →
      ∃ t, exec (.tokenIntake eng r) s = .next t ∧ (t.slot sh n).state = .free)) ∧
  (∀ (s : State) (eng sh n : Nat) (r : Rec4) (l : Launch), TokenTaken s eng r → TokenOk s r sh n → 2 ≤ (parseToken r).status →
    s.launch? (s.slot sh n).ctx (ordSerial (s.slot sh n).ordinal) = some l → LrecsOk s →
    ∃ t, exec (.tokenIntake eng r) s = .next t ∧ Failed t (s.slot sh n).ctx (ordSerial (s.slot sh n).ordinal) ∧
      t.reg K.ERR_CONT = BitVec.ofNat 32 (countTo 32 ((s.reg K.ERR_CONT).toNat + 1)) ∧ t.templates = s.templates ∧ t.cbs = s.cbs ∧
      SameMemButOuts s t) ∧
  (∀ (s : State) (eng : Nat) (r : Rec4), TokenTaken s eng r →
    ((parseToken r).handle = 0 ∨ s.shards ≤ hShard (parseToken r).handle ∨
      (s.slot (hShard (parseToken r).handle) (hSlot (parseToken r).handle)).gen ≠ hGen (parseToken r).handle →
      ∃ t, exec (.tokenIntake eng r) s = .next t ∧
        t.reg (K.SHD_TOK_STALE (s.tokenShard (parseToken r).handle)) =
          s.reg (K.SHD_TOK_STALE (s.tokenShard (parseToken r).handle)) + 1 ∧
        t = { s with regs := t.regs, glb := t.glb, out := t.out, obs := t.obs, cyc := t.cyc } ∧
        SameRegsBut s t (K.SHD_TOK_STALE (s.tokenShard (parseToken r).handle) :: K.PERT_CNT :: errKeys)) ∧
    (∀ sh n, (parseToken r).handle ≠ 0 → sh = hShard (parseToken r).handle → n = hSlot (parseToken r).handle → sh < s.shards →
      (s.slot sh n).gen = hGen (parseToken r).handle →
      (s.slot sh n).state ≠ .running ∨ (s.slot sh n).engine ≠ (parseToken r).engine →
      ∃ t, exec (.tokenIntake eng r) s = .next t ∧ t.reg (K.SHD_TOK_DUP sh) = s.reg (K.SHD_TOK_DUP sh) + 1 ∧
        t = { s with regs := t.regs, glb := t.glb, out := t.out, obs := t.obs, cyc := t.cyc } ∧
        SameRegsBut s t (K.SHD_TOK_DUP sh :: K.PERT_CNT :: errKeys))) ∧
  (∀ (s : State) (eng : Nat) (r : Rec4), s.running = true → s.lane 0 eng ≠ [] ∨ s.traceHoldsFor (parseToken r).ctx = true →
    (s.lane 0 eng).length < 16 →
    ∃ t, exec (.tokenIntake eng r) s = .next t ∧ t.lane 0 eng = s.lane 0 eng ++ [⟨1, r⟩] ∧ t = { s with lanes := t.lanes, obs := t.obs })

/-- R38, R52: a walk frees its slot. A silent one issues nothing and drops the sprout records that its shard holds for the task
(R88, R120); another forwards them to their home shards (R110). A DEC entry sends one arrival to its successor's shard (R49), a FOLD
entry one item to its unit (R125). -/
def Obligations.WalkIssuesAndFreesTheSlot : Prop :=
  ∀ (s : State) (sh n : Nat), s.running = true → (s.slot sh n).state = .walking →
    (∃ t, exec (.walkIssue sh n) s = .next t ∧ (t.slot sh n).state = .free ∧ t.templates = s.templates) ∧
    ((s.slot sh n).silent = true → LrecsOk s →
      ∃ t, exec (.walkIssue sh n) s = .next t ∧ t.slot sh n = { Slot.empty with gen := nextGen (s.slot sh n).gen } ∧
        SameSlotsBut s t sh n ∧
        t.hub = { s.hub with slots := t.hub.slots, sprLeft := t.hub.sprLeft,
                             sprKept := s.hub.sprKept.filter fun q => q.2.producer != handleOf sh n (s.slot sh n).gen } ∧
        t.reg (K.SHD_CANCEL_DROP sh) =
          s.reg (K.SHD_CANCEL_DROP sh) + BitVec.ofNat 32 (s.keptOf (handleOf sh n (s.slot sh n).gen)).length ∧
        t = { s with hub := t.hub, launches := t.launches, mem := t.mem, poison := t.poison, obs := t.obs, reqs := t.reqs,
                     regs := t.regs, cyc := t.cyc } ∧ SameRegsBut s t [K.SHD_CANCEL_DROP sh] ∧ SameMemButOuts s t) ∧
    (∀ (l : Launch) (nd : Node), (s.slot sh n).silent = false →
      (s.ctx (s.slot sh n).ctx).state ≠ .resetting →
      s.launch? (s.slot sh n).ctx (ordSerial (s.slot sh n).ordinal) = some l → l.cancelled = false →
      s.nodeBad l (s.slot sh n).node = none → node? (s.imageOf l) (s.slot sh n).node = some nd →
      (∀ r ∈ s.hub.remHeld, r.producer ≠ handleOf sh n (s.slot sh n).gen) →
      OutOk s (s.slot sh n).ctx (ordSerial (s.slot sh n).ordinal) →
      (nd.succCount = 0 →
        ∃ t, exec (.walkIssue sh n) s = .next t ∧
          t.hub = { s.hub with
            slots := t.hub.slots, sprHeld := s.hub.sprHeld ++ s.keptOf (handleOf sh n (s.slot sh n).gen),
            sprKept := s.hub.sprKept.filter fun q => q.2.producer != handleOf sh n (s.slot sh n).gen } ∧
          t.slot sh n = { Slot.empty with gen := nextGen (s.slot sh n).gen } ∧ SameSlotsBut s t sh n ∧
          t = { s with hub := t.hub, launches := t.launches, mem := t.mem, poison := t.poison, obs := t.obs, reqs := t.reqs } ∧
          SameMemBut s t (s.lrecAddr (s.slot sh n).ctx (ordSerial (s.slot sh n).ordinal) + 24) 8) ∧
      (∀ tgt, nd.succCount = 1 → s.succBad l nd.succBase = none → s.keptOf (handleOf sh n (s.slot sh n).gen) = [] →
        (∀ o, succ? (s.imageOf l) nd.succBase = some (0, tgt) → s.nodeBad l tgt = none →
          s.deriveFor (s.slot sh n).ctx (ordSerial (s.slot sh n).ordinal) tgt (s.slot sh n).ordinal = some o →
          ∃ t, exec (.walkIssue sh n) s = .next t ∧
            t.hub = { s.hub with slots := t.hub.slots, xbar := s.hub.xbar ++ [⟨sh, shardOf s.shards (s.slot sh n).ctx tgt o,
              ⟨.dec, (s.slot sh n).ctx, tgt, o, (s.slot sh n).vslot, 1, 0, sh, none⟩, none⟩] } ∧
            t.slot sh n = { Slot.empty with gen := nextGen (s.slot sh n).gen } ∧ SameSlotsBut s t sh n ∧
            t = { s with hub := t.hub, launches := t.launches, mem := t.mem, poison := t.poison, obs := t.obs, reqs := t.reqs } ∧
            SameMemBut s t (s.lrecAddr (s.slot sh n).ctx (ordSerial (s.slot sh n).ordinal) + 24) 8) ∧
        (succ? (s.imageOf l) nd.succBase = some (1, tgt) →
          ∃ t, exec (.walkIssue sh n) s = .next t ∧ t.hub = { s.hub with slots := t.hub.slots } ∧
            (t.foldUnit (foldUnitOf (s.slot sh n).ctx (ordSerial (s.slot sh n).ordinal) tgt)).routing =
              (s.foldUnit (foldUnitOf (s.slot sh n).ctx (ordSerial (s.slot sh n).ordinal) tgt)).routing ++
                [⟨sh, (s.slot sh n).node, tgt, (s.slot sh n).ctx, (s.slot sh n).vslot, (s.slot sh n).ordinal,
                  (s.slot sh n).partialPtr, 0, 0⟩] ∧
            t.slot sh n = { Slot.empty with gen := nextGen (s.slot sh n).gen } ∧ SameSlotsBut s t sh n ∧
            t = { s with hub := t.hub, fold := t.fold, launches := t.launches, mem := t.mem, poison := t.poison, obs := t.obs,
                         reqs := t.reqs } ∧
            SameMemBut s t (s.lrecAddr (s.slot sh n).ctx (ordSerial (s.slot sh n).ordinal) + 24) 8)))

/-! ## Dispatch -/

namespace Sys2Proof.Claims

/-- The place of an entry that selection finds first in its cycle. -/
def firstPlace (s : State) (r : ReadyEntry) : Option (Nat × Bool) := s.place ⟨s.grantRate, []⟩ r (decide (2 ≤ r.prio))

/-- The turn of a list within one priority: its class from the class pointer on, its context from the round robin on (R78). -/
def listTurn (s : State) (r : ReadyEntry) : Nat :=
  (r.cls + 5 - s.disp.classPtr) % 5 * 64 + (r.ctx + 64 - Tab.get 0 s.disp.rr (r.cls, r.prio)) % 64

/-- Whether selection comes to entry `q` before `r` (R75, R78): priorities 0 and 1 first and in order of stamp, shard, slot and
context; then priority by priority, in each the classes and the contexts in turn, and within a list in list order (`front` holds the
entries that stand before `r`). -/
def comesFirst (s : State) (front : List ReadyEntry) (q r : ReadyEntry) : Prop :=
  q.prio < r.prio ∨ (q.prio = r.prio ∧
    if r.prio < 2 then expressBefore q r = true else listTurn s q < listTurn s r ∨ (listTurn s q = listTurn s r ∧ q ∈ front))

/-- What a dispatch reads of each waiting entry's template and launch record can be read. -/
def DispatchReads (s : State) : Prop :=
  ∀ q ∈ s.hub.ready, ∀ l nd, s.slotLaunch? (s.slot q.shard q.slot) = some l → s.slotNode? (s.slot q.shard q.slot) = some nd →
    s.dispatchBad l nd = none

/-- The registers that a dispatch cycle may count in. -/
def DispatchRegs (s t : State) : Prop :=
  ∀ k, k ≠ K.TRC_LOST → (∀ c, k ≠ K.CTX_PART_DENY c ∧ k ≠ K.STN_STEEP_HIT c ∧ k ≠ K.STN_STEEP_MISS c) → t.reg k = s.reg k

end Sys2Proof.Claims

/-- R78, R82: of the ready entries that are eligible and can be placed, a dispatch cycle grants the one that selection comes to
first: the express ones (priorities 0 and 1) before the others, then by priority, class from the class pointer on, context in turn
and place in its list. Its slot is RUNNING on the engine that the placement names, its entry is gone and its descriptor is on the
way. No more entries leave than the cycle has grants. Of one entry alone nothing else changes; an express entry that cannot be
placed and may pre-empt reserves its victim, which is sent PREEMPT (R90; the record's layout: log entry 8). Without an entry only
the class pointer moves. -/
def Obligations.DispatchGrantsAnEligibleEntry : Prop :=
  (∀ (s : State) (front rest : List ReadyEntry) (r : ReadyEntry) (e : Nat) (sc : Bool) (l : Launch) (nd : Node), s.running = true →
    s.hub.ready = front ++ r :: rest → (s.hub.ready.map fun q => (q.shard, q.slot)).Nodup → DispatchReads s →
    r.prio < 8 → r.cls < 5 → r.ctx < 64 → s.disp.classPtr < 5 → (∀ kp, Tab.get 0 s.disp.rr kp < 64) →
    s.eligible r = true → s.traceHolds = false → firstPlace s r = some (e, sc) →
    s.slotLaunch? (s.slot r.shard r.slot) = some l → s.slotNode? (s.slot r.shard r.slot) = some nd →
    (∀ q ∈ s.hub.ready, s.eligible q = true → comesFirst s front q r →
      firstPlace s q = none ∧ (q.prio < 2 → s.mayPreempt q = false)) →
    ∃ t d, exec .dispatchCycle s = .next t ∧
      t.slot r.shard r.slot = { s.slot r.shard r.slot with state := .running, engine := e } ∧ r ∉ t.hub.ready ∧
      (t.engine e).landing = (s.engine e).landing ++ [⟨r.shard, r.slot, (s.slot r.shard r.slot).gen, d⟩] ∧
      d.w1 = (s.slot r.shard r.slot).ordinal ∧ d.w3 = nd.arg0 ∧ d.w4 = nd.arg1 ∧
      s.hub.ready.length ≤ t.hub.ready.length + s.grantRate ∧ (∀ q ∈ t.hub.ready, q ∈ s.hub.ready) ∧
      (∀ a b, (∀ q ∈ s.hub.ready, (q.shard, q.slot) ≠ (a, b)) → t.slot a b = s.slot a b) ∧
      t = { s with hub := { s.hub with slots := t.hub.slots, ready := t.hub.ready }, disp := t.disp, regs := t.regs, obs := t.obs,
                   cyc := t.cyc, out := t.out } ∧ DispatchRegs s t) ∧
  (∀ (s : State) (r : ReadyEntry) (e : Nat) (sc : Bool) (l : Launch) (nd : Node), s.running = true → s.hub.ready = [r] →
    r.prio < 8 → r.cls < 5 → r.ctx < 64 → s.eligible r = true → s.traceHolds = false → DispatchReads s →
    firstPlace s r = some (e, sc) →
    s.slotLaunch? (s.slot r.shard r.slot) = some l → s.slotNode? (s.slot r.shard r.slot) = some nd →
    ∃ t d, exec .dispatchCycle s = .next t ∧
      t.slot r.shard r.slot = { s.slot r.shard r.slot with state := .running, engine := e } ∧ t.hub.ready = [] ∧
      (t.engine e).landing = (s.engine e).landing ++ [⟨r.shard, r.slot, (s.slot r.shard r.slot).gen, d⟩] ∧
      d.w1 = (s.slot r.shard r.slot).ordinal ∧ d.w3 = nd.arg0 ∧ d.w4 = nd.arg1 ∧ SameSlotsBut s t r.shard r.slot ∧
      t = { s with hub := t.hub, disp := t.disp, regs := t.regs, obs := t.obs, cyc := t.cyc } ∧ DispatchRegs s t) ∧
  (∀ (s : State) (r : ReadyEntry) (v : Nat), s.running = true → s.hub.ready = [r] → r.prio < 2 → s.eligible r = true →
    s.traceHolds = false → firstPlace s r = none → s.mayPreempt r = true → s.victim r = some v →
    ∃ t, exec .dispatchCycle s = .next t ∧
      t.disp = { s.disp with
        classPtr := (s.disp.classPtr + 1) % 5,
        pre := s.disp.pre ++ [⟨r.shard, r.slot, r.gen, r.ctx, r.cls, some v, none, [v], s.tb, false, false⟩] } ∧
      t.out = s.out ++ [.lane v 0x2 ⟨word [(63, 32, handleOf r.shard r.slot r.gen), (2, 0, 2)], 0, 0, 0⟩] ∧
      t = { s with disp := t.disp, out := t.out, obs := t.obs }) ∧
  (∀ s : State, s.running = true → s.hub.ready = [] →
    exec .dispatchCycle s = .next { s with disp := { s.disp with classPtr := (s.disp.classPtr + 1) % 5 } })

/-- R84: the oldest granted descriptor is written at the producer index of its work queue, the index advances modulo 128 and is sent
to the engine; a reported consumer index is taken. -/
def Obligations.WorkQueueIndicesAdvance : Prop :=
  (∀ (s : State) (e : Nat) (d : Landing) (rest : List Landing), s.running = true → MemInv s →
    (s.engine e).landing = d :: rest → s.traceHoldsFor (s.slot d.shard d.slot).ctx = false →
    s.writeOk (s.wqAddr e (s.engine e).pi) 64 = true →
    ∃ t, exec (.descriptorLand e) s = .next t ∧ t.engine e = { s.engine e with pi := ((s.engine e).pi + 1) % 128, landing := rest } ∧
      (∀ i, i < 64 → t.byteAt (s.wqAddr e (s.engine e).pi + i) = (wordsBytes (words8 d.words)).getD i 0) ∧
      SameMemBut s t (s.wqAddr e (s.engine e).pi) 64 ∧
      t.out = s.out ++ [.lane e 0x1 ⟨BitVec.ofNat 64 (((s.engine e).pi + 1) % 128), 0, 0, 0⟩] ∧
      t.hub = s.hub ∧ SameRegsBut s t [K.STN_DISP (engCore e), K.TRC_LOST] ∧
      t = { s with mem := t.mem, poison := t.poison, obs := t.obs, disp := t.disp, regs := t.regs, out := t.out,
                   launches := t.launches, cbs := t.cbs, dlm := t.dlm, reqs := t.reqs, cyc := t.cyc }) ∧
  (∀ (s : State) (e ci : Nat), s.running = true →
    ∃ t, exec (.consumerIndexReport e ci) s = .next t ∧ t.engine e = { s.engine e with ci := ci % 128 } ∧
      (∀ f, f ≠ e → t.engine f = s.engine f) ∧ t = { s with disp := { s.disp with engines := t.disp.engines }, obs := t.obs })

/-- R91, R93: an answer is counted and noted at its stage, a refusal without CP_IRQ releases the stage, and a stage that comes to
its timeout is released, and counted when it was not answered or no capacity was freed; no further stage starts for its entry. That
an answer of a control processor answers the oldest unread interrupt of its core is the model's choice (log entry 88), and so is
that a stage answered and served ends uncounted (log entry 89). -/
def Obligations.PreemptionStagesEnd : Prop :=
  (∀ (s : State) (e : Nat) (h : W32), s.running = true →
    ∃ t, exec (.ackYield e h) s = .next t ∧
      t.fld (K.STN_PREEMPT (engCore e)) 31 16 = countTo 16 (s.fld (K.STN_PREEMPT (engCore e)) 31 16 + 1) ∧
      t.disp = { s.disp with pre := updFirst (·.forVictim e h) (fun p => { p with answered := true }) s.disp.pre } ∧
      t = { s with disp := t.disp, regs := t.regs, obs := t.obs, cyc := t.cyc } ∧ SameRegsBut s t [K.STN_PREEMPT (engCore e)]) ∧
  (∀ (s : State) (e : Nat) (h : W32) (p : PreStage), s.running = true → s.disp.pre.find? (·.forVictim e h) = some p →
    s.flag (K.DSP_CTXn p.ctx) 28 = false →
    ∃ t, exec (.nack e h) s = .next t ∧
      t.fld (K.STN_PREEMPT (engCore e)) 15 0 = countTo 16 (s.fld (K.STN_PREEMPT (engCore e)) 15 0 + 1) ∧
      t.disp = { s.disp with pre := dropFirst (fun q => q == p) s.disp.pre,
                             preDone := s.disp.preDone ++ [(p.shard, p.slot, p.gen)] } ∧
      t = { s with disp := t.disp, regs := t.regs, obs := t.obs, cyc := t.cyc } ∧ SameRegsBut s t [K.STN_PREEMPT (engCore e)]) ∧
  (∀ (s : State) (c : Nat), s.running = true →
    ∃ t, exec (.cpAck c) s = .next t ∧
      t.disp = { s.disp with pre := updFirst (fun p => p.core == some c && !p.answered) (fun p => { p with answered := true })
                                      s.disp.pre } ∧
      t = { s with disp := t.disp, obs := t.obs }) ∧
  (∀ (s : State) (e : Nat) (p : PreStage), s.running = true →
    s.disp.pre.find? (fun p => p.victim == some e && p.expired s) = some p →
    ∃ t, exec (.preemptTimeout e) s = .next t ∧
      t.fld (K.STN_TIMEOUT (engCore e)) 31 16 = (if p.answered && p.acked then s.fld (K.STN_TIMEOUT (engCore e)) 31 16
        else countTo 16 (s.fld (K.STN_TIMEOUT (engCore e)) 31 16 + 1)) ∧
      t.disp = { s.disp with pre := dropFirst (fun q => q == p) s.disp.pre,
                             preDone := s.disp.preDone ++ [(p.shard, p.slot, p.gen)] } ∧
      t = { s with disp := t.disp, regs := t.regs, cyc := t.cyc } ∧ SameRegsBut s t [K.STN_TIMEOUT (engCore e)]) ∧
  (∀ (s : State) (c : Nat) (p : PreStage), s.running = true →
    s.disp.pre.find? (fun p => p.core == some c && p.expired s) = some p →
    ∃ t, exec (.cpIrqTimeout c) s = .next t ∧
      t.fld (K.STN_TIMEOUT c) 15 0 = (if p.answered && p.acked then s.fld (K.STN_TIMEOUT c) 15 0
        else countTo 16 (s.fld (K.STN_TIMEOUT c) 15 0 + 1)) ∧
      t.disp = { s.disp with pre := dropFirst (fun q => q == p) s.disp.pre,
                             preDone := s.disp.preDone ++ [(p.shard, p.slot, p.gen)] } ∧
      t = { s with disp := t.disp, regs := t.regs, cyc := t.cyc } ∧ SameRegsBut s t [K.STN_TIMEOUT c])

namespace Sys2Proof.Claims

/-- The bytes of the granules that a staging's regions take. -/
def granArea (t : Steep) : Nat := 256 * (t.regions.map fun r => ceilDiv r.2 256).sum

end Sys2Proof.Claims

/-- R97, R98: a station stages every region of a steep request that it takes, into the granules chosen (which: log entry 4), and
reads each; the acknowledgement of its last write makes the staging usable, with its regions copied into its granules in their
order; of one whose read is answered with POISON the staging is not used (log entry 87). R198: a new context mask applies when the
station has switched. -/
def Obligations.StationsStageAndSwitchMasks : Prop :=
  (∀ (s : State) (core gran g : Nat) (q : SteepReq) (l : Launch) (nd : Node), s.running = true → Calm s →
    s.disp.steepReqs.find? (fun q => q.core == core) = some q → (s.slot q.shard q.slot).gen = q.gen →
    ((s.slot q.shard q.slot).state = .waiting ∨ (s.slot q.shard q.slot).state = .ready) →
    s.slotLaunch? (s.slot q.shard q.slot) = some l → s.slotNode? (s.slot q.shard q.slot) = some nd → s.dispatchBad l nd = none →
    s.steepRegions (s.imageOf l) nd ≠ [] → (s.disp.steeps.filter fun t => t.core == core && !t.acked).length < 64 →
    s.active (.station core) = true → s.admits core (s.slot q.shard q.slot).ctx = true →
    Tab.get 0 s.disp.steepHc core ≠ s.hc + 1 → s.granPick core gran (granules (s.steepRegions (s.imageOf l) nd)) = some g →
    ∃ t, exec (.steepRequest core gran) s = .next t ∧
      t.disp.steeps = s.disp.steeps ++ [⟨q.shard, q.slot, q.gen, (s.slot q.shard q.slot).ctx, core, g,
        granules (s.steepRegions (s.imageOf l) nd), ((s.steepRegions (s.imageOf l) nd).map fun r => 2 ^ r.1).sum, false, none, false,
        (s.steepRegions (s.imageOf l) nd).map fun r => (regionAddr r.2 l.params (s.slot q.shard q.slot).sprPtr, r.2.length)⟩] ∧
      t.disp.steepReqs = dropFirst (fun q => q.core == core) s.disp.steepReqs ∧
      t.out = s.out ++ (s.steepRegions (s.imageOf l) nd).map (fun r => .steepRead core
        (regionAddr r.2 l.params (s.slot q.shard q.slot).sprPtr) r.2.length (s.partitionOf (s.slot q.shard q.slot).ctx nd).1) ∧
      t = { s with disp := t.disp, out := t.out, obs := t.obs, reqs := t.reqs }) ∧
  (∀ (s : State) (sh n : Nat) (st : Steep), s.running = true → MemInv s →
    s.disp.steeps.find? (fun t => t.shard == sh && t.slot == n && !t.acked) = some st → st.gone = false → st.granted = none →
    (∀ a k, scratchBase st.core + st.gran * 256 ≤ a → a + k ≤ scratchBase st.core + st.gran * 256 + granArea st → s.writeOk a k = true) →
    (s.stagedBad st = none →
      ∃ t, exec (.steepWriteAck sh n) s = .next t ∧
        t.disp = { s.disp with steeps := updFirst (fun u => u == st) (fun u => { u with acked := true }) s.disp.steeps } ∧
        (∀ r rest, st.regions = r :: rest → ∀ i, i < r.2 → t.byteAt (scratchBase st.core + st.gran * 256 + i) = s.byteAt (r.1 + i)) ∧
        SameMemBut s t (scratchBase st.core + st.gran * 256) (granArea st) ∧
        t = { s with disp := t.disp, mem := t.mem, poison := t.poison, obs := t.obs, reqs := t.reqs }) ∧
    (∀ a, s.stagedBad st = some a →
      ∃ t, exec (.steepWriteAck sh n) s = .next t ∧
        t.disp = { s.disp with
          steeps := updFirst (fun u => u == st) (fun u => { u with acked := true, granted := some false }) s.disp.steeps } ∧
        t.reg K.ERR_CONT = BitVec.ofNat 32 (countTo 32 ((s.reg K.ERR_CONT).toNat + 1)) ∧ SameRegsBut s t errKeys ∧
        t.launches = s.launches ∧ SameMemBut s t (scratchBase st.core + st.gran * 256) (granArea st))) ∧
  (∀ (s : State) (o : Origin) (hi : Bool) (v : W32) (c : Nat), s.live = true → s.glb.phase ≠ .boot → s.winInst o 5 = some c →
    ∃ t, exec (.stnCtxmWrite o hi v) s = .next t ∧ t.reg (if hi then K.STN_CTXM_HI c else K.STN_CTXM_LO c) = v ∧
      c ∈ t.disp.switching ∧ (∀ d, t.mask d = s.mask d) ∧
      t = { s with regs := t.regs, disp := { s.disp with switching := t.disp.switching } } ∧
      SameRegsBut s t [if hi then K.STN_CTXM_HI c else K.STN_CTXM_LO c]) ∧
  (∀ (s : State) (c : Nat), s.live = true → c ∈ s.disp.switching →
    ∃ t, exec (.ctxMaskApply c) s = .next t ∧
      t.mask c = (s.reg (K.STN_CTXM_LO c)).toNat + (s.reg (K.STN_CTXM_HI c)).toNat * 2 ^ 32 ∧
      (∀ d, d ≠ c → t.mask d = s.mask d) ∧ c ∉ t.disp.switching ∧
      t = { s with disp := { s.disp with masks := t.disp.masks, switching := t.disp.switching } })

namespace Sys2Proof.Claims

/-- The writes of ENABLE that reach a unit, with the unit, the bit that they write and the state's selection that leads there. -/
def enables (s : State) (v : W32) : List (Instr × UnitId) :=
  (List.range 8).map (fun r => (.ringCtrlEnableWrite r v, .ring r)) ++
  [Origin.host, Origin.mgmt].flatMap fun o =>
    (match s.winInst o 5 with | some c => [(.stnCtrlEnableWrite o v, .station c)] | none => []) ++
    (match s.winInst o 3 with | some c => [(.shdCtrlEnableWrite o v, .shard c)] | none => []) ++
    (match s.winInst o 8 with
      | some c => if c < 64 then [(.barCtrlEnableWrite o v, .bar c)]
                  else if 256 ≤ c then [(.grpCtrlEnableWrite o v, .grp (c - 256))] else []
      | none => [])

/-- The command that ends the drain of a unit, and whether its drain condition holds (R104, R67, R188, R241, R250). -/
def drains (s : State) (n : Nat) : List (Instr × UnitId × Bool) :=
  [(.stationDrainComplete n, .station n, s.stationEmpty n), (.shardDrainComplete n, .shard n, s.usedSlots n == 0),
   (.ringDrainComplete n, .ring n, !(s.cbs.any fun c => c.ring == n)), (.barrierDrainComplete n, .bar n, s.barEmpty n),
   (.groupDrainComplete n, .grp n, s.grpEmpty n)]

/-- Every unit but `u` is as before. -/
def SameUnitsBut (s t : State) (u : UnitId) : Prop := ∀ w, w ≠ u → t.unit w = s.unit w

/-- No generation of a barrier unit falls due as it enables, and nothing waits to be counted. -/
def NoneDue (s : State) (u : UnitId) : Prop := ∀ b, u = .bar b → (s.bar b).waiting = [] ∧ s.barFull b = false

/-- A write of ENABLE changes no other register than the one it goes to. -/
def EnableRegs (s t : State) (u : UnitId) : Prop :=
  ∀ k, (∀ r, u = .ring r → k ≠ K.RING_CTRL r) → (∀ b, u = .bar b → k ≠ K.BAR_CTRL b) → t.reg k = s.reg k

end Sys2Proof.Claims

/-- R359: ENABLE written 1 enables a unit that is off, ENABLE written 0 makes an enabled one drain, ENABLE written 1 while it drains
is pending; before the block runs ENABLE only holds the bit, and in SETUP the write is discarded. A drain whose condition holds
disables the unit, or enables it again when an enable is pending; until then nothing changes. -/
def Obligations.EnableAndDrainOfUnits : Prop :=
  (∀ (s : State) (x : Instr) (u : UnitId) (v : W32), (x, u) ∈ enables s v → s.live = true → s.glb.phase ≠ .boot →
    (s.glb.phase = .setup → ∃ t, exec x s = .next t ∧ t.en = s.en ∧ t = { s with regs := t.regs } ∧ EnableRegs s t u) ∧
    (s.glb.phase ≠ .setup → s.glb.enable = false →
      ∃ t, exec x s = .next t ∧ t.unit u = { s.unit u with enable := bit v 0 } ∧ SameUnitsBut s t u ∧
        t = { s with regs := t.regs, en := t.en } ∧ EnableRegs s t u) ∧
    (s.glb.phase ≠ .setup → s.glb.enable = true → s.unit u = UnitEn.off → bit v 0 = true →
      ∃ t, exec x s = .next t ∧ t.unit u = ⟨true, true, false, false⟩ ∧ SameUnitsBut s t u ∧
        (NoneDue s u → t = { s with regs := t.regs, en := t.en, rings := t.rings, sync := t.sync } ∧ EnableRegs s t u)) ∧
    (s.glb.phase ≠ .setup → s.glb.enable = true → s.unit u = ⟨true, true, false, false⟩ → bit v 0 = false →
      ∃ t, exec x s = .next t ∧ t.unit u = ⟨false, true, true, false⟩ ∧ SameUnitsBut s t u ∧
        t = { s with regs := t.regs, en := t.en } ∧ EnableRegs s t u) ∧
    (s.glb.phase ≠ .setup → s.glb.enable = true → s.unit u = ⟨false, true, true, false⟩ → bit v 0 = true →
      ∃ t, exec x s = .next t ∧ t.unit u = ⟨true, true, true, true⟩ ∧ SameUnitsBut s t u ∧
        t = { s with regs := t.regs, en := t.en } ∧ EnableRegs s t u)) ∧
  (∀ (s : State) (x : Instr) (u : UnitId) (n : Nat) (empty : Bool), (x, u, empty) ∈ drains s n → s.running = true →
    (empty = false → exec x s = .next s) ∧ ((s.unit u).draining = false → exec x s = .next s) ∧
    (empty = true → s.unit u = ⟨false, true, true, false⟩ →
      ∃ t, exec x s = .next t ∧ t.unit u = UnitEn.off ∧ SameUnitsBut s t u ∧ t = { s with en := t.en }) ∧
    (empty = true → s.unit u = ⟨true, true, true, true⟩ →
      ∃ t, exec x s = .next t ∧ t.unit u = ⟨true, true, false, false⟩ ∧ SameUnitsBut s t u ∧
        (NoneDue s u → t = { s with en := t.en, rings := t.rings, sync := t.sync })))

/-! ## Sprouting -/

namespace Sys2Proof.Claims

/-- The sprout record is taken off its lane, from a producer that passes the first row of Table 04-2, in slot (sh, n). -/
def SproutTaken (s : State) (eng : Nat) (r : Rec4) (sh n : Nat) : Prop :=
  s.running = true ∧ s.lane 0 eng = [] ∧ s.traceHoldsFor (parseSprout r).ctx = false ∧
  s.producerBad (parseSprout r).producer eng (parseSprout r).ctx = false ∧
  sh = hShard (parseSprout r).producer ∧ n = hSlot (parseSprout r).producer ∧ (s.slot sh n).cls = 0

end Sys2Proof.Claims

/-- R108 to R110: an accepted sprout record is counted in OUTSTANDING and held at its producer's shard, which forwards it with the
walk; one of a stale producer is dropped and counted; one that breaks a rule of Table 04-2 is refused, counted and fails its launch;
one of a cancelled launch is dropped and counted (R120); behind a held record of its lane it waits. R111 to R113: at its home it
enters the expansion queue, or is parked in its bucket, or dropped with its launch; from the queue its instances are issued one by
one, a LATE record whole, and the last one takes it out. That a context's turn is one instance is the model's choice (log entry 90).
-/
def Obligations.SproutRecordsEnterAndIssue : Prop :=
  (∀ (s : State) (eng sh n : Nat) (r : Rec4) (l : Launch), SproutTaken s eng r sh n →
    (s.ctx (parseSprout r).ctx).state ≠ .resetting →
    s.launch? (parseSprout r).ctx (ordSerial (s.slot sh n).ordinal) = some l → l.cancelled = false →
    (∀ nd, OutOk s (parseSprout r).ctx (ordSerial (s.slot sh n).ordinal) → s.nodeBad l (parseSprout r).node = none →
      (parseSprout r).kind < 2 → (parseSprout r).node < hdrNodes (s.imageOf l) →
      ordSerial (parseSprout r).baseOrd = ordSerial (s.slot sh n).ordinal → node? (s.imageOf l) (parseSprout r).node = some nd →
      sproutRefused (hdrHops (s.imageOf l)) nd (parseSprout r) = false →
      ∃ t, exec (.sproutRecordIntake eng r) s = .next t ∧
        t.hub = { s.hub with
          nextRid := s.hub.nextRid + 1, sprLeft := Tab.put s.hub.sprLeft s.hub.nextRid (parseSprout r).count,
          sprKept := s.hub.sprKept ++ [(recHome s (hdrHops (s.imageOf l)) nd (parseSprout r),
            { parseSprout r with rid := s.hub.nextRid, vslot := (s.slot sh n).vslot, next := 0, rule := nd.ordRule })] } ∧
        t.launch? (parseSprout r).ctx (ordSerial (s.slot sh n).ordinal) = some { l with outstanding := l.outstanding + 1 } ∧
        t = { s with hub := t.hub, launches := t.launches, mem := t.mem, poison := t.poison, obs := t.obs, regs := t.regs,
                     reqs := t.reqs, cyc := t.cyc } ∧
        SameRegsBut s t [K.SPR_RECn (parseSprout r).ctx, K.TRC_LOST] ∧
        SameMemBut s t (s.lrecAddr (parseSprout r).ctx (ordSerial (s.slot sh n).ordinal) + 24) 8) ∧
    (2 ≤ (parseSprout r).kind ∨ hdrNodes (s.imageOf l) ≤ (parseSprout r).node ∨
        ordSerial (parseSprout r).baseOrd ≠ ordSerial (s.slot sh n).ordinal ∨
        (s.nodeBad l (parseSprout r).node = none ∧ ∃ nd, node? (s.imageOf l) (parseSprout r).node = some nd ∧
          sproutRefused (hdrHops (s.imageOf l)) nd (parseSprout r) = true) →
      ∃ t, exec (.sproutRecordIntake eng r) s = .next t ∧
        t.fld (K.SPR_ERRn (parseSprout r).ctx) 31 16 = countTo 16 (s.fld (K.SPR_ERRn (parseSprout r).ctx) 31 16 + 1) ∧
        Failed t (parseSprout r).ctx (ordSerial (s.slot sh n).ordinal) ∧ t.hub.sprHeld = s.hub.sprHeld ∧
        t.templates = s.templates ∧ t.cbs = s.cbs)) ∧
  (∀ (s : State) (eng sh n : Nat) (r : Rec4), SproutTaken s eng r sh n →
    s.dropsItem (parseSprout r).ctx (ordSerial (s.slot sh n).ordinal) = true →
    ∃ t, exec (.sproutRecordIntake eng r) s = .next t ∧ t.reg (K.SHD_CANCEL_DROP sh) = s.reg (K.SHD_CANCEL_DROP sh) + 1 ∧
      t = { s with regs := t.regs, obs := t.obs, cyc := t.cyc } ∧ SameRegsBut s t [K.SHD_CANCEL_DROP sh]) ∧
  (∀ (s : State) (eng : Nat) (r : Rec4), s.running = true → s.lane 0 eng = [] → s.traceHoldsFor (parseSprout r).ctx = false →
    s.producerBad (parseSprout r).producer eng (parseSprout r).ctx = true ∨
      (s.slot (hShard (parseSprout r).producer) (hSlot (parseSprout r).producer)).cls ≠ 0 →
    ∃ t, exec (.sproutRecordIntake eng r) s = .next t ∧
      t.fld (K.SPR_ERRn (parseSprout r).ctx) 15 0 = countTo 16 (s.fld (K.SPR_ERRn (parseSprout r).ctx) 15 0 + 1) ∧
      t = { s with regs := t.regs, glb := t.glb, out := t.out, obs := t.obs, cyc := t.cyc } ∧
      SameRegsBut s t (K.SPR_ERRn (parseSprout r).ctx :: errKeys)) ∧
  (∀ (s : State) (eng : Nat) (r : Rec4), s.running = true → s.lane 0 eng ≠ [] ∨ s.traceHoldsFor (parseSprout r).ctx = true →
    (s.lane 0 eng).length < 16 →
    ∃ t, exec (.sproutRecordIntake eng r) s = .next t ∧ t.lane 0 eng = s.lane 0 eng ++ [⟨2, r⟩] ∧
      t = { s with lanes := t.lanes, obs := t.obs }) ∧
  (∀ (s : State) (sh : Nat) (r : SprRec), s.running = true → s.hub.sprHeld.find? (fun q => q.1 == sh) = some (sh, r) →
    (s.dropsItem r.ctx (ordSerial r.baseOrd) = false → (s.hub.sprQueue.filter fun q => q.1 == sh).length < 64 →
      s.hasParked r.ctx sh = false → s.treeOk r = true →
      ∃ t, exec (.sproutExpansionEntry sh) s = .next t ∧
        t.hub = { s.hub with
          sprHeld := dropFirst (fun q => q.1 == sh) s.hub.sprHeld, sprQueue := s.hub.sprQueue ++ [(sh, r)] } ∧
        t = { s with hub := t.hub, obs := t.obs }) ∧
    (s.dropsItem r.ctx (ordSerial r.baseOrd) = false →
      64 ≤ (s.hub.sprQueue.filter fun q => q.1 == sh).length ∨ s.hasParked r.ctx sh = true ∨ s.treeOk r = false →
      OnBlockOk s sh r.ctx r.tree →
      ∃ t, exec (.sproutExpansionEntry sh) s = .next t ∧
        t.hub = { s.hub with
          sprHeld := dropFirst (fun q => q.1 == sh) s.hub.sprHeld, parked := s.hub.parked ++ [⟨r.ctx, sh, r.tree, false, .spr r⟩] } ∧
        t = { s with hub := t.hub, obs := t.obs }) ∧
    (s.dropsItem r.ctx (ordSerial r.baseOrd) = true →
      ∃ t, exec (.sproutExpansionEntry sh) s = .next t ∧ t.reg (K.SHD_CANCEL_DROP sh) = s.reg (K.SHD_CANCEL_DROP sh) + 1 ∧
        t.hub = { s.hub with sprHeld := dropFirst (fun q => q.1 == sh) s.hub.sprHeld, sprLeft := t.hub.sprLeft } ∧
        t.fold = s.fold ∧ t.templates = s.templates ∧ t.cbs = s.cbs)) ∧
  (∀ (s : State) (sh dst : Nat) (r : SprRec), s.running = true → s.nextIssue sh = some r →
    s.dropsItem r.ctx (ordSerial r.baseOrd) = false →
    (∀ a, r.kind = 0 → sproutInstance s sh r r.next = some (dst, a) →
      (r.count ≤ r.next + 1 →
        ∃ t, exec (.sproutIssue sh) s = .next t ∧
          t.hub = { s.hub with
            sprRR := Tab.put s.hub.sprRR sh r.ctx, xbar := s.hub.xbar ++ [⟨sh, dst, a, none⟩],
            sprQueue := dropFirst (fun q => q.1 == sh && q.2.rid == r.rid) s.hub.sprQueue } ∧
          t = { s with hub := t.hub, obs := t.obs }) ∧
      (r.next + 1 < r.count → { r with next := r.next + 1 }.key = r.key →
        ∃ t, exec (.sproutIssue sh) s = .next t ∧
          t.hub = { s.hub with
            sprRR := Tab.put s.hub.sprRR sh r.ctx, xbar := s.hub.xbar ++ [⟨sh, dst, a, none⟩],
            sprQueue := updFirst (fun q => q.1 == sh && q.2.rid == r.rid) (fun _ => (sh, { r with next := r.next + 1 }))
              s.hub.sprQueue } ∧
          t = { s with hub := t.hub, obs := t.obs }) ∧
      (r.next + 1 < r.count →
        ∃ t, exec (.sproutIssue sh) s = .next t ∧ t.hub.xbar = s.hub.xbar ++ [⟨sh, dst, a, none⟩] ∧ t.hub.sprHeld = s.hub.sprHeld ∧
          t.templates = s.templates ∧ t.cbs = s.cbs)) ∧
    (r.kind = 1 →
      ∃ t, exec (.sproutIssue sh) s = .next t ∧
        t.hub = { s.hub with
          sprRR := Tab.put s.hub.sprRR sh r.ctx,
          xbar := s.hub.xbar ++ [⟨sh, shardOf s.shards r.ctx r.node r.baseOrd,
            ⟨.late, r.ctx, r.node, r.baseOrd, r.vslot, r.amount, 0, sh, some r.rid⟩, none⟩],
          sprQueue := dropFirst (fun q => q.1 == sh && q.2.rid == r.rid) s.hub.sprQueue } ∧
        t = { s with hub := t.hub, obs := t.obs }))

/-! ## Ordered fold -/

namespace Sys2Proof.Claims

/-- The routing item at the head of the path from a shard to a fold unit, which no waiting item goes ahead of (R139) and no save
holds. -/
def HeadItem (s : State) (src u : Nat) (i : FoldItem) : Prop :=
  s.running = true ∧ (s.foldUnit u).routing.find? (fun i => i.srcShard == src) = some i ∧ s.firstAdmit? u = none ∧
  s.saveHeld i.ctx = false

/-- The open group `g` of unit `u` that an item belongs to. -/
def InGroup (s : State) (u : Nat) (i : FoldItem) (o : Word) (g : FGroup) : Prop :=
  (s.foldUnit u).groupOf i o = some g ∧ (s.foldUnit u).group? g.gid = some g ∧ g.state = .opened

/-- The group takes a contribution more, with this key. -/
def TakesKey (g : FGroup) (i : FoldItem) : Prop :=
  (∀ l ∈ g.leaves, l.key ≠ bits i.ordinal g.d.keyHi g.d.keyLo) ∧ g.accepted < g.d.window

end Sys2Proof.Claims

/-- R127: a contribution that its open group accepts decides its leaf, by the group's copy of the descriptor (R123), is counted, and
sends one arrival to the seal instance; a duplicate, or one beyond WINDOW, is dropped and counted and fails its launch (R143). R128:
a seal closes its group to contributions. R138, R139: one whose group is not open and cannot open is filed in its context's wait
area (at the lowest free position, log entry 93), or lost when that is full; an item admitted from the wait area leaves it, and one
that reads as POISON is reported and lost. -/
def Obligations.FoldItemsReachTheirGroups : Prop :=
  (∀ (s : State) (src u : Nat) (i : FoldItem) (d : FoldDesc) (o : Word), HeadItem s src u i → s.viewItem i = .part d o →
    keyOutside i d = false →
    (∀ g, InGroup s u i o g → TakesKey g i → OutOk s i.ctx i.serial →
      ∃ t g', exec (.foldContribution src u) s = .next t ∧ (t.foldUnit u).group? g.gid = some g' ∧
        g'.accepted = g.accepted + 1 ∧ g'.d = g.d ∧
        (∃ val, g'.leaves = g.leaves ++ [⟨bits i.ordinal g.d.keyHi g.d.keyLo, val⟩] ∧
          val.map (·.1) = if i.ptr = 0 then none else some i.ptr) ∧
        (t.foldUnit u).routing = dropFirst (fun j => j.srcShard == src) (s.foldUnit u).routing ∧
        t.hub = { s.hub with xbar := s.hub.xbar ++ [⟨16 + u, shardOf s.shards i.ctx g.d.sealNode g.sealOrd,
          ⟨.dec, i.ctx, g.d.sealNode, g.sealOrd, i.vslot, 1, 0, i.srcShard, none⟩, none⟩] } ∧
        t = { s with fold := t.fold, hub := t.hub, launches := t.launches, regs := t.regs, obs := t.obs, mem := t.mem,
                     poison := t.poison, reqs := t.reqs, cyc := t.cyc } ∧
        SameRegsBut s t [K.FLDW_ROUTED i.ctx, K.FLDW_ACCEPT i.ctx, K.PERT_CNT] ∧
        SameMemBut s t (s.lrecAddr i.ctx i.serial + 24) 8) ∧
    (∀ g, InGroup s u i o g →
      ((∃ l ∈ g.leaves, l.key = bits i.ordinal g.d.keyHi g.d.keyLo) →
        ∃ t, exec (.foldContribution src u) s = .next t ∧ t.reg (K.FLDW_DUP i.ctx) = s.reg (K.FLDW_DUP i.ctx) + 1 ∧
          Failed t i.ctx i.serial ∧ t.templates = s.templates ∧ t.cbs = s.cbs) ∧
      ((∀ l ∈ g.leaves, l.key ≠ bits i.ordinal g.d.keyHi g.d.keyLo) → g.d.window ≤ g.accepted →
        ∃ t, exec (.foldContribution src u) s = .next t ∧ t.reg (K.FLDW_OVER i.ctx) = s.reg (K.FLDW_OVER i.ctx) + 1 ∧
          Failed t i.ctx i.serial ∧ t.templates = s.templates ∧ t.cbs = s.cbs)) ∧
    ((s.foldUnit u).groupOf i o = none →
      (∃ j ∈ (s.foldUnit u).waiting, j.ctx = i.ctx) ∨ s.foldRoom (s.foldUnit u) i.ctx d.window = none →
      (s.foldWaiting i.ctx < (s.reg (K.FLDW_WAIT_N i.ctx)).toNat → s.writeOk (s.waitAddr i.ctx (s.waitPos i.ctx)) 32 = true →
        ∃ t, exec (.foldContribution src u) s = .next t ∧
          t.foldUnit u = { s.foldUnit u with
            routing := dropFirst (fun j => j.srcShard == src) (s.foldUnit u).routing,
            waiting := (s.foldUnit u).waiting ++ [{ i with stamp := s.tb, pos := s.waitPos i.ctx }] } ∧
          t = { s with fold := t.fold, regs := t.regs, obs := t.obs, mem := t.mem, poison := t.poison, reqs := t.reqs,
                       cyc := t.cyc } ∧ SameRegsBut s t [K.FLDW_ROUTED i.ctx, K.PERT_CNT] ∧
          SameMemBut s t (s.waitAddr i.ctx (s.waitPos i.ctx)) 32) ∧
      ((s.reg (K.FLDW_WAIT_N i.ctx)).toNat ≤ s.foldWaiting i.ctx →
        ∃ t, exec (.foldContribution src u) s = .next t ∧ t.reg (K.FLDW_LOST i.ctx) = s.reg (K.FLDW_LOST i.ctx) + 1 ∧
          Failed t i.ctx i.serial ∧ t.templates = s.templates ∧ t.cbs = s.cbs))) ∧
  (∀ (s : State) (src u : Nat) (i : FoldItem) (d : FoldDesc) (g : FGroup), HeadItem s src u i → s.viewItem i = .isSeal d →
    InGroup s u i i.ordinal g →
    ∃ t, exec (.foldSeal src u) s = .next t ∧ (∀ g', (t.foldUnit u).group? g.gid = some g' → g'.state ≠ .opened) ∧
      t.reg (K.FLDW_ACCEPT i.ctx) = BitVec.ofNat 32 (countTo 32 ((s.reg (K.FLDW_ACCEPT i.ctx)).toNat + 1)) ∧
      t.reg (K.FLDW_ROUTED i.ctx) = BitVec.ofNat 32 (countTo 32 ((s.reg (K.FLDW_ROUTED i.ctx)).toNat + 1)) ∧
      t.templates = s.templates ∧ t.cbs = s.cbs) ∧
  (∀ (s : State) (u : Nat) (i : FoldItem), s.running = true → s.firstAdmit? u = some i →
    (s.readOk (s.waitAddr i.ctx i.pos) 32 = true → s.viewItem i = .cancelled →
      ∃ t, exec (.foldWaitAdmit u false) s = .next t ∧
        t.foldUnit u = { s.foldUnit u with waiting := dropFirst (· == i) (s.foldUnit u).waiting, waitRR := i.ctx } ∧
        t.reg (K.FLDW_CANCEL i.ctx) = s.reg (K.FLDW_CANCEL i.ctx) + 1 ∧
        t = { s with fold := t.fold, regs := t.regs, obs := t.obs, reqs := t.reqs, cyc := t.cyc } ∧
        SameRegsBut s t [K.FLDW_CANCEL i.ctx]) ∧
    (∀ d o g, s.readOk (s.waitAddr i.ctx i.pos) 32 = true → s.viewItem i = .part d o → InGroup s u i o g → TakesKey g i →
      OutOk s i.ctx i.serial →
      ∃ t g', exec (.foldWaitAdmit u false) s = .next t ∧ (t.foldUnit u).group? g.gid = some g' ∧
        g'.accepted = g.accepted + 1 ∧ (t.foldUnit u).waiting = dropFirst (· == i) (s.foldUnit u).waiting ∧
        t.hub.slots = s.hub.slots ∧ SameRegsBut s t [K.FLDW_ACCEPT i.ctx] ∧ SameMemBut s t (s.lrecAddr i.ctx i.serial + 24) 8) ∧
    (∀ b : Bool, b = true ∨ s.readOk (s.waitAddr i.ctx i.pos) 32 = false →
      ∃ t, exec (.foldWaitAdmit u b) s = .next t ∧
        t.foldUnit u = { s.foldUnit u with waiting := dropFirst (· == i) (s.foldUnit u).waiting, waitRR := i.ctx } ∧
        t.reg K.ERR_CONT = BitVec.ofNat 32 (countTo 32 ((s.reg K.ERR_CONT).toNat + 1)) ∧
        (bit (t.reg K.AUD_UNC) 3 = true) ∧ t.hub = s.hub ∧ t.launches = s.launches ∧ SameMem s t))

/-- R132, R343: a combine request goes on lane O to a CMB engine that has fewer than 8 of them (which of those that wait: log entry
4); its acknowledgement takes it out, that of a combine decides its node, and that of a finish ends its group; one that failed fails
the launch. -/
def Obligations.CombineRequestsAndAcknowledgements : Prop :=
  (∀ (s : State) (u eng k : Nat) (r : FReq) (g : FGroup), s.running = true →
    (s.issuable u)[k % (s.issuable u).length]? = some r → (s.foldUnit u).group? r.grp = some g → engClass eng = 4 →
    eng < 1024 → s.combinesTo eng < 8 → s.traceHoldsFor g.ctx = false →
    ∃ t, exec (.combineRequestIssue u eng k) s = .next t ∧ t.out = s.out ++ [.lane eng 0x6 (combineWords u s g r)] ∧
      t.foldUnit u = { s.foldUnit u with
        reqs := dropFirst (fun q => q.eng.isNone && q.same r) (s.foldUnit u).reqs ++ [{ r with eng := some eng }] } ∧
      t = { s with fold := t.fold, out := t.out, obs := t.obs, regs := t.regs, cyc := t.cyc } ∧ SameRegsBut s t sideKeys) ∧
  (∀ (s : State) (e : Nat) (r : Rec4) (q : FReq) (g : FGroup), s.running = true →
    (s.foldUnit (bits r.w0 53 52)).reqs.find? (fun q => q.eng == some (bits r.w0 63 54) && q.tag == bits r.w0 51 38) = some q →
    (s.foldUnit (bits r.w0 53 52)).group? q.grp = some g → g.dead = false →
    (bits r.w0 37 30 = 0 → q.fin = true → g.d.doneEn = false →
      ∃ t, exec (.combineAck e r) s = .next t ∧ (t.foldUnit (bits r.w0 53 52)).group? g.gid = none ∧
        (t.foldUnit (bits r.w0 53 52)).reqs = dropFirst (fun p => p == q) (s.foldUnit (bits r.w0 53 52)).reqs ∧
        t = { s with fold := t.fold, obs := t.obs }) ∧
    (bits r.w0 37 30 = 0 → q.fin = false → g.arrival = false → g.state = .opened →
      ∃ t, exec (.combineAck e r) s = .next t ∧
        (t.foldUnit (bits r.w0 53 52)).group? g.gid = some (combineNode g q.level q.pfx) ∧
        t = { s with fold := t.fold, obs := t.obs }) ∧
    (bits r.w0 37 30 ≠ 0 → ∀ l, s.launch? g.ctx g.serial = some l →
      ∃ t, exec (.combineAck e r) s = .next t ∧ Failed t g.ctx g.serial ∧
        t.reg (K.FLDW_FAULT g.ctx) = s.reg (K.FLDW_FAULT g.ctx) + 1 ∧ t.templates = s.templates ∧ t.cbs = s.cbs))

/-! ## Rings and command buffers -/

namespace Sys2Proof.Claims

/-- The record of a CONTAINED report was counted (R366). -/
def Reported (s t : State) : Prop := t.reg K.ERR_CONT = BitVec.ofNat 32 (countTo 32 ((s.reg K.ERR_CONT).toNat + 1))

/-- The count in register `k` has risen by 1. -/
def Counted (s t : State) (k : RegKey) : Prop := t.reg k = BitVec.ofNat 32 (countTo 32 ((s.reg k).toNat + 1))

/-- Every operation of `c` that is open is one that the end of its command buffer leaves running: a DMA operation, a TEST, a LOOP or
a CALL. -/
def OnlyRunningOps (c : Cb) : Prop :=
  ∀ i ∈ c.insts, i.isOpen = true → opOPC i.m ∈ [0x06, 0x07, 0x08, 0x09, 0x0A, 0x0C]

end Sys2Proof.Claims

/-- R157, R155, R429, R156, R195: a doorbell that lies more than the ring's entries ahead is bad and reported, one ahead of the
latched one is latched, any other changes nothing; a fetch reads the next entry and gives it the next CSN, or finishes it CANCELLED
when it cannot be read; the entry in turn starts, or ends at once when its context is not enabled. -/
def Obligations.RingsFetchAndStart : Prop :=
  (∀ (s : State) (r : Nat) (v : W32), s.live = true →
    (s.ringEntries r < idxSub v.toNat (s.ring r).doneIdx →
      ∃ t, exec (.ringDb r v) s = .next t ∧ Counted s t K.FE_DB_BAD ∧ Reported s t ∧
        t = { s with regs := t.regs, glb := t.glb, out := t.out, cyc := t.cyc } ∧ SameRegsBut s t (K.FE_DB_BAD :: errKeys)) ∧
    (idxSub v.toNat (s.ring r).doneIdx ≤ s.ringEntries r →
      idxSub (s.ring r).db (s.ring r).doneIdx ≤ idxSub v.toNat (s.ring r).doneIdx →
      ∃ t, exec (.ringDb r v) s = .next t ∧ t.ring r = { s.ring r with db := v.toNat } ∧
        (∀ q, q ≠ r → t.ring q = s.ring q) ∧ t = { s with rings := t.rings }) ∧
    (idxSub v.toNat (s.ring r).doneIdx ≤ s.ringEntries r →
      idxSub v.toNat (s.ring r).doneIdx < idxSub (s.ring r).db (s.ring r).doneIdx → exec (.ringDb r v) s = .next s)) ∧
  (∀ (s : State) (r : Nat), s.running = true → s.active (.ring r) = true →
    (idxSub (s.ring r).db (s.ring r).doneIdx ≤ idxSub (s.ring r).fetch (s.ring r).doneIdx →
      exec (.ringFetch r) s = .next s) ∧
    (idxSub (s.ring r).fetch (s.ring r).doneIdx < idxSub (s.ring r).db (s.ring r).doneIdx →
      (∀ w, s.readWords (s.entryAddr r (s.ring r).fetch) 8 = some w →
        ∃ t, exec (.ringFetch r) s = .next t ∧
          t.cbs = s.cbs ++ [parseEntry r (s.ring r).fetch (s.ring r).csnNext s.tb w] ∧
          t.ring r = { s.ring r with fetch := ((s.ring r).fetch + 1) % 2 ^ 32, csnNext := ((s.ring r).csnNext + 1) % 2 ^ 64 } ∧
          (∀ q, q ≠ r → t.ring q = s.ring q) ∧ t = { s with cbs := t.cbs, rings := t.rings, obs := t.obs, reqs := t.reqs }) ∧
      (s.readWords (s.entryAddr r (s.ring r).fetch) 8 = none →
        ∃ t, exec (.ringFetch r) s = .next t ∧
          t.cbs = s.cbs ++ [badEntry r (s.ring r).fetch (s.ring r).csnNext s.tb s.hc] ∧ Reported s t ∧
          t = { s with cbs := t.cbs, rings := t.rings, obs := t.obs, regs := t.regs, glb := t.glb, out := t.out, reqs := t.reqs,
                       cyc := t.cyc } ∧
          SameRegsBut s t errKeys))) ∧
  (∀ (s : State) (c : Cb), s.running = true → s.cbs.find? (fun d => d.ring == c.ring && d.state == .fetched) = some c →
    s.cb? c.ring c.idx = some c → c.order = false →
    ((s.ctx c.ctx).state = .enabled → (s.unit (.ctx c.ctx)).draining = false → 0 < c.ops →
      s.cbsRunning c.ring < s.ringActive c.ring →
      ∃ t, exec (.cbStart c.ring) s = .next t ∧ CbAt t c (fun d => d = { c with state := .running }) ∧
        t = { s with cbs := t.cbs, obs := t.obs, regs := t.regs, cyc := t.cyc } ∧ SameRegsBut s t [K.TRC_LOST]) ∧
    ((s.ctx c.ctx).state = .disabled → c.term = none →
      ∃ t, exec (.cbStart c.ring) s = .next t ∧
        CbAt t c (fun d => d = { c with state := .finished, term := some ⟨stNOT_READY, 0, 0, 0, s.hc, 0⟩ }) ∧
        t = { s with cbs := t.cbs }) ∧
    ((s.ctx c.ctx).state = .resetting → c.term = none →
      ∃ t, exec (.cbStart c.ring) s = .next t ∧
        CbAt t c (fun d => d = { c with state := .finished, term := some ⟨stCANCELLED, 7, 0, 0, s.hc, 2⟩ }) ∧
        t = { s with cbs := t.cbs }) ∧
    ((s.ctx c.ctx).state = .enabled → (s.unit (.ctx c.ctx)).draining = false → c.ops = 0 →
      ∃ t, exec (.cbStart c.ring) s = .next t ∧ CbAt t c (fun d => d = { c with state := .finished }) ∧
        t = { s with cbs := t.cbs }))

namespace Sys2Proof.Claims

/-- The object that a name of context `ctx` maps to while the context is not saved. -/
def Maps (s : State) (ctx virt p : Nat) (o : Obj) : Prop :=
  s.savedOf ctx = none ∧ s.nameOf ctx virt = .phys p ∧ s.obj? p = some o

/-- Every object but `p` is as before. -/
def SameObjsBut (s t : State) (p : Nat) : Prop := ∀ q, q ≠ p → t.obj? q = s.obj? q

/-- Value of an object after a signal that releases no waiter (R216, R217). -/
def raised (o : Obj) (add : Bool) (n : Nat) : Nat :=
  if o.token = true ∨ add = true then min (o.value + n) maxVal else max o.value n

/-- Whether the scopes of an object's last signal and of a wait of `src` do not contain each other's observer (R233); none is
checked while SIGNALLED is 0. -/
def scopeMiss (s : State) (o : Obj) (src sc : Nat) : Bool :=
  o.signalled && !(scopeHas o.lastScope o.lastChip o.lastSrc s.chipId src && scopeHas sc s.chipId src o.lastChip o.lastSrc)

/-- The status of a wait that its object satisfies at intake (R233): SCOPE_MISMATCH on a mismatch while SYN_CFG SCOPE_CHK is 1. -/
def waitStatus (s : State) (o : Obj) (src sc : Nat) : Nat :=
  if scopeMiss s o src sc = true ∧ s.flag K.SYN_CFG 31 = true then stSCOPE_MISMATCH else stOK

/-- SCOPE_MM counts a mismatch, and nothing else (R233). -/
def MismatchCounted (s t : State) (o : Obj) (src sc : Nat) : Prop :=
  (scopeMiss s o src sc = true → Counted s t K.SCOPE_MM) ∧ (scopeMiss s o src sc = false → t.reg K.SCOPE_MM = s.reg K.SCOPE_MM) ∧
  SameRegsBut s t (K.SCOPE_MM :: sideKeys)

/-- The waiter of a WAIT that starts now. -/
def feWaiter (s : State) (c : Cb) (m : Rec4) (p thr : Nat) : Waiter :=
  ⟨false, c.ring, opSCOPE m, p, srcRing c.ring, thr, s.tb, c.ring, c.idx, c.nextPos, 0, c.ctx⟩

end Sys2Proof.Claims

/-- R228, R229, R233, R237: a WAIT whose object satisfies it completes OK, or SCOPE_MISMATCH after a scope check that fails, which
is counted; it takes a token where it is a token object. One that the object does not satisfy queues as a waiter with its stamp; on
an ABANDONED object it completes ABANDONED; with the pool full it is held unstamped; on an unmapped name (R220) it completes
UNSUPPORTED and is counted, and when the table entry reads as POISON its sync account is uncertain too (R380). On an object of a
saved context it joins the saved waiters (R236). -/
def Obligations.WaitTakesQueuesOrIsHeld : Prop :=
  ∀ (s : State) (c : Cb) (m : Rec4), Starting s c m → opOPC m = 0x02 → c.skips m = false →
    (s.poolFull = true →
      ∃ t, exec .opWait s = .next t ∧ t.sync = { s.sync with heldWaits := s.sync.heldWaits ++ [⟨c.ring, c.idx, c.nextPos⟩] } ∧
        OpAt t c (fun i => i.status = none) ∧ t = { s with cbs := t.cbs, obs := t.obs, sync := t.sync, reqs := t.reqs }) ∧
    (∀ p o, s.poolFull = false → Maps s c.ctx (opOBJ m) p o →
      (o.abandoned = true →
        ∃ t, exec .opWait s = .next t ∧ OpAt t c (fun i => i.status = some stABANDONED) ∧
          t = { s with cbs := t.cbs, obs := t.obs, regs := t.regs, reqs := t.reqs, cyc := t.cyc } ∧ SameRegsBut s t sideKeys) ∧
      (o.abandoned = false → o.token = false → m.w2.toNat ≤ o.value →
        ∃ t, exec .opWait s = .next t ∧ OpAt t c (fun i => i.status = some (waitStatus s o (srcRing c.ring) (opSCOPE m))) ∧
          MismatchCounted s t o (srcRing c.ring) (opSCOPE m) ∧
          t = { s with cbs := t.cbs, obs := t.obs, regs := t.regs, reqs := t.reqs, cyc := t.cyc }) ∧
      (o.abandoned = false → o.token = true → 1 ≤ o.value →
        ∃ t, exec .opWait s = .next t ∧ OpAt t c (fun i => i.status = some (waitStatus s o (srcRing c.ring) (opSCOPE m))) ∧
          MismatchCounted s t o (srcRing c.ring) (opSCOPE m) ∧
          t.obj? p = some { o with value := o.value - 1 } ∧ SameObjsBut s t p ∧ t.sync.waiters = s.sync.waiters ∧
          t = { s with cbs := t.cbs, obs := t.obs, regs := t.regs, sync := t.sync, reqs := t.reqs, cyc := t.cyc }) ∧
      (o.abandoned = false → (o.token = false ∧ o.value < m.w2.toNat) ∨ (o.token = true ∧ o.value = 0) →
        ∃ t, exec .opWait s = .next t ∧ OpAt t c (fun i => i.status = none) ∧
          t.sync = { s.sync with waiters := s.sync.waiters ++ [feWaiter s c m p (if o.token then 0 else m.w2.toNat)] } ∧
          t = { s with cbs := t.cbs, obs := t.obs, regs := t.regs, sync := t.sync, reqs := t.reqs, cyc := t.cyc } ∧
          SameRegsBut s t sideKeys)) ∧
    (s.poolFull = false → s.savedOf c.ctx = none → s.nameOf c.ctx (opOBJ m) = .unmapped →
      ∃ t, exec .opWait s = .next t ∧ OpAt t c (fun i => i.status = some stUNSUPPORTED) ∧ Counted s t K.SYN_UNMAPPED ∧
        Reported s t ∧ t = { s with cbs := t.cbs, obs := t.obs, regs := t.regs, glb := t.glb, out := t.out, reqs := t.reqs, cyc := t.cyc } ∧
        SameRegsBut s t (K.SYN_UNMAPPED :: errKeys)) ∧
    (s.poolFull = false → s.savedOf c.ctx = none → s.nameOf c.ctx (opOBJ m) = .poison →
      ∃ t, exec .opWait s = .next t ∧ OpAt t c (fun i => i.status = some stUNSUPPORTED) ∧ Counted s t K.SYN_UNMAPPED ∧
        t.flag K.AUD_UNC 4 = true ∧
        t = { s with cbs := t.cbs, obs := t.obs, regs := t.regs, glb := t.glb, out := t.out, reqs := t.reqs, cyc := t.cyc } ∧
        SameRegsBut s t (K.SYN_UNMAPPED :: K.AUD_UNC :: K.AUD_CTX_LO :: K.AUD_CTX_HI :: K.AUD_CAUSE :: errKeys)) ∧
    (∀ v k o, s.poolFull = false → s.savedOf c.ctx = some v → v.find (opOBJ m) = some k → v.objs[k]? = some o → o.abandoned = false →
      ∃ t, exec .opWait s = .next t ∧ OpAt t c (fun i => i.status = none) ∧
        t.ctx c.ctx = { s.ctx c.ctx with saved := some { v with waiters := v.waiters ++ [feWaiter s c m k m.w2.toNat] } } ∧
        (∀ d, d ≠ c.ctx → t.ctx d = s.ctx d) ∧ t = { s with cbs := t.cbs, obs := t.obs, ctxs := t.ctxs, reqs := t.reqs })

/-- R169, R216, R217, R229, R230: SIGNAL and RECORD are applied at their start: the value of the object rises, and never passes 2^64
− 1; of its waiters a value object releases those whose threshold is reached, a token object as many as it has tokens for, in
release order. On an unmapped name they complete UNSUPPORTED and no object changes (R220). -/
def Obligations.SignalAndRecordApplyAtOnce : Prop :=
  ∀ (s : State) (c : Cb) (m : Rec4) (x : Instr), Starting s c m → c.skips m = false →
    (x = .opSignal ∧ opOPC m = 0x03) ∨ (x = .opRecord ∧ opOPC m = 0x04) →
    (∀ p o, Maps s c.ctx (opOBJ m) p o → o.abandoned = false → s.waitersOf p = [] → s.sync.heldWaits = [] →
      ∃ t, exec x s = .next t ∧ OpAt t c (fun i => i.status = some stOK) ∧
        t.obj? p = some { o with
          value := raised o (opADD m) m.w2.toNat, lastChip := s.chipId, lastSrc := srcRing c.ring,
          lastScope := opSCOPE m, lastAdd := opADD m, signalled := true, lastStamp := s.tb } ∧
        SameObjsBut s t p ∧ t.sync.waiters = s.sync.waiters ∧
        t = { s with cbs := t.cbs, obs := t.obs, regs := t.regs, sync := t.sync, glb := t.glb, out := t.out, reqs := t.reqs,
                     cyc := t.cyc } ∧
        SameRegsBut s t (K.SYN_OVF :: K.TRC_LOST :: errKeys)) ∧
    (∀ p o, Maps s c.ctx (opOBJ m) p o → o.abandoned = false → (s.ctx o.ctx).state ≠ .saving → s.sync.heldWaits = [] →
      (o.token = false →
        ∃ t, exec x s = .next t ∧ OpAt t c (fun i => i.status.isSome = true) ∧
          (∃ q, t.obj? p = some q ∧ q.value = raised o (opADD m) m.w2.toNat) ∧ SameObjsBut s t p ∧
          t.sync.waiters = s.sync.waiters.filter (fun w => !(w.phys == p && decide (w.threshold ≤ raised o (opADD m) m.w2.toNat)))) ∧
      (o.token = true →
        ∃ t, exec x s = .next t ∧ OpAt t c (fun i => i.status.isSome = true) ∧
          (∃ q, t.obj? p = some q ∧ q.value = min (o.value + (m.w2.toNat - (s.waitersOf p).length)) maxVal) ∧ SameObjsBut s t p ∧
          t.sync.waiters = ((s.waitersOf p).take m.w2.toNat).foldl (fun l w => dropFirst (· == w) l) s.sync.waiters)) ∧
    (s.savedOf c.ctx = none → s.nameOf c.ctx (opOBJ m) = .unmapped →
      ∃ t, exec x s = .next t ∧ OpAt t c (fun i => i.status = some stUNSUPPORTED) ∧ Counted s t K.SYN_UNMAPPED ∧
        t.sync = s.sync ∧
        t = { s with cbs := t.cbs, obs := t.obs, regs := t.regs, glb := t.glb, out := t.out, reqs := t.reqs, cyc := t.cyc })

namespace Sys2Proof.Claims

/-- The unit at which a BARRIER arrives: unit N, or with GROUP 1 the local unit of an enabled fabric group (R238, R243). -/
def barUnit (s : State) (m : Rec4) : Option Nat :=
  if bit m.w0 28 then
    if s.isG4 = true ∧ bits m.w1 8 0 < 256 ∧ s.enabled (.grp (bits m.w1 8 0)) = true then some (s.grpUnit (bits m.w1 8 0)) else none
  else if bits m.w1 8 0 < 64 then some (bits m.w1 8 0) else none

end Sys2Proof.Claims

/-- R238 to R240, R242: a BARRIER that names no unit, or at a unit that is disabled or owned by another context, completes
UNSUPPORTED; at an ABANDONED unit it completes ABANDONED; one that does not fill the generation is counted in it and waits; the last
arrival releases the generation and completes OK. -/
def Obligations.BarrierCountsAndReleases : Prop :=
  ∀ (s : State) (c : Cb) (m : Rec4), Starting s c m → opOPC m = 0x05 → c.skips m = false →
    (barUnit s m = none ∨ (∃ u, barUnit s m = some u ∧ (s.enabled (.bar u) = false ∨ s.barOwner u ≠ c.ctx)) →
      ∃ t, exec .opBarrier s = .next t ∧ OpAt t c (fun i => i.status = some stUNSUPPORTED) ∧
        t = { s with cbs := t.cbs, obs := t.obs, reqs := t.reqs }) ∧
    (∀ u, barUnit s m = some u → s.enabled (.bar u) = true → s.barOwner u = c.ctx →
      ((s.bar u).abandoned = true →
        ∃ t, exec .opBarrier s = .next t ∧ OpAt t c (fun i => i.status = some stABANDONED) ∧
          t = { s with cbs := t.cbs, obs := t.obs, reqs := t.reqs }) ∧
      ((s.bar u).abandoned = false → (s.bar u).waiting = [] → (s.bar u).cur.fes.length < s.barExpect u →
        ((s.bar u).cur.cores.length ≠ s.barCores u ∨ (s.bar u).cur.fes.length + 1 ≠ s.barExpect u →
          ∃ t, exec .opBarrier s = .next t ∧ OpAt t c (fun i => i.status = none) ∧
            t.bar u = { s.bar u with
              cur := { (s.bar u).cur with fes := (s.bar u).cur.fes ++ [(c.ring, c.idx, c.nextPos)] } } ∧
            (∀ w, w ≠ u → t.bar w = s.bar w) ∧ t = { s with cbs := t.cbs, obs := t.obs, sync := t.sync, reqs := t.reqs }) ∧
        ((s.bar u).cur.cores.length = s.barCores u → (s.bar u).cur.fes.length + 1 = s.barExpect u → s.groupOf u = none →
          (s.bar u).next = ⟨[], []⟩ →
          ∃ t, exec .opBarrier s = .next t ∧ OpAt t c (fun i => i.status = some stOK) ∧
            (t.bar u).gen = ((s.bar u).gen + 1) % 2 ^ 32 ∧ (t.bar u).cur = ⟨[], []⟩ ∧ (t.bar u).rel = s.tb ∧
            (∀ w, w ≠ u → t.bar w = s.bar w) ∧
            t = { s with cbs := t.cbs, obs := t.obs, sync := t.sync, out := t.out, regs := t.regs, reqs := t.reqs, cyc := t.cyc } ∧
            SameRegsBut s t [K.TRC_LOST])))

namespace Sys2Proof.Claims

/-- The place of a command buffer's completion record, and that of the CSN word of its ring (R178, R181). -/
def recordAt (s : State) (c : Cb) : Nat :=
  addr48 (s.addrOf (K.RING_STAT_LO c.ring) (K.RING_STAT_HI c.ring) + c.idx % s.ringEntries c.ring * 32)
def csnAt (s : State) (c : Cb) : Nat := s.addrOf (K.RING_CSNA_LO c.ring) (K.RING_CSNA_HI c.ring)

/-- What the completion of a command buffer writes besides the CSN word: its audit records, when it is audited, and its completion
record, as places and sizes. -/
def recordWrites (s : State) (c : Cb) : List (Nat × Nat) :=
  (if c.audited then c.audits.zipIdx.map fun e => (addr48 (c.audPtr + 128 * e.2), (auditBytes c e.1).length) else []) ++
    [(recordAt s c, 32)]

/-- Two areas have no byte in common. -/
def Apart (a n b k : Nat) : Prop := a + n ≤ b ∨ b + k ≤ a

/-- The bytes at an address. -/
def Holds (t : State) (a : Nat) (bs : List Byte) : Prop := ∀ i, i < bs.length → t.byteAt (a + i) = bs.getD i 0

end Sys2Proof.Claims

/-- R178 to R184: a command buffer that is complete leaves with its audit records, when it is audited, and its completion record,
and is counted; the CSN word is raised to it when nothing before it is missing, and stays otherwise; its request is sent with the
CSN word. Nothing else of memory is written. A write that is refused is reported (log entry 83). -/
def Obligations.CommandBufferCompletes : Prop :=
  ∀ (s : State) (c : Cb), s.running = true → c.ring < 8 → s.cb? c.ring c.idx = some c → c.complete = true →
    (∃ t, exec (.cbComplete c.ring c.idx) s = .next t ∧ t.cbs = dropFirst (·.is c.ring c.idx) s.cbs ∧
      Counted s t (K.RING_CB_DONE c.ring) ∧ (c.good = false → Counted s t (K.RING_CB_FAIL c.ring)) ∧
      (c.good = true → t.reg (K.RING_CB_FAIL c.ring) = s.reg (K.RING_CB_FAIL c.ring)) ∧
      t = { s with cbs := t.cbs, rings := t.rings, mem := t.mem, poison := t.poison, obs := t.obs, regs := t.regs, out := t.out,
                   glb := t.glb, reqs := t.reqs, cyc := t.cyc } ∧
      SameRegsBut s t ([K.RING_CB_DONE c.ring, K.RING_CB_FAIL c.ring, K.TRC_LOST] ++ errKeys) ∧
      (∀ b, (∀ w ∈ recordWrites s c ++ [(csnAt s c, 8)], b < w.1 ∨ w.1 + w.2 ≤ b) → t.byteAt b = s.byteAt b) ∧
      ((s.ring c.ring).recorded = [] → (s.ring c.ring).nextCover = c.csn →
        (t.ring c.ring).done = c.csn ∧ (t.ring c.ring).doneIdx = ((s.ring c.ring).doneIdx + 1) % 2 ^ 32 ∧
        (MemInv s → s.writeOk (csnAt s c) 8 = true → Holds t (csnAt s c) (wordBytes (BitVec.ofNat 64 c.csn)))) ∧
      ((s.ring c.ring).nextCover ≠ c.csn → (s.ring c.ring).nextCover ∉ (s.ring c.ring).recorded →
        (t.ring c.ring).done = (s.ring c.ring).done ∧ (t.ring c.ring).doneIdx = (s.ring c.ring).doneIdx ∧
        (t.ring c.ring).recorded = (s.ring c.ring).recorded ++ [c.csn] ∧
        (∀ b, (∀ w ∈ recordWrites s c, b < w.1 ∨ w.1 + w.2 ≤ b) → t.byteAt b = s.byteAt b)) ∧
      (MemInv s → s.writeOk (recordAt s c) 32 = true → Apart (recordAt s c) 32 (csnAt s c) 8 →
        Holds t (recordAt s c) (wordsBytes (recordWords c s.tb))) ∧
      (∀ x, MemInv s → c.audited = true → c.audits = [x] → s.writeOk (addr48 c.audPtr) (auditBytes c x).length = true →
        Apart (addr48 c.audPtr) (auditBytes c x).length (recordAt s c) 32 →
        Apart (addr48 c.audPtr) (auditBytes c x).length (csnAt s c) 8 → Holds t (addr48 c.audPtr) (auditBytes c x))) ∧
    ((∀ w ∈ recordWrites s c ++ [(csnAt s c, 8)], s.writeOk w.1 w.2 = true) →
      ∃ t, exec (.cbComplete c.ring c.idx) s = .next t ∧ t.glb = s.glb ∧
        SameRegsBut s t [K.RING_CB_DONE c.ring, K.RING_CB_FAIL c.ring, K.TRC_LOST] ∧
        ((s.ring c.ring).recorded = [] → (s.ring c.ring).nextCover = c.csn → (s.ring c.ring).owed = [] →
          (c.irq = false → t.out = s.out) ∧
          (c.irq = true → (s.ring c.ring).holdoff = none → c.vector ∉ s.cyc.vecs → t.out = s.out ++ [.msix c.vector])))

/-- R184, R185: the end of a holdoff sends a merged request and starts a new holdoff, or ends with nothing sent; requests for one
vector in one hub cycle are one message (R421); the timeout of a running command buffer sets its status TIMEOUT and withdraws a
waiting WAIT with that status; a WAIT or BARRIER whose own time has run out completes TIMEOUT. Before their time none of them
changes anything. -/
def Obligations.RingTimersExpire : Prop :=
  (∀ (s : State) (r e : Nat), s.running = true → (s.ring r).holdoff = some e →
    (s.tb < e → exec (.msixHoldoffExpiry r) s = .next s) ∧
    (∀ v, e ≤ s.tb → (s.ring r).merged = some v →
      ∃ t, exec (.msixHoldoffExpiry r) s = .next t ∧ (v ∉ s.cyc.vecs → t.out = s.out ++ [.msix v]) ∧ (v ∈ s.cyc.vecs → t.out = s.out) ∧
        t.ring r = { s.ring r with merged := none, holdoff := some (s.tb + s.fld (K.RING_IRQ r) 31 16 * 1000) } ∧
        (∀ q, q ≠ r → t.ring q = s.ring q) ∧ t = { s with rings := t.rings, out := t.out, cyc := t.cyc }) ∧
    (e ≤ s.tb → (s.ring r).merged = none →
      ∃ t, exec (.msixHoldoffExpiry r) s = .next t ∧ t.ring r = { s.ring r with holdoff := none } ∧
        t = { s with rings := t.rings })) ∧
  (∀ (s : State) (c : Cb), s.running = true → s.cb? c.ring c.idx = some c → c.state = .running → c.complete = false →
    c.timed = false → c.term = none → s.cbLimit c ≠ 0 → c.startStamp + s.cbLimit c * 1000 ≤ s.tb →
    s.flag K.HANG_CTRL 29 = false → s.sync.heldWaits = [] →
    (OnlyRunningOps c →
      ∃ t, exec (.cbTimeout c.ring c.idx) s = .next t ∧
        CbAt t c (fun d => d.timed = true ∧ d.term = some ⟨stTIMEOUT, 0, 0, c.endIndex, s.hc, 1⟩) ∧ Counted s t K.FE_TIMEOUT ∧
        t = { s with cbs := t.cbs, regs := t.regs, cyc := t.cyc } ∧ SameRegsBut s t [K.FE_TIMEOUT]) ∧
    (∀ i, c.insts.filter (·.isOpen) = [i] → opOPC i.m = 0x02 → SeqOk c → c.inst? i.pos = some i →
      ∃ t, exec (.cbTimeout c.ring c.idx) s = .next t ∧
        CbAt t c (fun d => d.timed = true ∧ ∃ j, d.inst? i.pos = some j ∧ j.status = some stTIMEOUT) ∧
        Counted s t K.FE_TIMEOUT ∧ t.launches = s.launches ∧ t.mem = s.mem)) ∧
  (∀ (s : State) (c : Cb) (i : OpInst), s.running = true → s.cb? c.ring c.idx = some c → c.inst? i.pos = some i →
    i.isOpen = true → opWTIME i.m ≠ 0 →
    (s.tb < i.stamp + opWTIME i.m * 1000 → exec (.wtimeExpiry c.ring c.idx i.pos) s = .next s) ∧
    (i.stamp + opWTIME i.m * 1000 ≤ s.tb → opOPC i.m ∈ [0x02, 0x05] → s.sync.heldWaits = [] →
      ∃ t, exec (.wtimeExpiry c.ring c.idx i.pos) s = .next t ∧
        CbAt t c (fun d => ∃ j, d.inst? i.pos = some j ∧ j.status = some stTIMEOUT) ∧
        t = { s with cbs := t.cbs, obs := t.obs, sync := t.sync, ctxs := t.ctxs } ∧
        (∀ p, t.obj? p = s.obj? p) ∧ ∀ n, (t.ctx n).state = (s.ctx n).state))

/-- R186, R187, R212: FE_CANCEL of KIND 0 cancels the launch that it names, with its mark for CAUSE 1, and ends a switch of it that
goes on; of a launch that is cancelled already without one, and of one that is not in flight, nothing changes. KIND 1 ends one
fetched entry, KIND 2 every fetched entry of a ring; a write of another KIND changes nothing. -/
def Obligations.FrontEndCancels : Prop :=
  (∀ (s : State) (v : W32), s.live = true → s.glb.phase ≠ .boot → bits v 31 30 = 0 →
    (∀ l, s.launch? (bits v 25 20) (bits v 19 0) = some l → l.cancelled = false ∨ s.switchLive l = true →
      ∃ t m, exec (.feCancelLaunch v) s = .next t ∧ t.launch? (bits v 25 20) (bits v 19 0) = some m ∧ m.cancelled = true ∧
        m.dlk = bit v 29 ∧ t.switchLive m = false ∧ t.cbs = s.cbs ∧ t.templates = s.templates ∧ t.sync = s.sync) ∧
    (∀ l, s.launch? (bits v 25 20) (bits v 19 0) = some l → l.cancelled = true → s.switchLive l = false →
      exec (.feCancelLaunch v) s = .next s) ∧
    (s.launch? (bits v 25 20) (bits v 19 0) = none → exec (.feCancelLaunch v) s = .next s)) ∧
  (∀ (s : State) (v : W32) (c : Cb), s.live = true → s.glb.phase ≠ .boot → bits v 31 30 = 1 → s.sync.heldWaits = [] →
    s.cbs.find? (fun c => c.ring == bits v 28 26 && c.idx % 2 ^ 16 == bits v 15 0) = some c → s.cb? c.ring c.idx = some c →
    c.term = none →
    (c.state = .fetched →
      ∃ t, exec (.feCancelEntry v) s = .next t ∧
        CbAt t c (fun d => d = { c with state := .finished, term := some ⟨cancelCode v, 0, 0, 0, s.hc, 2⟩ }) ∧
        t = { s with cbs := t.cbs }) ∧
    (c.state = .running → c.complete = false → OnlyRunningOps c →
      ∃ t, exec (.feCancelEntry v) s = .next t ∧
        CbAt t c (fun d => d.term = some ⟨cancelCode v, 0, 0, c.endIndex, s.hc, 2⟩ ∧ d.cancel = (c.cancel || !c.timed)) ∧
        t = { s with cbs := t.cbs })) ∧
  (∀ (s : State) (v : W32), s.live = true → s.glb.phase ≠ .boot → bits v 31 30 = 2 → s.sync.heldWaits = [] →
    (s.cbs.map fun c => (c.ring, c.idx)).Nodup → (∀ c ∈ s.cbs, c.ring = bits v 28 26 → c.state = .fetched ∧ c.term = none) →
    ∃ t, exec (.feCancelRing v) s = .next t ∧ t = { s with
      cbs := s.cbs.map fun c => if c.ring = bits v 28 26 then
        { c with state := .finished, term := some ⟨cancelCode v, 0, 0, 0, s.hc, 2⟩ } else c }) ∧
  (∀ (s : State) (v : W32), s.live = true → s.glb.phase ≠ .boot →
    (bits v 31 30 ≠ 0 → exec (.feCancelLaunch v) s = .next s) ∧ (bits v 31 30 ≠ 1 → exec (.feCancelEntry v) s = .next s) ∧
    (bits v 31 30 ≠ 2 → exec (.feCancelRing v) s = .next s))

/-! ## Contexts -/

namespace Sys2Proof.Claims

/-- Every context but `c` is as before. -/
def SameCtxsBut (s t : State) (c : Nat) : Prop := ∀ d, d ≠ c → t.ctx d = s.ctx d

/-- A write through the window of context `c` that the block takes while it runs. -/
def CtxWrite (s : State) (o : Origin) (c : Nat) : Prop :=
  s.live = true ∧ s.glb.phase ≠ .boot ∧ s.glb.phase ≠ .setup ∧ s.glb.enable = true ∧ s.winInst o 1 = some c

/-- A write of CTX_CTRL. -/
def ctrlWrites (o : Origin) (v : W32) : List Instr := [.ctxCtrlEnableWrite o v, .ctxPauseWrite o v]

end Sys2Proof.Claims

/-- R193 to R196: a write of CTX_CTRL with ENABLE 1 enables a disabled context whose checks hold, in PAUSED when PAUSE is 1, and
refuses one whose checks fail; PAUSE moves an enabled context between ENABLED and PAUSED; ENABLE 0 makes it drain, and it is
disabled once nothing of it is in flight. -/
def Obligations.ContextEnablesPausesAndDrains : Prop :=
  (∀ (s : State) (o : Origin) (v : W32) (c : Nat) (x : Instr), CtxWrite s o c → x ∈ ctrlWrites o v →
    (s.unit (.ctx c) = UnitEn.off → (s.ctx c).state = .disabled → bit v 0 = true → s.ctxChecks c = true →
      ∃ t, exec x s = .next t ∧ t.unit (.ctx c) = ⟨true, true, false, false⟩ ∧
        (t.ctx c).state = (if bit v 1 then .paused else .enabled) ∧ SameUnitsBut s t (.ctx c) ∧ SameCtxsBut s t c ∧
        t = { s with regs := t.regs, ctxs := t.ctxs, en := t.en } ∧ SameRegsBut s t [K.CTX_CTRL c]) ∧
    (s.unit (.ctx c) = UnitEn.off → (s.ctx c).state = .disabled → bit v 0 = true → s.ctxChecks c = false →
      ∃ t, exec x s = .next t ∧ t.unit (.ctx c) = UnitEn.off ∧ (t.ctx c).state = .disabled ∧ (t.ctx c).refused = true ∧
        SameUnitsBut s t (.ctx c) ∧ SameCtxsBut s t c ∧
        t = { s with regs := t.regs, ctxs := t.ctxs, en := t.en, cyc := t.cyc } ∧ SameRegsBut s t [K.CTX_CTRL c]) ∧
    (s.unit (.ctx c) = ⟨true, true, false, false⟩ → ((s.ctx c).state = .enabled ∨ (s.ctx c).state = .paused) → bit v 0 = true →
      ∃ t, exec x s = .next t ∧ t.unit (.ctx c) = ⟨true, true, false, false⟩ ∧
        (t.ctx c).state = (if bit v 1 then .paused else .enabled) ∧ SameUnitsBut s t (.ctx c) ∧ SameCtxsBut s t c ∧
        t = { s with regs := t.regs, ctxs := t.ctxs, en := t.en } ∧ SameRegsBut s t [K.CTX_CTRL c]) ∧
    (s.unit (.ctx c) = ⟨true, true, false, false⟩ → (s.ctx c).state = .enabled → bit v 0 = false → bit v 1 = false →
      ∃ t, exec x s = .next t ∧ t.unit (.ctx c) = ⟨false, true, true, false⟩ ∧ (t.ctx c).state = .enabled ∧
        SameUnitsBut s t (.ctx c) ∧ SameCtxsBut s t c ∧
        t = { s with regs := t.regs, ctxs := t.ctxs, en := t.en } ∧ SameRegsBut s t [K.CTX_CTRL c])) ∧
  (∀ (s : State) (c : Nat), s.running = true → s.unit (.ctx c) = ⟨false, true, true, false⟩ →
    (s.ctxDrained c = true →
      ∃ t, exec (.ctxDrainComplete c) s = .next t ∧ t.unit (.ctx c) = UnitEn.off ∧ (t.ctx c).state = .disabled ∧
        SameUnitsBut s t (.ctx c) ∧ SameCtxsBut s t c ∧ t = { s with ctxs := t.ctxs, en := t.en }) ∧
    (s.ctxDrained c = false → exec (.ctxDrainComplete c) s = .next s))

namespace Sys2Proof.Claims

/-- A CTX_CMD command written through the window of context `c` that the block takes. -/
def CtxCmd (s : State) (o : Origin) (v : W32) (c cmd : Nat) : Prop :=
  s.live = true ∧ s.glb.phase ≠ .boot ∧ s.winInst o 1 = some c ∧ bits v 31 29 = cmd

/-- A command in a state for which Table 07-3 has no row is refused. -/
def CmdRefused (s t : State) (c : Nat) : Prop :=
  (t.ctx c).refused = true ∧ (t.ctx c).state = (s.ctx c).state ∧ SameCtxsBut s t c ∧ t = { s with ctxs := t.ctxs, cyc := t.cyc }

/-- The save area of a context, 25 MiB (Table 07-5), lies in the address space, and `P` holds of every part of it. -/
def SaveArea (s : State) (c : Nat) (P : Nat → Nat → Prop) : Prop :=
  s.saveBase c + 0x1900000 ≤ 2 ^ 48 ∧ ∀ a n, s.saveBase c ≤ a → a + n ≤ s.saveBase c + 0x1900000 → P a n

/-- The sections of the save area hold what there is to save. -/
def SaveFits (s : State) (c : Nat) : Prop :=
  (∀ sh, (s.hub.sprQueue.filter fun q => q.1 == sh && q.2.ctx == c).length ≤ 64) ∧ (s.ctxDlm c).length ≤ 1024 ∧
  (∀ e ∈ s.queues, e.1 < 65536) ∧ (∀ u, ∀ g ∈ (s.foldUnit u).groups, g.gid < 16384 ∧ ∀ n ∈ g.slotsUsed, n < 16384) ∧
  (s.ctxObjs c).length ≤ 262144 ∧ ((s.ctxObjs c).flatMap fun e => s.waitersOf e.1).length ≤ 65536 ∧ (s.ctxSlots c).length ≤ 262144

/-- A saved slot's record: the four words of its slot, its parameter pointer and its number (Table 07-5). -/
def slotRecord (e : (Nat × Nat) × Slot) : List Byte := wordsBytes (slotWords e.2 ++ [BitVec.ofNat 64 e.2.sprPtr, BitVec.ofNat 64 e.1.2])

/-- A signal left no release of a saved waiter to be carried out at restore. -/
def NoReleaseDue (v : Saved) : Prop :=
  ∀ w ∈ v.waiters, ∀ o, v.objs[w.phys]? = some o → if o.token then o.value = 0 else o.value < w.threshold

/-- The block has room for everything that a save holds (R205). -/
def RestoreFits (s : State) (v : Saved) : Prop :=
  s.objUsed + v.objs.length ≤ s.nObjs ∧ s.sync.waiters.length + v.waiters.length ≤ s.poolSize ∧
  (∀ sh, (v.slots.filter fun e => e.1.1 == sh).length ≤ s.freeOrdinary sh ∧
    s.usedSlots sh + (v.slots.filter fun e => e.1.1 == sh).length ≤ 16384) ∧
  v.slots.length ≤ 262144 ∧ v.objs.length ≤ 262144 ∧ v.waiters.length ≤ 65536

/-- No slot and no object of the context is in use. -/
def NothingOf (s : State) (c : Nat) : Prop := s.ctxSlots c = [] ∧ s.ctxObjs c = []

end Sys2Proof.Claims

/-- R201 to R205, R236: SAVE takes a PAUSED context with a save area, not while a disable drains (log entry 48), to SAVING; once it
is quiescent its slots, records, groups, objects and waiters are captured and written to its save area, and its objects and waiters
are freed; the end of the save frees its slots and groups and makes it SAVED; RESTORE takes a SAVED one to RESTORING, and the end of
the restore back to ENABLED or PAUSED with what was saved: its slots in their shards under new handles, its objects, and their
waiters. In any other state the commands are refused. The header's layout: log entry 105. -/
def Obligations.ContextSavesAndRestores : Prop :=
  (∀ (s : State) (o : Origin) (v : W32) (c : Nat), CtxCmd s o v c 1 →
    ((s.ctx c).state = .paused → s.saveBase c ≠ 0 → (s.unit (.ctx c)).draining = false →
      ∃ t, exec (.ctxSave o v) s = .next t ∧ (t.ctx c).state = .saving ∧ (t.ctx c).quiet = false ∧ (t.ctx c).saved = none ∧
        (t.ctx c).saveStamp = s.tb ∧ SameCtxsBut s t c ∧ t = { s with ctxs := t.ctxs }) ∧
    ((s.ctx c).state ≠ .paused ∨ s.saveBase c = 0 ∨ (s.unit (.ctx c)).draining = true →
      ∃ t, exec (.ctxSave o v) s = .next t ∧ CmdRefused s t c)) ∧
  (∀ (s : State) (c : Nat), s.running = true →
    (s.quiescent c = false → exec (.ctxQuiescent c) s = .next s) ∧
    (s.quiescent c = true → s.sync.heldWaits = [] →
      ∃ t v, exec (.ctxQuiescent c) s = .next t ∧ (t.ctx c).state = .saving ∧ (t.ctx c).quiet = true ∧
        (t.ctx c).saved = some v ∧ v.slots = s.ctxSlots c ∧ v.objs = (s.ctxObjs c).map (·.2) ∧ v.physIds = (s.ctxObjs c).map (·.1) ∧
        v.queue = s.hub.sprQueue.filter (fun q => q.2.ctx == c) ∧
        v.waiters = ((s.ctxObjs c).flatMap fun e => (s.waitersOf e.1).map fun w => { w with phys := listIdx e.1 (s.ctxObjs c) }) ∧
        v.groups = (s.fold.flatMap fun e => (e.2.groups.filter fun g => g.ctx == c && !g.dead).map fun g => (e.1, g.saved)) ∧
        (∀ p o, t.obj? p = some o → o.ctx ≠ c) ∧
        t.sync.waiters = s.sync.waiters.filter (fun w => !((s.ctxObjs c).any fun m => m.1 == w.phys)) ∧
        (∀ sh n, t.slot sh n = s.slot sh n) ∧ t.cbs = s.cbs ∧ t.launches = s.launches ∧ t.templates = s.templates ∧ SameCtxsBut s t c ∧
        (MemInv s → SaveArea s c (fun a n => s.writeOk a n = true) → SaveFits s c →
          (∀ i e, (s.ctxSlots c)[i]? = some e → Holds t (s.saveBase c + offSlot i) (slotRecord e)) ∧
          (∀ i o, ((s.ctxObjs c).map (·.2))[i]? = some o → Holds t (s.saveBase c + offObj i) (wordsBytes (savedObjWords o))) ∧
          ((∀ p ∈ s.hub.parked, p.ctx = c → p.inCellar = true) → SameMemBut s t (s.saveBase c) 0x1900000)))) ∧
  (∀ (s : State) (c : Nat), s.running = true → (s.ctx c).state = .saving → (s.ctx c).quiet = true →
    ∃ t, exec (.ctxSaveDone c) s = .next t ∧ (t.ctx c).state = .saved ∧ (t.ctx c).saved = (s.ctx c).saved ∧
      (∀ sh n, (s.slot sh n).state ≠ .free → (s.slot sh n).ctx = c → (t.slot sh n).state = .free) ∧
      ((s.hub.slots.map (·.1)).Nodup →
        ∀ sh n, (s.slot sh n).state = .free ∨ (s.slot sh n).ctx ≠ c → t.slot sh n = s.slot sh n) ∧
      (∀ q ∈ t.hub.sprQueue, q.2.ctx ≠ c) ∧ (∀ e ∈ t.fold, ∀ g ∈ e.2.groups, g.ctx ≠ c) ∧ SameCtxsBut s t c ∧
      t = { s with ctxs := t.ctxs, hub := t.hub, disp := t.disp, fold := t.fold }) ∧
  (∀ (s : State) (o : Origin) (v : W32) (c : Nat), CtxCmd s o v c 2 →
    ((s.ctx c).state = .saved →
      ∃ t, exec (.ctxRestore o v) s = .next t ∧ (t.ctx c).state = .restoring ∧ (t.ctx c).saved = (s.ctx c).saved ∧
        SameCtxsBut s t c ∧ t = { s with ctxs := t.ctxs }) ∧
    ((s.ctx c).state ≠ .saved → ∃ t, exec (.ctxRestore o v) s = .next t ∧ CmdRefused s t c)) ∧
  (∀ (s : State) (c : Nat) (v : Saved), s.running = true → (s.ctx c).state = .restoring → (s.ctx c).saved = some v →
    (restoreAll c v s = none → exec (.ctxRestoreDone c) s = .next s) ∧
    (∀ t, restoreAll c v s = some t →
      exec (.ctxRestoreDone c) s = .next t ∧ ((t.ctx c).state = .enabled ∨ (t.ctx c).state = .paused)) ∧
    (v.groups = [] → v.queue = [] → RestoreFits s v → SaveArea s c (fun a n => s.readOk a n = true) → NothingOf s c → NoReleaseDue v →
      (∀ w ∈ s.sync.waiters, (s.obj? w.phys).isSome = true) → (∀ w ∈ v.waiters, w.phys < v.objs.length) →
      (∀ e ∈ v.slots, e.2.state ≠ .free ∧ s.goesOn c (ordSerial e.2.ordinal) = true) →
      ∃ (t : State) (f g : Nat → Nat), exec (.ctxRestoreDone c) s = .next t ∧
        (t.ctx c).state = (if (s.ctx c).pause then .paused else .enabled) ∧ (t.ctx c).saved = none ∧ SameCtxsBut s t c ∧
        (∀ i e, v.slots[i]? = some e → (s.slot e.1.1 (f i)).state = .free ∧
          t.slot e.1.1 (f i) = { e.2 with gen := (s.slot e.1.1 (f i)).gen, reserved := false }) ∧
        (∀ i j d e, v.slots[i]? = some d → v.slots[j]? = some e → d.1.1 = e.1.1 → f i = f j → i = j) ∧
        (∀ i o, v.objs[i]? = some o → s.obj? (g i) = none ∧ t.obj? (g i) = some { o with signalled := false }) ∧
        (∀ i j, i < v.objs.length → j < v.objs.length → g i = g j → i = j) ∧
        (∀ w ∈ v.waiters, { w with phys := g w.phys } ∈ t.sync.waiters) ∧ (∀ w ∈ s.sync.waiters, w ∈ t.sync.waiters) ∧
        t.launches = s.launches ∧ t.templates = s.templates ∧ t.cbs = s.cbs) ∧
    (v = ⟨[], [], [], [], [], []⟩ → s.objUsed ≤ s.nObjs → s.sync.waiters.length ≤ s.poolSize → NothingOf s c → s.ctxDlm c = [] →
      s.readOk (addr48 (s.saveBase c)) 152 = true →
      ∃ t, exec (.ctxRestoreDone c) s = .next t ∧ (t.ctx c).state = (if (s.ctx c).pause then .paused else .enabled) ∧
        (t.ctx c).saved = none ∧ SameCtxsBut s t c ∧ t = { s with ctxs := t.ctxs, obs := t.obs, reqs := t.reqs }))

/-- R206, R207, R232, R237, R242, R373, R381: RESET takes a context that is not DISABLED to RESETTING, makes its objects and its
barrier units ABANDONED, so that no waiter stays on them, and cancels its launches; once nothing of it is left it is DISABLED; INIT
of a DISABLED one sets its serial and its counts to 0, its objects to value 0 and its barrier units usable again. In any other state
the commands are refused. -/
def Obligations.ContextResetsAndInitialises : Prop :=
  (∀ (s : State) (o : Origin) (v : W32) (c : Nat), CtxCmd s o v c 3 →
    ((s.ctx c).state ≠ .disabled →
      ∃ t, exec (.ctxReset o v) s = .next t ∧ (t.ctx c).state = .resetting ∧ (t.ctx c).saved = none ∧
        t.unit (.ctx c) = ⟨false, true, false, false⟩ ∧ (∀ n l, t.launch? c n = some l → l.cancelled = true) ∧
        (∀ p q, t.obj? p = some q → q.ctx = c → q.abandoned = true) ∧
        (∀ w ∈ t.sync.waiters, ∀ q, t.obj? w.phys = some q → q.ctx ≠ c) ∧
        (∀ u, u < 64 → s.barOwner u = c →
          (t.bar u).abandoned = true ∧ (t.bar u).cur = ⟨[], []⟩ ∧ (t.bar u).next = ⟨[], []⟩ ∧ (t.bar u).waiting = []) ∧
        ∀ d ∈ t.dlm, d.ctx ≠ c) ∧
    ((s.ctx c).state = .disabled → ∃ t, exec (.ctxReset o v) s = .next t ∧ CmdRefused s t c)) ∧
  (∀ (s : State) (c : Nat), s.running = true →
    ((s.ctx c).state = .resetting → s.unit (.ctx c) = ⟨false, true, false, false⟩ → s.hubGone c = true → s.foldGone c = true →
      s.feGone c = true → s.channelsGone c = true → s.fabGone c = true →
      ∃ t, exec (.ctxResetComplete c) s = .next t ∧ (t.ctx c).state = .disabled ∧ t.unit (.ctx c) = UnitEn.off ∧
        SameUnitsBut s t (.ctx c) ∧ SameCtxsBut s t c ∧ t = { s with ctxs := t.ctxs, en := t.en }) ∧
    (s.hubGone c = false ∨ s.foldGone c = false ∨ s.feGone c = false ∨ s.channelsGone c = false ∨ s.fabGone c = false →
      exec (.ctxResetComplete c) s = .next s)) ∧
  (∀ (s : State) (o : Origin) (v : W32) (c : Nat), CtxCmd s o v c 4 →
    ((s.ctx c).state = .disabled →
      ∃ t, exec (.ctxInit o v) s = .next t ∧ t.serialNext c = 0 ∧ (∀ k ∈ initCounts c, t.reg k = 0) ∧
        (∀ p q, s.obj? p = some q → q.ctx = c →
          t.obj? p = some { q with value := 0, abandoned := false, signalled := false }) ∧
        (∀ p q, s.obj? p = some q → q.ctx ≠ c → t.obj? p = some q) ∧
        (∀ u, u < 64 → s.barOwner u = c → t.bar u = { s.bar u with abandoned := false }) ∧
        t = { s with regs := t.regs, sync := t.sync, cyc := t.cyc }) ∧
    ((s.ctx c).state ≠ .disabled → ∃ t, exec (.ctxInit o v) s = .next t ∧ CmdRefused s t c))

/-- R209 to R212, R172: a checkpoint of a launch that is complete already switches nothing; one whose projection lies before the
deadline only records it; without an estimate it is counted, and with one that cannot be read its launch fails (log entry 45); one
whose projection reaches the deadline switches the launch: its fall-back is pinned and its remainder cancelled. When the primary has
drained its pin is released and the fall-back's entry goes on; a launch whose fall-back could not be pinned leaves the monitor. -/
def Obligations.DeadlineMonitorSwitches : Prop :=
  (∀ (s : State) (k : Ckpt) (d : DlmEntry) (l : Launch), s.running = true → s.ckpts = [k] →
    s.dlm.find? (·.is k.ctx k.serial) = some d → d.state = .tracking → d.dead = false → s.launch? k.ctx k.serial = some l →
    (s.launchDone l = true → exec .checkpointEval s = .next { s with ckpts := [] }) ∧
    (s.launchDone l = false → s.estimate k.ctx l.template k.node = .none →
      ∃ t, exec .checkpointEval s = .next t ∧ t.ckpts = [] ∧ Counted s t K.DLM_NOEST ∧
        t = { s with ckpts := [], regs := t.regs, cyc := t.cyc, obs := t.obs, reqs := t.reqs } ∧ SameRegsBut s t [K.DLM_NOEST]) ∧
    (∀ a, s.launchDone l = false → s.estimate k.ctx l.template k.node = .poison a →
      ∃ t, exec .checkpointEval s = .next t ∧ t.ckpts = [] ∧ Failed t k.ctx k.serial ∧ t.cbs = s.cbs ∧ t.templates = s.templates) ∧
    (∀ r sc p, s.launchDone l = false → s.estimate k.ctx l.template k.node = .found r sc →
      p = k.t + remaining r sc k.fmhz + s.fld K.DLM_CFG 31 12 →
      (p < d.deadline →
        ∃ t, exec .checkpointEval s = .next t ∧ t.dlm.find? (·.is k.ctx k.serial) = some { d with projection := p } ∧
          t = { s with ckpts := [], dlm := t.dlm, obs := t.obs, reqs := t.reqs }) ∧
      (∀ a, d.deadline ≤ p → s.lrecBad l = some a →
        ∃ t, exec .checkpointEval s = .next t ∧ Failed t k.ctx k.serial ∧ t.cbs = s.cbs ∧ t.templates = s.templates) ∧
      (∀ v, d.deadline ≤ p → s.lrecBad l = none → s.serialBusy k.ctx = false → (s.template k.ctx d.fb).current = some v →
        (s.vslot k.ctx d.fb v).launches < 1048575 →
        ∃ t e m f, exec .checkpointEval s = .next t ∧ t.dlm.find? (·.is k.ctx k.serial) = some e ∧ e.state = .switching ∧
          e.switchStamp = k.t ∧ e.projection = p ∧ e.fbSerial = s.serialNext k.ctx ∧ e.pinFail = d.pinFail ∧
          t.launch? k.ctx k.serial = some m ∧ m.cancelled = true ∧ t.launch? k.ctx (s.serialNext k.ctx) = some f ∧
          f.fbOf = some k.serial ∧ f.started = false ∧ f.template = d.fb ∧ f.params = l.params ∧ t.cbs = s.cbs))) ∧
  (∀ (s : State) (ctx serial pick : Nat) (d : DlmEntry) (l : Launch), s.running = true →
    s.dlm.find? (·.is ctx serial) = some d → s.launch? ctx serial = some l → d.state = .switching → d.dead = false →
    (s.drained ctx serial = false → exec (.dlmFallbackStart ctx serial pick) s = .next s) ∧
    (s.drained ctx serial = true → d.pinFail = none → l.pinned = true →
      ∃ t e m, exec (.dlmFallbackStart ctx serial pick) s = .next t ∧ t.dlm.find? (·.is ctx serial) = some e ∧
        e.state = .fallback ∧ e.drained = true ∧ t.launch? ctx serial = some m ∧ m.pinned = false ∧
        t.vslot ctx l.template l.vslot = (s.vslot ctx l.template l.vslot).unpinned) ∧
    (∀ st, s.drained ctx serial = true → d.pinFail = some st →
      ∃ t, exec (.dlmFallbackStart ctx serial pick) s = .next t ∧ t.dlm.find? (·.is ctx serial) = none ∧
        t.dlm = s.dlm.filter (fun e => !e.is ctx serial)))

/-! ## Synchronisation objects and requests -/

namespace Sys2Proof.Claims

/-- What a command on the name (ctx, n) may touch: the objects, the entry of the object table, and, when the memory port refuses its
write, a report (log entry 83). -/
def VtFrame (s t : State) (ctx n : Nat) : Prop :=
  t = { s with sync := t.sync, mem := t.mem, poison := t.poison, obs := t.obs, reqs := t.reqs, regs := t.regs, glb := t.glb,
               out := t.out, cyc := t.cyc } ∧
  SameMemBut s t (s.vtAddr ctx n) 8 ∧ SameRegsBut s t errKeys ∧
  (s.writeOk (s.vtAddr ctx n) 8 = true → t.regs = s.regs ∧ t.glb = s.glb ∧ t.out = s.out ∧ t.cyc = s.cyc)

/-- `t` holds the record at the end of its lane, and every other lane is as before (R340, R341). -/
def WaitsInLane (s t : State) (lane req ty : Nat) (r : Rec4) : Prop :=
  t.lane lane req = s.lane lane req ++ [⟨ty, r⟩] ∧ (∀ l e, (l, e) ≠ (lane, req) → t.lane l e = s.lane l e) ∧
  t = { s with lanes := t.lanes, obs := t.obs }

/-- A record that reports a CONTAINED error stands last in the log, when it is the first of its hub cycle. -/
def Logged (s t : State) (r : Rec4) : Prop := s.cyc.errs = 0 → t.glb.errLog.getLast? = some r

end Sys2Proof.Claims

/-- R219, R220: CREATE makes a physical object for a name inside the object table and writes its entry; one outside it is
UNSUPPORTED. DESTROY frees the object of a name, whose waiters go; RE-INIT sets it to SYN_VAL, and is UNSUPPORTED while it has
waiters. A command written while BUSY is 1 is discarded. That the sync unit carries a command out at once is the model's choice (log
entry 41). -/
def Obligations.SynCommands : Prop :=
  ∀ (s : State) (v : W32) (ctx n : Nat), s.running = true → s.glb.phase ≠ .boot → ctx = s.fld K.SYN_ARG 29 24 →
    n = s.fld K.SYN_ARG 23 0 →
    (s.sync.cmdBusy = true → exec (.synCreate v) s = .next s ∧ exec (.synDestroy v) s = .next s ∧
      exec (.synReinit v) s = .next s) ∧
    (s.sync.cmdBusy = false → bits v 31 30 = 1 →
      ((s.reg (K.SYN_VT_Nn ctx)).toNat ≤ n →
        exec (.synCreate v) s = .next { s with sync := { s.sync with cmdStatus := stUNSUPPORTED } }) ∧
      (∀ w p, n < (s.reg (K.SYN_VT_Nn ctx)).toNat → s.readWords (s.vtAddr ctx n) 1 = some w → bit (wordAt w 0) 63 = false →
        s.saveHeld ctx = false → (s.ctx ctx).state ≠ .resetting → s.freeObj = some p →
        ∃ t, exec (.synCreate v) s = .next t ∧ t.obj? p = some (newObj ctx n s.synVal (bit v 29)) ∧ SameObjsBut s t p ∧
          t.sync = { s.sync with objs := t.sync.objs, cmdStatus := stOK } ∧
          (MemInv s → s.writeOk (s.vtAddr ctx n) 8 = true → ∀ i, i < 8 → t.byteAt (s.vtAddr ctx n + i) =
            (wordsBytes [word [(63, 63, 1), (62, 61, if bit v 29 then 2 else 1), (17, 0, p)]]).getD i 0) ∧
          VtFrame s t ctx n)) ∧
    (∀ p o, s.sync.cmdBusy = false → s.nameOf ctx n = .phys p → s.obj? p = some o →
      (bits v 31 30 = 2 → s.sync.heldWaits = [] →
        ∃ t, exec (.synDestroy v) s = .next t ∧ t.obj? p = none ∧ SameObjsBut s t p ∧ t.sync.cmdStatus = stOK ∧
          t.sync.waiters = s.sync.waiters.filter (fun w => w.phys != p) ∧ SameMemBut s t (s.vtAddr ctx n) 8 ∧
          (s.waitersOf p = [] → t.sync = { s.sync with objs := t.sync.objs, cmdStatus := stOK } ∧ VtFrame s t ctx n)) ∧
      (bits v 31 30 = 3 → s.waitersOf p = [] →
        ∃ t, exec (.synReinit v) s = .next t ∧
          t.obj? p = some { o with value := s.synVal, abandoned := false, signalled := false } ∧ SameObjsBut s t p ∧
          t.sync = { s.sync with objs := t.sync.objs, cmdStatus := stOK } ∧
          t = { s with sync := t.sync, obs := t.obs, reqs := t.reqs }) ∧
      (bits v 31 30 = 3 → s.waitersOf p ≠ [] →
        ∃ t, exec (.synReinit v) s = .next t ∧
          t = { s with sync := { s.sync with cmdStatus := stUNSUPPORTED }, obs := t.obs, reqs := t.reqs }))

/-- R216, R217, R220, R223, R226 to R233, R237, R312, R318, R324, R329: a signal for an object of this chip raises its value and
releases its waiters with notices, scope mismatches counted (stated for an object with no waiter and with one); one for another chip
leaves as a packet, on a G4E it names no object; a data-carried one for this chip has no effect. An engine's wait that the object
satisfies is answered at once, one on an ABANDONED object ABANDONED, another one queues with its stamp; an unmapped name is counted
and answered UNSUPPORTED. A request behind others, or a wait with the pool full, stays in its lane (R340, R341; a full lane takes
nothing: log entry 91). -/
def Obligations.EngineSignalsAndWaits : Prop :=
  ∀ (s : State) (src : Nat) (r : Rec4), s.running = true →
    (s.lane 1 src = [] →
      (∀ p o, jOP r = 0 → jDEST r = s.chipId → jFRAG r = 0 → Maps s (jCTX r) (jOBJ r) p o → o.abandoned = false →
        s.sync.heldWaits = [] →
        (s.waitersOf p = [] →
          ∃ t, exec (.engineSignal src r) s = .next t ∧
            t.obj? p = some { o with
              value := raised o (jADD r) r.w1.toNat, lastChip := s.chipId, lastSrc := src, lastScope := jSCOPE r,
              lastAdd := jADD r, signalled := true, lastStamp := s.tb } ∧
            SameObjsBut s t p ∧ t.sync.waiters = s.sync.waiters ∧
            t = { s with obs := t.obs, regs := t.regs, sync := t.sync, glb := t.glb, out := t.out, reqs := t.reqs, cyc := t.cyc } ∧
            SameRegsBut s t (K.SYN_OVF :: K.TRC_LOST :: errKeys)) ∧
        (∀ w hits, s.waitersOf p = [w] → (s.ctx o.ctx).state ≠ .saving → w.isEng = true → o.token = false → jADD r = false →
          w.threshold ≤ max o.value r.w1.toNat →
          hits = (scopeHas (jSCOPE r) s.chipId src s.chipId w.src && scopeHas w.scope s.chipId w.src s.chipId src) →
          ∃ t, exec (.engineSignal src r) s = .next t ∧ t.sync.waiters = dropFirst (· == w) s.sync.waiters ∧
            t.out = s.out ++ [.lane (w.src % 2048) 0x3 (notice w.handle
              (if hits = true ∨ s.flag K.SYN_CFG 31 = false then stOK else stSCOPE_MISMATCH)
              (BitVec.ofNat 64 (max o.value r.w1.toNat)))] ∧
            (hits = false → Counted s t K.SCOPE_MM) ∧ (hits = true → t.reg K.SCOPE_MM = s.reg K.SCOPE_MM) ∧
            ((t.obj? p).map (·.value)) = some (max o.value r.w1.toNat) ∧ SameObjsBut s t p ∧
            t = { s with obs := t.obs, regs := t.regs, sync := t.sync, out := t.out, reqs := t.reqs, cyc := t.cyc } ∧
            SameRegsBut s t [K.SCOPE_MM, K.TRC_LOST])) ∧
      (jOP r = 0 → jDEST r ≠ s.chipId → s.portEn = true → s.fab.txWait = [] →
        (s.fab.unacked.filter fun u => u.chip == jDEST r).length < 65536 →
        ∃ t p, exec (.engineSignal src r) s = .next t ∧ t.out = s.out ++ [.packet p] ∧ pCls p = 2 ∧ pDstChip p = jDEST r ∧
          pCtx p = jCTX r ∧ p.w2 = BitVec.ofNat 64 (s.applyFrame (jCTX r)) ∧ p.w3 = r.w1 ∧
          t.fab.unacked = s.fab.unacked ++ [⟨jDEST r, Tab.get 0 s.fab.txSeq (jDEST r), jCTX r⟩] ∧
          t.reg K.FAB_SENT = s.reg K.FAB_SENT + 1 ∧
          t = { s with obs := t.obs, regs := t.regs, fab := t.fab, out := t.out, cyc := t.cyc } ∧ SameRegsBut s t [K.FAB_SENT]) ∧
      (jOP r = 0 → jDEST r ≠ s.chipId → s.isG4 = false →
        ∃ t, exec (.engineSignal src r) s = .next t ∧ Counted s t K.SYN_UNMAPPED ∧ Reported s t ∧
          t = { s with obs := t.obs, regs := t.regs, glb := t.glb, out := t.out, cyc := t.cyc } ∧
          SameRegsBut s t (K.SYN_UNMAPPED :: errKeys)) ∧
      (jOP r = 0 → jDEST r = s.chipId → jFRAG r ≠ 0 → ∃ t, exec (.engineSignal src r) s = .next t ∧ t = { s with obs := t.obs }) ∧
      (jOP r = 1 → s.engResetting src = true → ∃ t, exec (.engineWait src r) s = .next t ∧ t = { s with obs := t.obs }) ∧
      (∀ p o, s.engResetting src = false → s.poolFull = false → jOP r = 1 → Maps s (jCTX r) (jOBJ r) p o →
        (o.abandoned = true →
          ∃ t, exec (.engineWait src r) s = .next t ∧
            t.out = s.out ++ [.lane (src % 2048) 0x3 (notice (jHANDLE r) stABANDONED (BitVec.ofNat 64 o.value))] ∧
            t = { s with obs := t.obs, regs := t.regs, out := t.out, reqs := t.reqs, cyc := t.cyc } ∧ SameRegsBut s t sideKeys) ∧
        (o.abandoned = false → o.token = false → r.w1.toNat ≤ o.value →
          ∃ t, exec (.engineWait src r) s = .next t ∧
            t.out = s.out ++ [.lane (src % 2048) 0x3 (notice (jHANDLE r) (waitStatus s o src (jSCOPE r)) (BitVec.ofNat 64 o.value))] ∧
            MismatchCounted s t o src (jSCOPE r) ∧
            t = { s with obs := t.obs, regs := t.regs, out := t.out, reqs := t.reqs, cyc := t.cyc }) ∧
        (o.abandoned = false → o.token = true → 1 ≤ o.value →
          ∃ t, exec (.engineWait src r) s = .next t ∧
            t.out = s.out ++ [.lane (src % 2048) 0x3
              (notice (jHANDLE r) (waitStatus s o src (jSCOPE r)) (BitVec.ofNat 64 (o.value - 1)))] ∧
            t.obj? p = some { o with value := o.value - 1 } ∧ SameObjsBut s t p ∧ t.sync.waiters = s.sync.waiters ∧
            MismatchCounted s t o src (jSCOPE r) ∧
            t = { s with obs := t.obs, regs := t.regs, sync := t.sync, out := t.out, reqs := t.reqs, cyc := t.cyc }) ∧
        (o.abandoned = false → (o.token = false ∧ o.value < r.w1.toNat) ∨ (o.token = true ∧ o.value = 0) →
          ∃ t, exec (.engineWait src r) s = .next t ∧
            t.sync = { s.sync with waiters := s.sync.waiters ++
              [⟨true, s.waitPrio src (jHANDLE r), jSCOPE r, p, src, if o.token then 0 else r.w1.toNat, s.tb, 0, 0, 0,
                jHANDLE r, jCTX r⟩] } ∧
            t = { s with obs := t.obs, regs := t.regs, sync := t.sync, reqs := t.reqs, cyc := t.cyc } ∧ SameRegsBut s t sideKeys)) ∧
      (s.engResetting src = false → s.poolFull = false → jOP r = 1 → s.savedOf (jCTX r) = none →
        s.nameOf (jCTX r) (jOBJ r) = .unmapped →
        ∃ t x, exec (.engineWait src r) s = .next t ∧ Counted s t K.SYN_UNMAPPED ∧ Reported s t ∧
          .lane src 0x3 (notice (jHANDLE r) stUNSUPPORTED x) ∈ t.out ∧
          t = { s with obs := t.obs, regs := t.regs, glb := t.glb, out := t.out, reqs := t.reqs, cyc := t.cyc, free := s.free + 1 } ∧
          SameRegsBut s t (K.SYN_UNMAPPED :: errKeys))) ∧
    (∀ x, (jOP r = 0 ∧ x = .engineSignal src r) ∨ (jOP r = 1 ∧ x = .engineWait src r) ∨ (jOP r = 2 ∧ x = .arrive src r) ∨
        (jOP r = 3 ∧ x = .syncRequestBad src r) →
      s.lane 1 src ≠ [] ∨ (jOP r = 1 ∧ s.poolFull = true ∧ s.engResetting src = false) →
      ((s.lane 1 src).length < 8 → ∃ t, exec x s = .next t ∧ WaitsInLane s t 1 src 4 r) ∧
      (8 ≤ (s.lane 1 src).length → exec x s = .next s))

/-- R221, R238 to R240, R242: the arrival of a core at an enabled barrier unit of its context is counted in the generation that it
names; the last one releases the generation, and every counted core is answered with the new GEN; at a unit that is disabled or of
another context the core is answered UNSUPPORTED, at an ABANDONED one ABANDONED; an arrival for another generation, of a core
outside the mask or a second one is dropped and reported. A request with OP 0b11 is discarded, counted in SIG_BAD and reported with
code 0x16. -/
def Obligations.CoreArrivalsAndBadRequests : Prop :=
  ∀ (s : State) (src u : Nat) (r : Rec4), s.running = true → s.lane 1 src = [] →
    (jOP r = 3 →
      ∃ t, exec (.syncRequestBad src r) s = .next t ∧ Counted s t K.SIG_BAD ∧ Reported s t ∧
        Logged s t (errRecord 2 uSync 0x16 (some (jCTX r)) none (word [(23, 0, jOBJ r)]) s.tb) ∧
        (∀ q ty n, Out.lane q ty n ∈ t.out → Out.lane q ty n ∈ s.out) ∧
        t = { s with obs := t.obs, regs := t.regs, glb := t.glb, out := t.out, cyc := t.cyc } ∧
        SameRegsBut s t (K.SIG_BAD :: errKeys)) ∧
    (jOP r = 2 → u = bits r.w0 30 25 →
      (s.enabled (.bar u) = false ∨ s.barOwner u ≠ jCTX r →
        ∃ t, exec (.arrive src r) s = .next t ∧
          t.out = s.out ++ [.lane src 0x3 (notice (jHANDLE r) stUNSUPPORTED (BitVec.ofNat 64 (s.bar u).gen))] ∧
          t.fld (K.BAR_ERR u) 15 0 = countTo 16 (s.fld (K.BAR_ERR u) 15 0 + 1) % 2 ^ 16 ∧
          t = { s with obs := t.obs, regs := t.regs, out := t.out, cyc := t.cyc } ∧ SameRegsBut s t [K.BAR_ERR u]) ∧
      (s.enabled (.bar u) = true → s.barOwner u = jCTX r → (s.bar u).abandoned = true →
        ∃ t, exec (.arrive src r) s = .next t ∧
          t.out = s.out ++ [.lane src 0x3 (notice (jHANDLE r) stABANDONED (BitVec.ofNat 64 (s.bar u).gen))] ∧
          t = { s with obs := t.obs, out := t.out }) ∧
      (s.enabled (.bar u) = true → s.barOwner u = jCTX r → (s.bar u).abandoned = false →
        (bits r.w1 31 0 ≠ (s.bar u).gen → bits r.w1 31 0 ≠ ((s.bar u).gen + 1) % 2 ^ 32 →
          ∃ t, exec (.arrive src r) s = .next t ∧ Reported s t ∧
            t.fld (K.BAR_ERR u) 15 0 = countTo 16 (s.fld (K.BAR_ERR u) 15 0 + 1) % 2 ^ 16 ∧
            t = { s with obs := t.obs, regs := t.regs, glb := t.glb, out := t.out, cyc := t.cyc } ∧
            SameRegsBut s t (K.BAR_ERR u :: errKeys)) ∧
        (bits r.w1 31 0 = (s.bar u).gen → (s.bar u).gen < 2 ^ 32 - 1 →
          (s.barHas u (srcCore src) = false ∨ (∃ a ∈ (s.bar u).cur.cores, a.1 = srcCore src) →
            ∃ t, exec (.arrive src r) s = .next t ∧ Reported s t ∧
              t.fld (K.BAR_ERR u) 31 16 = countTo 16 (s.fld (K.BAR_ERR u) 31 16 + 1) % 2 ^ 16 ∧
              t = { s with obs := t.obs, regs := t.regs, glb := t.glb, out := t.out, cyc := t.cyc } ∧
              SameRegsBut s t (K.BAR_ERR u :: errKeys)) ∧
          (s.barHas u (srcCore src) = true → s.groupOf u = none → (∀ a ∈ (s.bar u).cur.cores, a.1 ≠ srcCore src) →
            ((s.bar u).cur.cores.length + 1 ≠ s.barCores u ∨ (s.bar u).cur.fes.length ≠ s.barExpect u →
              ∃ t, exec (.arrive src r) s = .next t ∧
                t.bar u = { s.bar u with
                  cur := { (s.bar u).cur with cores := (s.bar u).cur.cores ++ [(srcCore src, src, jHANDLE r)] } } ∧
                (∀ w, w ≠ u → t.bar w = s.bar w) ∧ t = { s with obs := t.obs, sync := t.sync }) ∧
            ((s.bar u).cur.cores.length + 1 = s.barCores u → (s.bar u).cur.fes = [] → s.barExpect u = 0 →
              (s.bar u).next = ⟨[], []⟩ → (s.bar u).waiting = [] →
              ∃ t, exec (.arrive src r) s = .next t ∧ (t.bar u).gen = (s.bar u).gen + 1 ∧ (t.bar u).cur = ⟨[], []⟩ ∧
                (t.bar u).rel = s.tb ∧ (∀ w, w ≠ u → t.bar w = s.bar w) ∧
                t.out = s.out ++ ((s.bar u).cur.cores ++ [(srcCore src, src, jHANDLE r)]).map (fun a =>
                  Out.lane a.2.1 0x3 (notice a.2.2 stOK (BitVec.ofNat 64 ((s.bar u).gen + 1)))) ∧
                t = { s with obs := t.obs, regs := t.regs, sync := t.sync, out := t.out, cyc := t.cyc } ∧
                SameRegsBut s t [K.TRC_LOST]))) ∧
        (bits r.w1 31 0 = ((s.bar u).gen + 1) % 2 ^ 32 → s.barHas u (srcCore src) = true → s.barFull u = false →
          (∀ a ∈ (s.bar u).next.cores, a.1 ≠ srcCore src) →
          ∃ t, exec (.arrive src r) s = .next t ∧
            t.bar u = { s.bar u with
              next := { (s.bar u).next with cores := (s.bar u).next.cores ++ [(srcCore src, src, jHANDLE r)] } } ∧
            (∀ w, w ≠ u → t.bar w = s.bar w) ∧ t = { s with obs := t.obs, sync := t.sync })))

/-- R223, R224, R244, R245, R246: the first notice of a key makes an entry, or fills the one that its announcement made; the
following ones are counted in it, the last one applies the signal and frees the entry; one that differs from the first is counted in
SIG_BAD and reported; with the table full the notice stays at the port. A deadlock that is due is declared: DECLARED and cause 2 are
set and only the snapshot area is written; one that is not due changes nothing. -/
def Obligations.NoticesAndDeadlocks : Prop :=
  (∀ (s : State) (chip src : Nat) (r : Rec4), s.running = true →
    (s.pend? chip src (jTAG r) = none →
      (4096 ≤ s.sync.pend.length → exec (.signalNotice chip src r) s = .next s) ∧
      (s.sync.pend.length < 4096 → 2 ≤ jFRAG r →
        ∃ t, exec (.signalNotice chip src r) s = .next t ∧
          t = { s with obs := t.obs, sync := { s.sync with pend := s.sync.pend ++ [newPend chip src r] } })) ∧
    (∀ e, s.pend? chip src (jTAG r) = some e → e.seen = 0 → 2 ≤ jFRAG r →
      ∃ t, exec (.signalNotice chip src r) s = .next t ∧
        t.pend? chip src (jTAG r) = some { newPend chip src r with ann := e.ann } ∧
        t = { s with obs := t.obs, sync := { s.sync with pend := t.sync.pend } }) ∧
    (∀ e, s.pend? chip src (jTAG r) = some e → e.seen ≠ 0 →
      (noticeSame e r = false →
        ∃ t, exec (.signalNotice chip src r) s = .next t ∧ Counted s t K.SIG_BAD ∧ Reported s t ∧
          t = { s with obs := t.obs, regs := t.regs, glb := t.glb, out := t.out, cyc := t.cyc } ∧
          SameRegsBut s t (K.SIG_BAD :: errKeys)) ∧
      (noticeSame e r = true → e.applied = false → e.seen + 1 < e.frag →
        ∃ t, exec (.signalNotice chip src r) s = .next t ∧
          t.pend? chip src (jTAG r) = some { e with seen := e.seen + 1 } ∧
          t = { s with obs := t.obs, sync := { s.sync with pend := t.sync.pend } }) ∧
      (∀ p o, noticeSame e r = true → e.applied = false → e.frag ≤ e.seen + 1 → e.chip = s.chipId → e.ann = none →
        Maps s e.ctx e.obj p o → o.abandoned = false → s.waitersOf p = [] → s.sync.heldWaits = [] →
        ∃ t, exec (.signalNotice chip src r) s = .next t ∧
          t.obj? p = some { o with
            value := raised o e.add e.value.toNat, lastChip := e.chip, lastSrc := e.src, lastScope := e.scope,
            lastAdd := e.add, signalled := true, lastStamp := s.tb } ∧
          SameObjsBut s t p ∧ t.sync.pend = dropFirst (·.is chip src (jTAG r)) s.sync.pend ∧
          t = { s with obs := t.obs, regs := t.regs, sync := t.sync, glb := t.glb, out := t.out, reqs := t.reqs, cyc := t.cyc } ∧
          SameRegsBut s t (K.SYN_OVF :: K.TRC_LOST :: errKeys)))) ∧
  (∀ (s : State) (g base n : Nat), s.running = true → base = s.addrOf K.DLD_SNAP_LO K.DLD_SNAP_HI →
    n = 64 + 32 * s.fld K.DLD_SNAP_N 16 0 →
    (s.blocked g = false ∨ s.watched g = false ∨ s.flag K.DLD_STAT g = true ∨
      Tab.get 0 s.sync.dldTicks g < max 2 (s.fld K.DLD_CFG 31 24) → exec (.deadlockDeclare g) s = .next s) ∧
    (g < 16 → s.watched g = true → s.flag K.DLD_STAT g = false → s.blocked g = true →
      max 2 (s.fld K.DLD_CFG 31 24) ≤ Tab.get 0 s.sync.dldTicks g → s.flag K.HANG_CTRL 30 = false →
      s.flag K.STOP_CTRL 29 = false →
      ∃ t, exec (.deadlockDeclare g) s = .next t ∧ t.flag K.DLD_STAT g = true ∧ t.flag K.IRQ_CAUSE 2 = true ∧
        SameMemBut s t base n ∧
        t = { s with regs := t.regs, out := t.out, mem := t.mem, poison := t.poison, obs := t.obs, reqs := t.reqs, glb := t.glb,
                     cyc := t.cyc, free := s.free + 1 } ∧
        SameRegsBut s t (K.DLD_STAT :: K.TRC_LOST :: errKeys) ∧
        (s.writeOk base n = true →
          t.glb = s.glb ∧ t.reg K.ERR_CONT = s.reg K.ERR_CONT ∧ (MemInv s → t.wordAtAddr base = BitVec.ofNat 64 g))))

/-! ## Message channels -/

namespace Sys2Proof.Claims

/-- A send answer of a status. -/
def sendAns (src handle st stamp : Nat) : Out := .lane src 0x4 ⟨word [(63, 32, handle), (31, 24, st)], BitVec.ofNat 64 stamp, 0, 0⟩

/-- Every queue descriptor but `q` is as before. -/
def SameQueuesBut (s t : State) (qs : List Nat) : Prop := ∀ p, p ∉ qs → t.queue p = s.queue p

/-- A send whose route and destinations are OPEN. -/
def RouteOpen (s : State) (route : Nat) : Prop :=
  (s.queue route).state = .opened ∧ ∀ q ∈ s.dests route, (s.queue q).state = .opened

end Sys2Proof.Claims

/-- R273 to R278, R280, R287, R294: a send that the route refuses is answered UNSUPPORTED and counted; one whose route or
destination is not OPEN is answered CHANNEL_CLOSED; one behind held ones, or that cannot be accepted yet, is held; one that finds
its route's hold queue full stays in its lane with all that follow it (R340), and so does one that another event of the hub cycle
goes before (which events fall in one hub cycle: log entry 2). The head of the hold queue waits while a destination has too little
credit; with credit (stated for a route of one destination) it is taken, the message gets its place and epoch, its payload is read
in the owner's partition, and it is answered once its payload has been read. -/
def Obligations.SendsAreAcceptedWithCredit : Prop :=
  (∀ (s : State) (src : Nat) (r : Rec4), s.running = true →
    (s.lane 2 src = [] → s.engResetting src = true →
      ∃ t, exec (.sendRequest src r) s = .next t ∧ t.reg (K.RT_REFUSED (msRoute r)) = s.reg (K.RT_REFUSED (msRoute r)) + 1 ∧
        t = { s with obs := t.obs, regs := t.regs, cyc := t.cyc } ∧ SameRegsBut s t [K.RT_REFUSED (msRoute r)]) ∧
    (s.lane 2 src = [] → s.engResetting src = false →
      (s.refusesSend src r = true →
        ∃ t, exec (.sendRequest src r) s = .next t ∧ t.out = s.out ++ [sendAns src (msHandle r) stUNSUPPORTED 0] ∧
          t.reg (K.RT_REFUSED (msRoute r)) = s.reg (K.RT_REFUSED (msRoute r)) + 1 ∧
          t = { s with obs := t.obs, regs := t.regs, out := t.out, cyc := t.cyc } ∧ SameRegsBut s t [K.RT_REFUSED (msRoute r)]) ∧
      (s.refusesSend src r = false → s.acceptWaits (msRoute r) src = false →
        (¬ RouteOpen s (msRoute r) →
          ∃ t, exec (.sendRequest src r) s = .next t ∧ t.out = s.out ++ [sendAns src (msHandle r) stCHANNEL_CLOSED 0] ∧
            t.reg (K.RT_CLOSED (msRoute r)) = s.reg (K.RT_CLOSED (msRoute r)) + 1 ∧
            t = { s with obs := t.obs, regs := t.regs, out := t.out, cyc := t.cyc } ∧ SameRegsBut s t [K.RT_CLOSED (msRoute r)]) ∧
        (RouteOpen s (msRoute r) → (s.queue (msRoute r)).hold.length < 16 →
          (s.queue (msRoute r)).hold ≠ [] ∨ s.saveHeld (s.queue (msRoute r)).owner = true ∨
            s.traceHoldsFor (s.queue (msRoute r)).owner = true ∨
            (∃ q, s.dests (msRoute r) = [q] ∧ q ≠ msRoute r ∧ s.credit q < (s.placeAt q (msLength r)).2.2.2) →
          ∃ t, exec (.sendRequest src r) s = .next t ∧
            t.queue (msRoute r) = { s.queue (msRoute r) with hold := (s.queue (msRoute r)).hold ++ [⟨src, r⟩] } ∧
            SameQueuesBut s t [msRoute r] ∧ t = { s with obs := t.obs, queues := t.queues }))) ∧
    (s.lane 2 src ≠ [] ∨ (s.engResetting src = false ∧ s.refusesSend src r = false ∧
        (s.acceptWaits (msRoute r) src = true ∨ (RouteOpen s (msRoute r) ∧ 16 ≤ (s.queue (msRoute r)).hold.length))) →
      ((s.lane 2 src).length < 8 → ∃ t, exec (.sendRequest src r) s = .next t ∧ WaitsInLane s t 2 src 5 r) ∧
      (8 ≤ (s.lane 2 src).length → exec (.sendRequest src r) s = .next s))) ∧
  (∀ (s : State) (route : Nat) (h : HeldSend) (tl : List HeldSend), s.running = true → Calm s →
    s.traceHoldsFor (s.queue route).owner = false → (s.queue route).hold = h :: tl → (s.queue route).state = .opened →
    s.saveHeld (s.queue route).owner = false →
    (s.acceptWaits route h.src = true ∨ takeCredits (msLength h.r) (s.dests route) s = none →
      exec (.sendAccept route) s = .next s) ∧
    (∀ q o pad at_ need, s.acceptWaits route h.src = false → s.dests route = [q] → q ≠ route →
      s.placeAt q (msLength h.r) = (o, pad, at_, need) → need ≤ s.credit q →
      ∃ t m, exec (.sendAccept route) s = .next t ∧ t.msgs = s.msgs ++ [m] ∧
        m.dests = [⟨q, (s.queue q).epoch, (s.queue q).seq, o, pad, at_, false, false⟩] ∧ m.route = route ∧ m.src = h.src ∧
        m.len = msLength h.r ∧ m.arg = h.r.w3 ∧ m.stamp = s.tb ∧ m.read = (msLength h.r == 32) ∧
        t.queue route = { s.queue route with hold := tl } ∧
        t.queue q = { s.queue q with
          prod := ((s.queue q).prod + need) % 2 ^ 32, seq := ((s.queue q).seq + 1) % 65536 } ∧
        SameQueuesBut s t [route, q] ∧ t.reg (K.RT_MSG route) = s.reg (K.RT_MSG route) + 1 ∧
        t.out = (if msLength h.r = 32 then s.out ++ [sendAns h.src (msHandle h.r) stOK s.tb] else s.out) ∧
        (msLength h.r = 32 → t.reqs = s.reqs) ∧
        (∃ l, t.reqs = s.reqs ++ l ∧ ∀ x ∈ l, x.write = false ∧ x.partition = s.partOf (some (s.queue route).owner)) ∧
        t = { s with queues := t.queues, msgs := t.msgs, nextId := s.nextId + 1, obs := t.obs, regs := t.regs, out := t.out,
                     reqs := t.reqs, cyc := t.cyc } ∧
        SameRegsBut s t [K.RT_MSG route, K.TRC_LOST])) ∧
  (∀ (s : State) (id : Nat) (m : Msg), s.running = true → s.msgs.find? (·.id == id) = some m →
    (m.read = true → exec (.payloadReadComplete id) s = .next s) ∧
    (m.read = false → (∃ d ∈ m.dests, d.done = false) →
      ∃ t, exec (.payloadReadComplete id) s = .next t ∧ t.out = s.out ++ [sendAns m.src m.handle stOK m.stamp] ∧
        t.msgs.find? (·.id == id) =
          some { m with read := true, payload := (s.readWords m.ptr m.payloadWords).getD [] } ∧
        t = { s with msgs := t.msgs, obs := t.obs, out := t.out }))

namespace Sys2Proof.Claims

/-- The one destination of `m` at landing `q` is settled: `m` leaves, and every other message that has something unsettled stays. -/
def Settled (s t : State) (m : Msg) : Prop :=
  (∀ x ∈ t.msgs, x.id ≠ m.id) ∧ ∀ x ∈ s.msgs, x.id ≠ m.id → (∃ e ∈ x.dests, e.done = false) → x ∈ t.msgs

/-- `d` is the only destination of `m`, the message next in turn at landing `q`, and no other message has its number. -/
def LandsNext (s : State) (q : Nat) (m : Msg) (d : MsgDest) : Prop :=
  s.running = true ∧ s.nextLanding q = some (m, d) ∧ m.dests = [d] ∧ (s.msgs.map (·.id)).Nodup ∧ m.read = true

/-- Whether the landing of `m` has failed as LANDING_FAULT says: a write of it is refused, or its payload came back uncorrectable.
-/
def LandingBad (s : State) (q : Nat) (m : Msg) (d : MsgDest) (refused : Bool) : Prop :=
  if refused then m.whole = true ∧ (s.queue q).kind = .ring ∧ s.ringTakes (s.ringWrites q m d) = false else m.whole = false

end Sys2Proof.Claims

/-- R278 to R284, R287, R290, R293, R294, for a message of one destination: a whole message lands at its ring in the place it was
given, its header written last, or in its head as it is; one of an earlier epoch is discarded and counted. A landing fault closes
the landing: what has not landed there is counted in LD_LOST and settled; an enable pending there stays (the model's reading, log
entry 104). An event that R294 puts first goes first. No other byte of memory changes. -/
def Obligations.MessagesLand : Prop :=
  (∀ (s : State) (q : Nat), s.running = true → s.nextLanding q = none → exec (.messageLand q) s = .next s) ∧
  (∀ (s : State) (q : Nat) (m : Msg) (d : MsgDest), LandsNext s q m d →
    (m.whole = false ∨ s.sooner q 5 = true → exec (.messageLand q) s = .next s) ∧
    (m.whole = true → s.sooner q 5 = false → d.epoch = (s.queue q).epoch → (s.queue q).kind = .ring →
      (s.ringTakes (s.ringWrites q m d) = false → exec (.messageLand q) s = .next s) ∧
      (s.ringTakes (s.ringWrites q m d) = true →
        ∃ t, exec (.messageLand q) s = .next t ∧ t.queue q = { s.queue q with landed := (s.queue q).landed + 1 } ∧
          SameQueuesBut s t [q] ∧ t.reg (K.LD_MSG q) = s.reg (K.LD_MSG q) + 1 ∧ Settled s t m ∧
          (∀ b, (∀ w ∈ s.ringWrites q m d, b < w.1 ∨ w.1 + 8 * w.2.length ≤ b) → t.byteAt b = s.byteAt b) ∧
          (MemInv s → d.pad = 0 → ∀ i, i < 32 + 8 * m.payload.length → t.byteAt (s.ringAddr q + d.offset + i) =
            (wordsBytes (headerWords m d ++ m.payload)).getD i 0) ∧
          t = { s with queues := t.queues, msgs := t.msgs, regs := t.regs, mem := t.mem, poison := t.poison, obs := t.obs,
                       reqs := t.reqs, cyc := t.cyc } ∧
          SameRegsBut s t [K.LD_MSG q])) ∧
    (m.whole = true → s.sooner q 5 = false → d.epoch = (s.queue q).epoch → (s.queue q).kind = .head → (s.queue q).blocked = [] →
      ∃ t, exec (.messageLand q) s = .next t ∧
        t.queue q = { s.queue q with
          landed := (s.queue q).landed + 1, head := (s.queue q).head ++ [headerWords m d ++ m.payload] } ∧
        SameQueuesBut s t [q] ∧ t.reg (K.LD_MSG q) = s.reg (K.LD_MSG q) + 1 ∧ Settled s t m ∧
        t = { s with queues := t.queues, msgs := t.msgs, regs := t.regs, cyc := t.cyc } ∧ SameRegsBut s t [K.LD_MSG q]) ∧
    (m.whole = true → s.sooner q 5 = false → d.epoch ≠ (s.queue q).epoch →
      ∃ t, exec (.messageLand q) s = .next t ∧ t.reg (K.LD_DISCARD q) = s.reg (K.LD_DISCARD q) + 1 ∧ Settled s t m ∧
        t = { s with msgs := t.msgs, regs := t.regs, obs := t.obs, cyc := t.cyc } ∧ SameRegsBut s t [K.LD_DISCARD q]) ∧
    (∀ refused : Bool,
      (¬ LandingBad s q m d refused ∨ s.sooner q 2 = true → exec (.landingFault m.id q refused) s = .next s) ∧
      (∀ n p, LandingBad s q m d refused → s.sooner q 2 = false → n = ((s.msgs.flatMap (·.dests)).filter (·.openAt q)).length →
        p = (s.unit (.queue q)).pending →
        ∃ t, exec (.landingFault m.id q refused) s = .next t ∧ (t.queue q).state = .closing ∧
          t.unit (.queue q) = ⟨p, true, true, p⟩ ∧ t.reg (K.LD_LOST q) = s.reg (K.LD_LOST q) + BitVec.ofNat 32 n ∧
          Reported s t ∧ t.unlanded q = false ∧ SameUnitsBut s t (.queue q) ∧
          t = { s with queues := t.queues, en := t.en, msgs := t.msgs, regs := t.regs, glb := t.glb, obs := t.obs, out := t.out,
                       cyc := t.cyc }))) ∧
  (∀ (s : State) (m : Msg) (d : MsgDest) (q : Nat), s.running = true → (s.msgs.map (·.id)).Nodup → m ∈ s.msgs → m.dests = [d] →
    d.openAt q = true → d.sink = true →
    (m.read = false → exec (.discardSinkDone m.id q) s = .next s) ∧
    (m.read = true →
      ∃ t, exec (.discardSinkDone m.id q) s = .next t ∧ t.reg (K.LD_DISCARD q) = s.reg (K.LD_DISCARD q) + 1 ∧ Settled s t m ∧
        t = { s with msgs := t.msgs, regs := t.regs, obs := t.obs, cyc := t.cyc } ∧ SameRegsBut s t [K.LD_DISCARD q]))

namespace Sys2Proof.Claims

/-- A count of 16 bits in field [hi:lo] of a register has risen by 1. -/
def FieldCounted (s t : State) (k : RegKey) (hi lo : Nat) : Prop := t.fld k hi lo = countTo 16 (s.fld k hi lo + 1) % 2 ^ 16

/-- What a consume request asks for is not the receiver's, lies beyond what was accepted, or more than has landed (R283). -/
def BadConsume (s : State) (src q : Nat) (w0 w1 : Word) : Prop :=
  src ≠ s.receiver q ∨ (s.queue q).landed < bits w1 31 0 ∨
    ((s.queue q).prod + 2 ^ 32 - (s.queue q).cons) % 2 ^ 32 < (bits w0 31 0 + 2 ^ 32 - (s.queue q).cons) % 2 ^ 32

/-- A word of the head of landing `q` for a reader. -/
def headOut (s : State) (q reader : Nat) (w : Word) : Out := .headWord (s.ldCore q) (s.ldHead q) reader w

end Sys2Proof.Claims

/-- R283 to R286, R294: a consume request of the receiver frees what it consumed; a stale one is dropped and counted, one of another
requester, or beyond what has landed, is counted and reported; one that names no ring landing is bad as well (log entry 40). A read
of a head gives the words of its oldest message in turn, and the last of them frees its room; reads that wait together are served in
ascending order; on an empty head a read blocks until HEAD_WAIT ends it with a MARK; a landing that is not OPEN answers with a MARK.
A G4E has no heads. -/
def Obligations.ConsumeAndHeadReads : Prop :=
  (∀ (s : State) (src q : Nat) (w0 w1 : Word), s.running = true → q = bits w0 63 48 →
    (s.lane 2 src ≠ [] ∨ (s.engResetting src = false ∧ s.sooner q 3 = true) →
      ((s.lane 2 src).length < 8 →
        ∃ t, exec (.consumeRequest src w0 w1) s = .next t ∧ WaitsInLane s t 2 src 6 ⟨w0, w1, 0, 0⟩) ∧
      (8 ≤ (s.lane 2 src).length → exec (.consumeRequest src w0 w1) s = .next s)) ∧
    (s.lane 2 src = [] → s.engResetting src = true ∨ (s.sooner q 3 = false ∧ s.isLanding q = true ∧ (s.queue q).kind = .ring ∧
        (bits w0 47 32 ≠ (s.queue q).epoch ∨ (s.queue q).state = .closed ∨ (s.queue q).state = .closing)) →
      ∃ t, exec (.consumeRequest src w0 w1) s = .next t ∧ FieldCounted s t (K.LD_CONS_ERR q) 15 0 ∧
        t.fld (K.LD_CONS_ERR q) 31 16 = s.fld (K.LD_CONS_ERR q) 31 16 ∧
        t = { s with regs := t.regs, obs := t.obs, cyc := t.cyc } ∧ SameRegsBut s t [K.LD_CONS_ERR q]) ∧
    (s.lane 2 src = [] → s.engResetting src = false → s.sooner q 3 = false →
      (s.isLanding q = false ∨ (s.queue q).kind ≠ .ring ∨ (bits w0 47 32 = (s.queue q).epoch ∧
          ((s.queue q).state = .opened ∨ (s.queue q).state = .draining) ∧ BadConsume s src q w0 w1) →
        ∃ t, exec (.consumeRequest src w0 w1) s = .next t ∧ FieldCounted s t (K.LD_CONS_ERR q) 31 16 ∧ Reported s t ∧
          t = { s with regs := t.regs, obs := t.obs, glb := t.glb, out := t.out, cyc := t.cyc } ∧
          SameRegsBut s t (K.LD_CONS_ERR q :: errKeys)) ∧
      (s.isLanding q = true → (s.queue q).kind = .ring → bits w0 47 32 = (s.queue q).epoch →
        ((s.queue q).state = .opened ∨ (s.queue q).state = .draining) → ¬ BadConsume s src q w0 w1 →
        ∃ t, exec (.consumeRequest src w0 w1) s = .next t ∧
          t.queue q = { s.queue q with cons := bits w0 31 0, landed := (s.queue q).landed - bits w1 31 0 } ∧
          SameQueuesBut s t [q] ∧ t = { s with queues := t.queues, obs := t.obs }))) ∧
  (∀ (s : State) (core head reader : Nat), s.running = true →
    (s.isG4 = false → exec (.headRead core head reader) s = .next s) ∧
    (s.isG4 = true → s.headOf core head = none →
      ∃ t e, exec (.headRead core head reader) s = .next t ∧ t.out = s.out ++ [.headWord core head reader (markWord e 2)] ∧
        t = { s with out := t.out, free := s.free + 1 })) ∧
  (∀ (s : State) (core head reader q : Nat), s.running = true → s.isG4 = true → s.headOf core head = some q →
    (s.readsMeet core head = true →
      ∃ t, exec (.headRead core head reader) s = .next t ∧
        t.queue q = { s.queue q with blocked := (s.queue q).blocked ++ [(reader, s.tb)] } ∧ SameQueuesBut s t [q] ∧
        t = { s with queues := t.queues }) ∧
    (∀ other b w x y tl, s.readsMeet core head = false → (s.queue q).blocked = [(other, b)] → other ≠ reader →
      (s.queue q).reading = w :: x :: y :: tl →
      ∃ t, exec (.headRead core head reader) s = .next t ∧
        t.out = s.out ++ [headOut s q (min other reader) w, headOut s q (max other reader) x] ∧
        t.queue q = { s.queue q with reading := y :: tl, blocked := [] } ∧ SameQueuesBut s t [q] ∧
        t = { s with queues := t.queues, out := t.out }) ∧
    (s.readsMeet core head = false → (s.queue q).blocked = [] →
      (∀ w, (s.queue q).reading = [w] →
        ∃ t, exec (.headRead core head reader) s = .next t ∧ t.out = s.out ++ [headOut s q reader w] ∧
          t.queue q = { s.queue q with
            reading := [], cons := ((s.queue q).cons + (s.queue q).readLen) % 2 ^ 32, landed := (s.queue q).landed - 1 } ∧
          SameQueuesBut s t [q] ∧ t = { s with queues := t.queues, out := t.out }) ∧
      (∀ w x tl, (s.queue q).reading = w :: x :: tl →
        ∃ t, exec (.headRead core head reader) s = .next t ∧ t.out = s.out ++ [headOut s q reader w] ∧
          t.queue q = { s.queue q with reading := x :: tl } ∧ SameQueuesBut s t [q] ∧
          t = { s with queues := t.queues, out := t.out }) ∧
      ((s.queue q).reading = [] → (s.queue q).state ≠ .opened →
        ∃ t, exec (.headRead core head reader) s = .next t ∧
          t.out = s.out ++ [headOut s q reader (markWord (s.queue q).epoch 2)] ∧ SameQueuesBut s t [] ∧
          t = { s with queues := t.queues, out := t.out }) ∧
      ((s.queue q).reading = [] → (s.queue q).state = .opened →
        (∀ w tl ms, (s.queue q).head = (w :: tl) :: ms →
          ∃ t, exec (.headRead core head reader) s = .next t ∧ t.out = s.out ++ [headOut s q reader w] ∧
            t.queue q = { s.queue q with reading := tl, readLen := 8 * (tl.length + 1), head := ms } ∧ SameQueuesBut s t [q] ∧
            t = { s with queues := t.queues, out := t.out }) ∧
        ((s.queue q).head = [] →
          ∃ t, exec (.headRead core head reader) s = .next t ∧
            t.queue q = { s.queue q with blocked := [(reader, s.tb)] } ∧ SameQueuesBut s t [q] ∧
            t = { s with queues := t.queues }))) ∧
    (∀ b, (s.queue q).blocked = [(reader, b)] →
      (s.fld K.CH_CFG 31 16 = 0 ∨ s.tb < b + s.fld K.CH_CFG 31 16 * 16 →
        ∃ t, exec (.headReadTimeout core head) s = .next t ∧ SameQueuesBut s t [] ∧ t = { s with queues := t.queues }) ∧
      (s.fld K.CH_CFG 31 16 ≠ 0 → b + s.fld K.CH_CFG 31 16 * 16 ≤ s.tb →
        ∃ t, exec (.headReadTimeout core head) s = .next t ∧
          t.out = s.out ++ [headOut s q reader (markWord (s.queue q).epoch 1)] ∧
          t.queue q = { s.queue q with blocked := [] } ∧ SameQueuesBut s t [q] ∧
          t = { s with queues := t.queues, out := t.out })))

namespace Sys2Proof.Claims

/-- A write of Q_CTRL through the window of descriptor `q`, one that software configures, taken while the units act. -/
def QWrite (s : State) (o : Origin) (q : Nat) : Prop :=
  s.live = true ∧ s.glb.phase ≠ .boot ∧ s.glb.phase ≠ .setup ∧ s.glb.enable = true ∧ s.winInst o 9 = some q ∧
    (s.queue q).kind ≠ .workq ∧ (s.queue q).kind ≠ .internal

end Sys2Proof.Claims

/-- R269, R271, R289, R291, R292, R359: a write of Q_CTRL (ENABLE and CLOSE lie in one register) sets KIND and OWNER of a CLOSED
descriptor; ENABLE 1 opens it when its configuration checks hold (a landing with a new epoch and its counts at 0) and refuses it
otherwise; ENABLE 0 drains it, and a route's held sends are answered CHANNEL_CLOSED; CLOSE sends what has not landed to the discard
sink, and keeps an enable that is pending (log entry 104). A drained or closed descriptor is CLOSED once nothing of it is left. -/
def Obligations.ChannelsOpenDrainAndClose : Prop :=
  (∀ (s : State) (o : Origin) (v : W32) (q : Nat) (x : Instr), QWrite s o q → x = .qCtrlEnableWrite o v ∨ x = .qClose o v →
    (∀ s', s' = writeKind q v s → s.unit (.queue q) = UnitEn.off → (s.queue q).state = .closed → bit v 0 = true →
      bit v 1 = false →
      (s'.configOk q = false →
        ∃ t, exec x s = .next t ∧ t.unit (.queue q) = UnitEn.off ∧
          t.queue q = { s'.queue q with cfgStatus := stUNSUPPORTED } ∧ SameUnitsBut s t (.queue q) ∧ SameQueuesBut s t [q] ∧
          t = { s with queues := t.queues, en := t.en }) ∧
      (s'.configOk q = true → (s'.queue q).kind = .route →
        ∃ t, exec x s = .next t ∧ t.unit (.queue q) = ⟨true, true, false, false⟩ ∧
          t.queue q = { s'.queue q with cfgStatus := stOK, state := .opened } ∧ SameUnitsBut s t (.queue q) ∧
          SameQueuesBut s t [q] ∧ t = { s with queues := t.queues, en := t.en }) ∧
      (s'.configOk q = true → (s'.queue q).kind.landing = true →
        ∃ t, exec x s = .next t ∧ t.unit (.queue q) = ⟨true, true, false, false⟩ ∧ (t.queue q).state = .opened ∧
          (t.queue q).cfgStatus = stOK ∧ (t.queue q).epoch = (if (s.queue q).epoch = 65535 then 1 else (s.queue q).epoch + 1) ∧
          (t.queue q).prod = 0 ∧ (t.queue q).cons = 0 ∧ (t.queue q).seq = 0 ∧ (t.queue q).landed = 0 ∧ (t.queue q).head = [] ∧
          t.reg (K.LD_DISCARD q) = s.reg (K.LD_DISCARD q) + BitVec.ofNat 32 (s.queue q).landed ∧
          SameUnitsBut s t (.queue q) ∧ SameQueuesBut s t [q] ∧ SameMemBut s t (s'.ringAddr q) 8 ∧
          t = { s with queues := t.queues, en := t.en, regs := t.regs, obs := t.obs, mem := t.mem, poison := t.poison,
                       reqs := t.reqs, glb := t.glb, out := t.out, cyc := t.cyc } ∧
          SameRegsBut s t (K.LD_DISCARD q :: errKeys) ∧
          (s.writeOk (s'.ringAddr q) 8 = true → t.glb = s.glb ∧ t.out = s.out ∧ SameRegsBut s t [K.LD_DISCARD q]))) ∧
    (s.unit (.queue q) = ⟨true, true, false, false⟩ → (s.queue q).state = .opened → bit v 0 = false → bit v 1 = false →
      (s.queue q).kind = .route →
      ∃ t, exec x s = .next t ∧ t.unit (.queue q) = ⟨false, true, true, false⟩ ∧
        t.queue q = { s.queue q with state := .draining, hold := [] } ∧ SameUnitsBut s t (.queue q) ∧ SameQueuesBut s t [q] ∧
        t.out = s.out ++ (s.queue q).hold.map (fun h => sendAns h.src (msHandle h.r) stCHANNEL_CLOSED 0) ∧
        t.reg (K.RT_CLOSED q) = s.reg (K.RT_CLOSED q) + BitVec.ofNat 32 (s.queue q).hold.length ∧
        t = { s with queues := t.queues, en := t.en, regs := t.regs, obs := t.obs, out := t.out, cyc := t.cyc } ∧
        SameRegsBut s t [K.RT_CLOSED q]) ∧
    (s.unit (.queue q) = ⟨true, true, false, false⟩ → (s.queue q).state = .opened → bit v 0 = false → bit v 1 = false →
      (s.queue q).kind.landing = true →
      ∃ t, exec x s = .next t ∧ t.unit (.queue q) = ⟨false, true, true, false⟩ ∧ (t.queue q).state = .draining ∧
        t.msgs = s.msgs ∧ SameUnitsBut s t (.queue q) ∧
        t = { s with queues := t.queues, en := t.en, regs := t.regs, obs := t.obs, out := t.out, cyc := t.cyc }) ∧
    (∀ p, p = (s.unit (.queue q)).pending → bit v 0 = (s.unit (.queue q)).enable → bit v 1 = true → s.isLanding q = true →
      ((s.queue q).state = .opened ∨ (s.queue q).state = .draining) →
      ∃ t, exec x s = .next t ∧ t.unit (.queue q) = ⟨p, true, true, p⟩ ∧ (t.queue q).state = .closing ∧
        (∀ m ∈ t.msgs, ∀ d ∈ m.dests, d.openAt q = true → d.sink = true) ∧ SameUnitsBut s t (.queue q) ∧
        t = { s with queues := t.queues, en := t.en, msgs := t.msgs, regs := t.regs, obs := t.obs, out := t.out, cyc := t.cyc })) ∧
  (∀ (s : State) (q : Nat) (x : Instr), s.running = true → (s.unit (.queue q)).pending = false →
    (s.isLanding q = true → (x = .landingDrainComplete q ∧ (s.queue q).state = .draining) ∨
        (x = .landingCloseComplete q ∧ (s.queue q).state = .closing) →
      (s.unlanded q = true → exec x s = .next s) ∧
      (s.unlanded q = false →
        ∃ t, exec x s = .next t ∧ t.unit (.queue q) = UnitEn.off ∧
          t.queue q = { s.queue q with
            state := .closed, head := [], landed := (s.queue q).landed - (s.queue q).head.length } ∧
          ((s.queue q).kind = .head →
            t.reg (K.LD_DISCARD q) = s.reg (K.LD_DISCARD q) + BitVec.ofNat 32 (s.queue q).head.length) ∧
          SameUnitsBut s t (.queue q) ∧ SameQueuesBut s t [q] ∧
          t = { s with queues := t.queues, en := t.en, regs := t.regs, obs := t.obs, cyc := t.cyc } ∧
          SameRegsBut s t [K.LD_DISCARD q])) ∧
    (x = .routeCloseComplete q → (s.queue q).kind = .route → (s.queue q).state = .draining ∨ (s.queue q).state = .closing →
      ((∃ m ∈ s.msgs, m.route = q ∧ m.read = false) → exec x s = .next s) ∧
      ((∀ m ∈ s.msgs, m.route = q → m.read = true) →
        ∃ t, exec x s = .next t ∧ t.unit (.queue q) = UnitEn.off ∧ (t.queue q).state = .closed ∧ SameUnitsBut s t (.queue q) ∧
          SameQueuesBut s t [q] ∧ t = { s with queues := t.queues, en := t.en })))

/-! ## Time, frames and the fabric port -/

namespace Sys2Proof.Claims

/-- A CTRL packet of class `cls` that the port takes. -/
def TakesCtrl (s : State) (p : Rec8) (cls : Nat) : Prop :=
  s.glb.initDone = true ∧ s.portEn = true ∧ s.live = true ∧ pCls p = cls

/-- Nothing waits to leave through the port, so a packet leaves at once. -/
def PortFree (s : State) : Prop := s.portEn = true ∧ s.fab.txWait = []

/-- The ACK of one item, with its LOST bit. -/
def ackPkt (s : State) (p : Rec8) (lost : Bool) : Out :=
  .packet (packet s 5 (pSrcChip p) 0 srcFabric 0 (word [(59, 59, 1), (58, 58, b2n lost), (57, 40, pSeq p)]) 0)

/-- Nothing is held that a frame tick could apply. -/
def NothingHeld (s : State) : Prop := s.fab.hold = [] ∧ s.sync.grps = [] ∧ s.sync.pend = []

/-- LOCKED is 1 and 8 periods have passed without a TIME_RSP (R304). -/
def NoResponse (s : State) : Prop := s.fab.locked = true ∧ s.fab.lastRsp + 8 * s.exchangeNs ≤ s.tb

end Sys2Proof.Claims

/-- R301 to R304, R307, R322: a time exchange, begun once PERIOD has passed since the last, sends TIME_REQ to the parent; TIME_REQ
is answered with T1 and T2; a TIME_RSP that answers the exchange under way enters the offsets, 16 good ones in a row lock the chip,
and 4 bad ones in a row, or 8 periods without a TIME_RSP, cost it the lock; while STEP_EN is 0 no exchange changes the timebase. A
frame whose start has come ticks, once, and what is held for it takes effect; before it nothing does. -/
def Obligations.TimeExchangesAndFrameTicks : Prop :=
  (∀ s : State, (s.portEn = false ∨ s.isMaster = true ∨ s.glb.initDone = false ∨ s.live = false ∨ s.exchangeDue = false →
      exec .timeExchangeStart s = .next s) ∧
    (s.glb.initDone = true → s.live = true → s.isMaster = false → s.exchangeDue = true → PortFree s →
      (¬ NoResponse s →
        ∃ t q, exec .timeExchangeStart s = .next t ∧ t.out = s.out ++ [.packet q] ∧ pCls q = 6 ∧
          pDstChip q = s.fld K.FAB_CFG 21 12 ∧ q.w1 = BitVec.ofNat 64 s.tb ∧
          t = { s with fab := { s.fab with asked := some s.tb, lastReq := some s.tb }, out := t.out }) ∧
      (NoResponse s →
        ∃ t, exec .timeExchangeStart s = .next t ∧ t.fab.locked = false ∧ t.fab.asked = some s.tb ∧ Counted s t K.FAB_UNLOCK ∧
          Reported s t ∧ t = { s with fab := t.fab, out := t.out, regs := t.regs, glb := t.glb, cyc := t.cyc, free := s.free + 1 } ∧
          SameRegsBut s t (K.FAB_UNLOCK :: errKeys)))) ∧
  (∀ (s : State) (p : Rec8), TakesCtrl s p 6 → PortFree s →
    ∃ t q, exec (.timeReq p) s = .next t ∧ t.out = s.out ++ [.packet q] ∧ pCls q = 7 ∧ pDstChip q = pSrcChip p ∧ q.w3 = p.w1 ∧
      q.w4 = BitVec.ofNat 64 s.tb ∧ t = { s with obs := t.obs, out := t.out }) ∧
  (∀ (s : State) (p : Rec8), TakesCtrl s p 7 →
    (s.fab.asked ≠ some p.w3.toNat ∨ s.isMaster = true → ∃ t, exec (.timeRsp p) s = .next t ∧ t = { s with obs := t.obs }) ∧
    (∀ o : Int, s.fab.asked = some p.w3.toNat → s.isMaster = false → o = offset2 p s.tb →
      (-4 ≤ o → o ≤ 4 →
        ∃ t, exec (.timeRsp p) s = .next t ∧ t.fab.asked = none ∧ t.fab.lastRsp = s.tb ∧
          t.fab.offsets = (o :: s.fab.offsets).take 16 ∧ t.fab.badRun = 0 ∧
          t.fab.locked = (s.fab.locked || (decide (-2 ≤ o ∧ o ≤ 2) && decide (15 ≤ s.fab.goodRun))) ∧
          (s.flag K.FAB_CFG 11 = false → t.tb = s.tb) ∧ t = { s with obs := t.obs, fab := t.fab, tb := t.tb }) ∧
      ((o < -4 ∨ 4 < o) → s.fab.badRun = 3 → s.fab.locked = true →
        ∃ t, exec (.timeRsp p) s = .next t ∧ t.fab.locked = false ∧ Counted s t K.FAB_UNLOCK ∧ Reported s t ∧
          (s.flag K.FAB_CFG 11 = false → t.tb = s.tb) ∧
          t = { s with obs := t.obs, fab := t.fab, tb := t.tb, regs := t.regs, glb := t.glb, out := t.out, cyc := t.cyc,
                       free := s.free + 1 } ∧
          SameRegsBut s t (K.FAB_UNLOCK :: errKeys)))) ∧
  (∀ s : State, s.live = true →
    (s.tb < s.epochNs + s.fab.frame * s.frameLen → exec .frameTick s = .next s) ∧
    (s.epochNs + s.fab.frame * s.frameLen ≤ s.tb →
      (NothingHeld s →
        ∃ t, exec .frameTick s = .next t ∧ t.fab = { s.fab with
            frame := s.fab.frame + 1, startDone := s.fab.startDone || (s.fab.frame == 0 && s.fab.startGo.isSome) } ∧
          t = { s with fab := t.fab, obs := t.obs, regs := t.regs, sync := { s.sync with dldTicks := t.sync.dldTicks },
                       cyc := t.cyc, free := s.free + 1 } ∧
          SameRegsBut s t [K.TRC_LOST]) ∧
      (∀ p, s.fab.hold = [p] → s.sync.grps = [] → s.sync.pend = [] → pCls p = 1 →
        (s.fab.frame < pApply p →
          ∃ t, exec .frameTick s = .next t ∧ t.fab.hold = [p] ∧ t.hub = s.hub ∧ t.out = s.out) ∧
        (∀ l, pApply p ≤ s.fab.frame → PortFree s → s.launch? (pCtx p) (dSerial p) = some l →
          ∃ t, exec .frameTick s = .next t ∧ t.fab.hold = [] ∧ t.out = s.out ++ [ackPkt s p false] ∧
            t.hub = { s.hub with xbar := s.hub.xbar ++
              [⟨20, shardOf s.shards (pCtx p) (dNode p) (dOrd p), decArr p l.vslot, some p⟩] } ∧
            t = { s with fab := t.fab, hub := t.hub, obs := t.obs, regs := t.regs,
                         sync := { s.sync with dldTicks := t.sync.dldTicks }, out := t.out, cyc := t.cyc, free := s.free + 1 } ∧
            SameRegsBut s t [K.TRC_LOST]))))

/-- R310, R327, R403, R426: ARRIVE tells the root, which sends START_GO with its T_GO and the frame length that it acts on once all
have arrived (stated for the root and one more member); a chip that takes START_GO in time sets FRM_EPOCH and FRM_LEN from it, and
one that takes it late flags that. STOP arms the stop at its T_STOP, or, when that lies too near, at the earliest time with a flag;
an armed stop ignores it. -/
def Obligations.StartBarrierAndStopPackets : Prop :=
  (∀ (s : State) (v : W32), s.live = true → s.glb.phase ≠ .boot →
    (bit v 0 = false → ∃ t, exec (.arriveStart v) s = .next t ∧ t = { s with regs := t.regs } ∧ SameRegsBut s t [K.FAB_START]) ∧
    (bit v 0 = true → s.glb.initDone = true → s.anyCtx = false → PortFree s → bits v 29 20 ≠ s.chipId →
      ∃ t q, exec (.arriveStart v) s = .next t ∧ t.out = s.out ++ [.packet q] ∧ pCls q = 8 ∧ pDstChip q = bits v 29 20 ∧
        t.fld K.FAB_START 29 20 = bits v 29 20 ∧ t.fab = { s.fab with startArrived := true } ∧
        t = { s with regs := t.regs, fab := t.fab, out := t.out } ∧ SameRegsBut s t [K.FAB_START])) ∧
  (∀ (s : State) (p : Rec8), TakesCtrl s p 8 →
    (s.isStartRoot = false ∨ pSrcChip p ∈ s.fab.startCount → ∃ t, exec (.startArrive p) s = .next t ∧ t = { s with obs := t.obs }) ∧
    (s.isStartRoot = true → pSrcChip p ∉ s.fab.startCount → s.fab.startCount.length + 1 ≠ s.startMembers →
      ∃ t, exec (.startArrive p) s = .next t ∧
        t = { s with obs := t.obs, fab := { s.fab with startCount := s.fab.startCount ++ [pSrcChip p] } }) ∧
    (s.isStartRoot = true → s.fab.startCount = [s.chipId] → pSrcChip p ≠ s.chipId → s.startMembers = 2 → PortFree s →
      s.tb < s.tGo → s.tGo < 2 ^ 64 →
      ∃ t q, exec (.startArrive p) s = .next t ∧ t.out = s.out ++ [.packet q] ∧ pCls q = 9 ∧ pDstChip q = pSrcChip p ∧
        q.w3 = BitVec.ofNat 64 s.tGo ∧ q.w4 = word [(31, 0, s.frameLen)] ∧ t.epochNs = s.tGo ∧
        t.reg K.FRM_LEN = BitVec.ofNat 32 s.frameLen ∧ t.fab.startGo = some s.tGo ∧ t.fab.startDone = false ∧
        t.fab.frame = 0 ∧ t = { s with regs := t.regs, obs := t.obs, fab := t.fab, out := t.out } ∧
        SameRegsBut s t [K.FRM_EPOCH_LO, K.FRM_EPOCH_HI, K.FRM_LEN])) ∧
  (∀ (s : State) (p : Rec8), TakesCtrl s p 9 →
    (s.tb < p.w3.toNat →
      ∃ t, exec (.startGo p) s = .next t ∧ t.epochNs = p.w3.toNat ∧ t.reg K.FRM_LEN = BitVec.ofNat 32 (bits p.w4 31 0) ∧
        t.fab.startGo = some p.w3.toNat ∧ t.fab.startDone = false ∧ t.fab.frame = 0 ∧
        t = { s with regs := t.regs, obs := t.obs, fab := t.fab } ∧
        SameRegsBut s t [K.FRM_EPOCH_LO, K.FRM_EPOCH_HI, K.FRM_LEN]) ∧
    (p.w3.toNat ≤ s.tb → NothingHeld s →
      ∃ t, exec (.startGo p) s = .next t ∧ t.epochNs = p.w3.toNat ∧ t.flag K.FAB_STOP 31 = true ∧ t.fab.startDone = true ∧
        t = { s with regs := t.regs, obs := t.obs, fab := t.fab, cyc := t.cyc } ∧
        SameRegsBut s t [K.FRM_EPOCH_LO, K.FRM_EPOCH_HI, K.FRM_LEN, K.FAB_STOP])) ∧
  (∀ (s : State) (p : Rec8), TakesCtrl s p 0xA →
    (s.glb.armed = true → ∃ t, exec (.fabStop p) s = .next t ∧ t = { s with obs := t.obs }) ∧
    (s.glb.armed = false → s.tb + s.stopLead ≤ p.w3.toNat →
      ∃ t, exec (.fabStop p) s = .next t ∧
        t = { s with obs := t.obs, glb := { s.glb with armed := true, stopCause := 5, tStop := p.w3.toNat } }) ∧
    (s.glb.armed = false → p.w3.toNat < s.tb + s.stopLead →
      ∃ t, exec (.fabStop p) s = .next t ∧ t.flag K.FAB_STOP 31 = true ∧
        t = { s with
          regs := t.regs, obs := t.obs, cyc := t.cyc,
          glb := { s.glb with armed := true, stopCause := 5, tStop := s.tb + s.stopLead } } ∧
        SameRegsBut s t [K.FAB_STOP]))

namespace Sys2Proof.Claims

/-- The commands of the acknowledged classes. -/
def dataCmds (p : Rec8) : List (Instr × Nat) := [(.fabDec p, 1), (.fabSig p, 2), (.barArrive p, 3), (.barRelease p, 4)]

/-- The port has room for an acknowledged packet. -/
def DataOpen (s : State) : Prop :=
  s.running = true ∧ s.portEn = true ∧ s.fabHeld < 65536 ∧ Calm s

/-- An acknowledged packet, of a KIND that is not reserved, that the port takes in sequence, with nothing held behind a gap. -/
def DataTaken (s : State) (p : Rec8) (cls : Nat) : Prop :=
  DataOpen s ∧ pCls p = cls ∧ (cls = 1 → dKind p < 2) ∧ pSeq p = s.rxNext (pSrcChip p) ∧ s.gapOf (pSrcChip p) = none ∧ s.fab.txWait = []

/-- The next PSEQ of the sender alone has moved on, and the packet is counted. -/
def Sequenced (s t : State) (p : Rec8) : Prop :=
  t.rxNext (pSrcChip p) = (pSeq p + 1) % 2 ^ 18 ∧ (∀ c, c ≠ pSrcChip p → t.rxNext c = s.rxNext c) ∧
    t.reg K.FAB_RECV = s.reg K.FAB_RECV + 1

end Sys2Proof.Claims

/-- R312, R315, R318 to R321, R323, R324, R369: a packet that the port cannot take stays outside; one above the expected PSEQ is
held behind the gap, one below it is lost, and one that fills a gap starts the wait for the next one. A DEC packet enters the hub
and counts as outstanding, waits for its frame, waits as an orphan, or is discarded; a plain SIG signals its object, one that names
none is acknowledged LOST; an announcement opens its entry, or waits while the table is full (log entry 100); an arrive packet is
counted at the root and a release frees the unit that waits for it. Each item is acknowledged when it is done with. A fatal chip
answers LOST. A DEC packet of a reserved KIND that the port would take is refused by name. -/
def Obligations.FabricItemsAreTakenInSequence : Prop :=
  (∀ (s : State) (p : Rec8), pCls p = 1 → 2 ≤ dKind p → s.running = true → s.portEn = true → s.fabHeld < 65536 →
    seqAhead (pSeq p) (s.rxNext (pSrcChip p)) < 2 ^ 17 → exec (.fabDec p) s = .refused .reservedForm) ∧
  (∀ (s : State) (p : Rec8) (x : Instr) (cls : Nat), (x, cls) ∈ dataCmds p →
    (pCls p ≠ cls ∨ s.glb.initDone = false ∨ s.portEn = false → exec x s = .next s) ∧
    (s.running = true → 65536 ≤ s.fabHeld → exec x s = .next s) ∧
    (s.glb.initDone = true → s.portEn = true → pCls p = cls →
      (s.glb.fatal = true →
        ∃ t, exec x s = .next t ∧ t.out = s.out ++ [ackPkt s p true] ∧ t.reg K.FAB_DISCARD = s.reg K.FAB_DISCARD + 1 ∧
          t = { s with regs := t.regs, out := t.out, cyc := t.cyc } ∧ SameRegsBut s t [K.FAB_DISCARD]) ∧
      (s.glb.fatal = false → s.glb.stopped = true → ∃ t, exec x s = .next t ∧ t = { s with obs := t.obs })) ∧
    (∀ a, DataOpen s → pCls p = cls → a = seqAhead (pSeq p) (s.rxNext (pSrcChip p)) →
      (2 ^ 17 ≤ a →
        ∃ t, exec x s = .next t ∧ t.reg K.FAB_LOST = s.reg K.FAB_LOST + 1 ∧
          t = { s with regs := t.regs, obs := t.obs, cyc := t.cyc } ∧ SameRegsBut s t [K.FAB_RECV, K.FAB_LOST]) ∧
      ((cls = 1 → dKind p < 2) → 0 < a → a < 2 ^ 17 → s.gapOf (pSrcChip p) = none →
        ∃ t, exec x s = .next t ∧
          t = { s with
            regs := t.regs, obs := t.obs, cyc := t.cyc,
            fab := { s.fab with gaps := s.fab.gaps ++ [⟨pSrcChip p, s.tb + s.fld K.FAB_LIMITS 31 16 * 16, [p]⟩] } } ∧
          SameRegsBut s t [K.FAB_RECV]) ∧
      (∀ g h, (cls = 1 → dKind p < 2) → a = 0 → s.gapOf (pSrcChip p) = some g → g.held = [h] → pSeq h ≠ (pSeq p + 1) % 2 ^ 18 →
        ∃ t, exec x s = .next t ∧
          t.gapOf (pSrcChip p) = some ⟨pSrcChip p, s.tb + s.fld K.FAB_LIMITS 31 16 * 16, [h]⟩))) ∧
  (∀ (s : State) (p : Rec8), DataTaken s p 1 →
    (((s.ctx (pCtx p)).state = .disabled ∨ (s.ctx (pCtx p)).state = .resetting) →
      ∃ t, exec (.fabDec p) s = .next t ∧ Sequenced s t p ∧ t.out = s.out ++ [ackPkt s p true] ∧
        t.reg K.FAB_DISCARD = s.reg K.FAB_DISCARD + 1 ∧
        t = { s with regs := t.regs, obs := t.obs, fab := t.fab, out := t.out, cyc := t.cyc } ∧
        SameRegsBut s t [K.FAB_RECV, K.FAB_DISCARD]) ∧
    ((s.ctx (pCtx p)).state ≠ .disabled → (s.ctx (pCtx p)).state ≠ .resetting →
      (s.launch? (pCtx p) (dSerial p) = none →
        ∃ t, exec (.fabDec p) s = .next t ∧ Sequenced s t p ∧
          t.fab.orphans = s.fab.orphans ++ [⟨p, s.tb + s.fld K.FAB_LIMITS 15 0 * 1000, s.isLate p⟩] ∧
          (s.isLate p = true → Counted s t K.FAB_LATE) ∧ (s.isLate p = false → t.reg K.FAB_LATE = s.reg K.FAB_LATE) ∧
          t = { s with regs := t.regs, obs := t.obs, fab := t.fab, cyc := t.cyc } ∧
          SameRegsBut s t [K.FAB_RECV, K.FAB_LATE, K.FRM_OVRn (pCtx p)]) ∧
      (∀ l, s.launch? (pCtx p) (dSerial p) = some l → OutOk s (pCtx p) (dSerial p) →
        (pApply p = 0 →
          ∃ t, exec (.fabDec p) s = .next t ∧ Sequenced s t p ∧ t.out = s.out ++ [ackPkt s p false] ∧
            t.hub = { s.hub with xbar := s.hub.xbar ++
              [⟨20, shardOf s.shards (pCtx p) (dNode p) (dOrd p), decArr p l.vslot, some p⟩] } ∧
            t.launch? (pCtx p) (dSerial p) = some { l with outstanding := l.outstanding + 1 } ∧
            SameMemBut s t (s.lrecAddr (pCtx p) (dSerial p) + 24) 8 ∧
            t = { s with
              regs := t.regs, obs := t.obs, fab := t.fab, out := t.out, hub := t.hub, launches := t.launches, mem := t.mem,
              poison := t.poison, reqs := t.reqs, cyc := t.cyc } ∧ SameRegsBut s t [K.FAB_RECV]) ∧
        (s.mustHold p = true →
          ∃ t, exec (.fabDec p) s = .next t ∧ Sequenced s t p ∧ t.fab.hold = s.fab.hold ++ [p] ∧ t.hub = s.hub ∧
            t.out = s.out ∧ t.launch? (pCtx p) (dSerial p) = some { l with outstanding := l.outstanding + 1 })))) ∧
  (∀ (s : State) (p : Rec8), DataTaken s p 2 → sigFrag p = 0 →
    (s.mustHold p = true →
      ∃ t, exec (.fabSig p) s = .next t ∧ Sequenced s t p ∧ t.fab.hold = s.fab.hold ++ [p] ∧
        t = { s with regs := t.regs, obs := t.obs, fab := t.fab, cyc := t.cyc } ∧ SameRegsBut s t [K.FAB_RECV]) ∧
    (∀ q o, pApply p = 0 → Maps s (pCtx p) (bits p.w4 63 40) q o → s.sync.heldWaits = [] →
      (o.abandoned = false → o.token = false → bit p.w4 37 = false → s.waitersOf q = [] →
        ∃ t, exec (.fabSig p) s = .next t ∧ Sequenced s t p ∧ t.out = s.out ++ [ackPkt s p false] ∧
          t.obj? q = some { o with
            value := max o.value p.w3.toNat, lastChip := pSrcChip p, lastSrc := pSrcId p, lastScope := sigScope p,
            lastAdd := false, signalled := true, lastStamp := s.tb } ∧
          SameObjsBut s t q ∧
          t = { s with regs := t.regs, obs := t.obs, fab := t.fab, sync := t.sync, out := t.out, reqs := t.reqs, cyc := t.cyc } ∧
          SameRegsBut s t [K.FAB_RECV, K.TRC_LOST]) ∧
      (o.abandoned = true →
        ∃ t, exec (.fabSig p) s = .next t ∧ Sequenced s t p ∧ t.out = s.out ++ [ackPkt s p true] ∧ Counted s t K.SYN_ABSIG ∧
          t = { s with regs := t.regs, obs := t.obs, fab := t.fab, out := t.out, reqs := t.reqs, cyc := t.cyc } ∧
          SameRegsBut s t [K.FAB_RECV, K.SYN_ABSIG])) ∧
    (pApply p = 0 → s.savedOf (pCtx p) = none → s.nameOf (pCtx p) (bits p.w4 63 40) = .unmapped →
      ∃ t, exec (.fabSig p) s = .next t ∧ Sequenced s t p ∧ ackPkt s p true ∈ t.out ∧ Counted s t K.SYN_UNMAPPED ∧ Reported s t ∧
        t = { s with regs := t.regs, obs := t.obs, fab := t.fab, glb := t.glb, out := t.out, reqs := t.reqs, cyc := t.cyc } ∧
        SameRegsBut s t (K.FAB_RECV :: K.SYN_UNMAPPED :: errKeys))) ∧
  (∀ (s : State) (p : Rec8), DataTaken s p 2 → sigFrag p ≠ 0 → s.isLate p = false →
    s.pend? (pSrcChip p) (pSrcId p) (sigTag p) = none →
    ∃ t, exec (.fabSig p) s = .next t ∧ Sequenced s t p ∧
      (s.sync.pend.length < 4096 → t.sync = { s.sync with pend := s.sync.pend ++ [annPend p] } ∧ t.fab.hold = s.fab.hold) ∧
      (4096 ≤ s.sync.pend.length → t.sync = s.sync ∧ t.fab.hold = s.fab.hold ++ [p]) ∧
      t = { s with regs := t.regs, obs := t.obs, fab := t.fab, sync := t.sync, cyc := t.cyc } ∧ SameRegsBut s t [K.FAB_RECV]) ∧
  (∀ (s : State) (p : Rec8) (g u : Nat), g = grpOf p → u = s.grpUnit g → pApply p = 0 → s.barFull u = false →
    (DataTaken s p 3 → ((s.grp g).arrived.filter fun a => a.1 == genOf p).length + 1 < s.grpMembers g →
      ∃ t, exec (.barArrive p) s = .next t ∧ Sequenced s t p ∧ t.out = s.out ++ [ackPkt s p false] ∧
        t.grp g = { s.grp g with arrived := (s.grp g).arrived ++ [(genOf p, pSrcChip p)] } ∧
        (∀ h, h ≠ g → t.grp h = s.grp h) ∧ (∀ w, t.bar w = s.bar w) ∧
        t = { s with regs := t.regs, obs := t.obs, fab := t.fab, sync := t.sync, out := t.out, cyc := t.cyc } ∧
        SameRegsBut s t [K.FAB_RECV]) ∧
    (DataTaken s p 4 → ((s.bar u).gen ≠ genOf p ∨ (s.bar u).sent = false) →
      ∃ t, exec (.barRelease p) s = .next t ∧ Sequenced s t p ∧ t.out = s.out ++ [ackPkt s p false] ∧
        t = { s with regs := t.regs, obs := t.obs, fab := t.fab, out := t.out, cyc := t.cyc } ∧ SameRegsBut s t [K.FAB_RECV])) ∧
  (∀ (s : State) (p : Rec8) (u : Nat), u = s.grpUnit (grpOf p) → pApply p = 0 → DataTaken s p 4 → (s.bar u).gen = genOf p →
    (s.bar u).sent = true → (s.bar u).cur.fes = [] → (s.bar u).next = ⟨[], []⟩ → (s.bar u).waiting = [] →
    ∃ t, exec (.barRelease p) s = .next t ∧ Sequenced s t p ∧ (t.bar u).gen = ((s.bar u).gen + 1) % 2 ^ 32 ∧
      (t.bar u).cur = ⟨[], []⟩ ∧ (t.bar u).sent = false ∧ (∀ w, w ≠ u → t.bar w = s.bar w) ∧
      t.out = s.out ++ (s.bar u).cur.cores.map (fun a =>
        Out.lane a.2.1 0x3 (notice a.2.2 stOK (BitVec.ofNat 64 (((s.bar u).gen + 1) % 2 ^ 32)))) ++ [ackPkt s p false] ∧
      t = { s with regs := t.regs, obs := t.obs, fab := t.fab, sync := t.sync, out := t.out, cyc := t.cyc } ∧
      SameRegsBut s t [K.FAB_RECV, K.TRC_LOST])

/-- R313, R314, R316, R323, R324, R329, R340: a remote-decrement request of a good producer is held for its shard, refused ones are
counted and reported, one of a cancelled launch is dropped; one that finds the holding area full, or a record ahead of it, stays in
its lane; a G4E and a bad producer count it as a sprout error. An ACK packet of one entry takes its item out of FAB_INFLIGHT. An
orphan that has been held for ORPHAN µs is dropped, counted and reported; a gap that has lasted its time is declared lost, and what
is held behind it (stated for one DEC packet) goes on. A full lane takes nothing (log entry 91). -/
def Obligations.FabricRequestsAcksAndTimers : Prop :=
  (∀ (s : State) (eng : Nat) (r : Rec4) (d : RemDec) (drops : Bool), s.running = true → d = parseRemDec eng r →
    drops = s.dropsItem d.ctx (ordSerial (s.slot d.shard (hSlot d.producer)).ordinal) →
    (s.lane 0 eng ≠ [] ∨ (s.isG4 = true ∧ s.producerBad d.producer eng d.ctx = false ∧ drops = false ∧ s.remRefused d = false ∧
        256 ≤ (s.hub.remHeld.filter fun h => h.shard == d.shard).length) →
      ((s.lane 0 eng).length < 16 → ∃ t, exec (.remoteDecRequest eng r) s = .next t ∧ WaitsInLane s t 0 eng 3 r) ∧
      (16 ≤ (s.lane 0 eng).length → exec (.remoteDecRequest eng r) s = .next s)) ∧
    (s.lane 0 eng = [] → s.isG4 = false ∨ s.producerBad d.producer eng d.ctx = true →
      ∃ t, exec (.remoteDecRequest eng r) s = .next t ∧ Reported s t ∧
        t.fld (K.SPR_ERRn d.ctx) 15 0 = countTo 16 (s.fld (K.SPR_ERRn d.ctx) 15 0 + 1) % 2 ^ 16 ∧
        t = { s with regs := t.regs, obs := t.obs, glb := t.glb, out := t.out, cyc := t.cyc } ∧
        SameRegsBut s t (K.SPR_ERRn d.ctx :: errKeys)) ∧
    (s.lane 0 eng = [] → s.isG4 = true → s.producerBad d.producer eng d.ctx = false →
      (drops = true →
        ∃ t, exec (.remoteDecRequest eng r) s = .next t ∧
          t.reg (K.SHD_CANCEL_DROP d.shard) = s.reg (K.SHD_CANCEL_DROP d.shard) + 1 ∧
          t = { s with regs := t.regs, obs := t.obs, cyc := t.cyc } ∧ SameRegsBut s t [K.SHD_CANCEL_DROP d.shard]) ∧
      (drops = false → s.remRefused d = true →
        ∃ t, exec (.remoteDecRequest eng r) s = .next t ∧ Reported s t ∧ t.reg K.FAB_REFUSED = s.reg K.FAB_REFUSED + 1 ∧
          t = { s with regs := t.regs, obs := t.obs, glb := t.glb, out := t.out, cyc := t.cyc } ∧
          SameRegsBut s t (K.FAB_REFUSED :: errKeys)) ∧
      (drops = false → s.remRefused d = false → (s.hub.remHeld.filter fun h => h.shard == d.shard).length < 256 →
        ∃ t, exec (.remoteDecRequest eng r) s = .next t ∧
          t = { s with obs := t.obs, hub := { s.hub with remHeld := s.hub.remHeld ++ [d] } }))) ∧
  (∀ (s : State) (p : Rec8) (q : Nat), TakesCtrl s p 5 → ackSeqs p = [q] → s.fab.txWait = [] →
    ∃ t, exec (.fabAck p) s = .next t ∧
      t = { s with
        obs := t.obs,
        fab := { s.fab with unacked := dropFirst (fun u => u.chip == pSrcChip p && u.pseq == q) s.fab.unacked } }) ∧
  (∀ (s : State) (chip pseq : Nat) (o : Orphan), s.running = true →
    s.fab.orphans.find? (fun o => pSrcChip o.p == chip && pSeq o.p == pseq) = some o →
    (s.tb < o.due → exec (.orphanTimeout chip pseq) s = .next s) ∧
    (o.due ≤ s.tb → PortFree s →
      ∃ t, exec (.orphanTimeout chip pseq) s = .next t ∧ t.fab.orphans = dropFirst (· == o) s.fab.orphans ∧
        t.reg K.FAB_ORPHAN = s.reg K.FAB_ORPHAN + 1 ∧ Reported s t ∧ ackPkt s o.p true ∈ t.out ∧
        t = { s with regs := t.regs, glb := t.glb, obs := t.obs, fab := t.fab, out := t.out, cyc := t.cyc } ∧
        SameRegsBut s t (K.FAB_ORPHAN :: errKeys))) ∧
  (∀ (s : State) (chip : Nat), s.running = true →
    (s.gapOf chip = none → exec (.gapTimeout chip) s = .next s) ∧
    (∀ g, s.gapOf chip = some g →
      (s.tb < g.due → exec (.gapTimeout chip) s = .next s) ∧
      (∀ p, g.due ≤ s.tb → g.held = [p] → pSrcChip p = chip → pCls p = 1 → pApply p = 0 →
        (s.ctx (pCtx p)).state = .enabled → s.launch? (pCtx p) (dSerial p) = none →
        ∃ t, exec (.gapTimeout chip) s = .next t ∧ t.gapOf chip = none ∧ t.rxNext chip = (pSeq p + 1) % 2 ^ 18 ∧
          t.reg K.FAB_LOST = s.reg K.FAB_LOST + BitVec.ofNat 32 (seqAhead (pSeq p) (s.rxNext chip)) ∧ Reported s t ∧
          t.fab.orphans = s.fab.orphans ++ [⟨p, s.tb + s.fld K.FAB_LIMITS 15 0 * 1000, false⟩] ∧
          t = { s with regs := t.regs, glb := t.glb, obs := t.obs, fab := t.fab, out := t.out, cyc := t.cyc })))

/-! ## Resets, bring-up, throttle and stop -/

namespace Sys2Proof.Claims

/-- A write of a register that a block which is neither fatal nor stopped takes. -/
def Writable (s : State) : Prop := s.live = true ∧ s.glb.phase ≠ .boot

/-- A write of RST_CTRL with the key and a kind. -/
def ResetWrite (s : State) (v : W32) (kind : Nat) : Prop :=
  s.glb.phase ≠ .boot ∧ bits v 31 24 = 0xB7 ∧ bits v 23 22 = kind

/-- A reset of a FIFO that lost `n` records: counted and reported, its lane empty, its account classes uncertain, for every context
when its records name none (R372, R380). -/
def FifoLost (s t : State) (fifo n : Nat) : Prop :=
  Reported s t ∧ t.reg K.FIFO_LOST = BitVec.ofNat 32 (countTo 32 ((s.reg K.FIFO_LOST).toNat + n)) ∧
  (fifo / 2 ^ 12 < 3 → t.lane (fifo / 2 ^ 12) (fifo % 2 ^ 12) = []) ∧
  (n = 0 → fifoNoCtx fifo = false → SameRegsBut s t (K.FIFO_LOST :: errKeys)) ∧
  (n ≠ 0 ∨ fifoNoCtx fifo = true → t.reg K.AUD_UNC = s.reg K.AUD_UNC ||| BitVec.ofNat 32 (fifoClasses fifo)) ∧
  (fifoNoCtx fifo = true → fifoClasses fifo ≠ 0 →
    t.reg K.AUD_CTX_LO = BitVec.allOnes 32 ∧ t.reg K.AUD_CTX_HI = BitVec.allOnes 32) ∧
  t = { s with regs := t.regs, glb := { s.glb with errLog := t.glb.errLog, errHoldoff := t.glb.errHoldoff, errMerged := t.glb.errMerged },
               out := t.out, cyc := t.cyc, lanes := t.lanes, obs := t.obs }

/-- The unit holds ENABLE 1 and is not enabled yet. -/
def Begins (s : State) (u : UnitId) : Prop := (s.unit u).enable = true ∧ (s.unit u).enabled = false

end Sys2Proof.Claims

/-- R335, R351 to R359, R372: COLD and BLOCK resets leave the reset state, a BLOCK reset with the timebase and the clock in force,
and neither touches memory; a write of RST_CTRL needs its key, and in BOOT is only counted. An ENGINE reset takes its engine out of
use until its lanes are empty, and no task runs on it then. A FIFO reset empties its lane, counts and reports what it lost, and
marks the accounts uncertain (that the records which no lane of the model holds are named by the command: log entry 50).
SELF_INIT_DONE leads to SETUP, INIT_DONE to READY, ENABLE to RUN, and with it begins every unit that holds ENABLE 1. -/
def Obligations.ResetsAndBringUp : Prop :=
  (∀ s : State, exec .coldReset s = .next { State.reset with
    pending := s.pending, variant := s.variant, free := s.free, mem := s.mem, poison := s.poison, refuse := s.refuse,
    nextId := s.nextId, out := s.out }) ∧
  (∀ s : State, exec (.blockReset .line) s = .next { State.reset with
    pending := s.pending, variant := s.variant, free := s.free, mem := s.mem, poison := s.poison, refuse := s.refuse,
    nextId := s.nextId, out := s.out, tb := s.tb, tbPhase := s.tbPhase, fmhz := s.fmhz, hc := s.hc,
    glb := { State.reset.glb with thrReq := s.glb.thrReq, thrAck := s.glb.thrAck } }) ∧
  (∀ (s : State) (v : W32),
    (ResetWrite s v 2 → s.glb.rstBusy = false → exec (.blockReset (.write v)) s = exec (.blockReset .line) s) ∧
    (bits v 31 24 ≠ 0xB7 → s.glb.phase ≠ .boot →
      exec (.blockReset (.write v)) s = .next s ∧ exec (.engineReset v) s = .next s) ∧
    (s.glb.phase = .boot → s.live = true →
      ∃ t, exec (.blockReset (.write v)) s = .next t ∧ exec (.engineReset v) s = .next t ∧ Counted s t K.BOOT_DROP ∧
        t = { s with regs := t.regs, cyc := t.cyc } ∧ SameRegsBut s t [K.BOOT_DROP]) ∧
    (ResetWrite s v 1 → s.live = true → s.glb.rstBusy = false →
      ∃ t, exec (.engineReset v) s = .next t ∧ t.glb = { s.glb with rstBusy := true, rstEng := bits v 9 0 } ∧
        bits v 9 0 ∉ t.disp.outOfReset ∧ (∀ e, e ≠ bits v 9 0 → (e ∈ t.disp.outOfReset ↔ e ∈ s.disp.outOfReset)) ∧
        t = { s with glb := t.glb, disp := t.disp })) ∧
  (∀ s : State,
    (s.glb.rstBusy = false ∨ s.lanesEmpty s.glb.rstEng = false → exec .engineResetComplete s = .next s) ∧
    (s.glb.rstBusy = true → s.live = true → s.glb.enable = true → s.lanesEmpty s.glb.rstEng = true →
      ∃ t, exec .engineResetComplete s = .next t ∧ t.glb.rstBusy = false ∧ t.glb.rstCount = (s.glb.rstCount + 1) % 65536 ∧
        t.engine s.glb.rstEng = Eng.zero ∧ s.glb.rstEng ∈ t.disp.outOfReset ∧
        ∀ sh n, (t.slot sh n).state = .running → (t.slot sh n).engine ≠ s.glb.rstEng)) ∧
  (∀ (s : State) (fifo n : Nat) (recs : List LostRec), Writable s → n = (s.fifoRecs fifo).length + recs.length →
    ∃ t, exec (.fifoReset fifo recs) s = .next t ∧ FifoLost s t fifo n) ∧
  (∀ (s : State) (b : Nat),
    (s.glb.phase ≠ .boot → exec (.selfInitDone b) s = .next s) ∧
    (s.glb.phase = .boot →
      exec (.selfInitDone b) s = .next { s with
        glb := { s.glb with phase := .setup, siDone := true, bistFail := b != 0, bistUnit := b } })) ∧
  (∀ (s : State) (v : W32) (x : Instr), Writable s → x = .initDone v ∨ x = .gblEnable v →
    (bit v 1 = true → bit v 0 = false → s.glb.initDone = false → s.glb.bistFail = false →
      exec x s = .next { s with glb := { s.glb with initDone := true, phase := .ready } }) ∧
    (bit v 0 = false → s.glb.bistFail = true → exec x s = .next s) ∧
    (bit v 0 = true → s.glb.initDone = true → s.glb.enable = true → exec x s = .next s) ∧
    (bit v 0 = true → s.glb.initDone = true → s.glb.enable = false → (∀ u, (s.unit u).enable = false) →
      exec x s = .next { s with
        glb := { s.glb with enable := true, phase := .run }, disp := { s.disp with outOfReset := List.range 1024 } }) ∧
    (bit v 0 = true → s.glb.initDone = true → s.glb.enable = false →
      ∃ t, exec x s = .next t ∧ t.glb.enable = true ∧ t.glb.phase = .run ∧ t.disp.outOfReset = List.range 1024 ∧
        (∀ u, (s.unit u).enable = false ∨ (s.unit u).enabled = true → t.unit u = s.unit u) ∧
        (∀ u n, u ∈ [.ring n, .station n, .shard n, .bar n, .grp n] → Begins s u → t.unit u = ⟨true, true, false, false⟩) ∧
        (∀ c, c < 64 → Begins s (.ctx c) →
          (t.unit (.ctx c) = ⟨true, true, false, false⟩ ∨ (t.unit (.ctx c) = UnitEn.off ∧ (t.ctx c).refused = true)) ∧
          ((∀ d, d ≠ c → (s.unit (.ctx d)).enable = false) → s.ctxChecks c = true →
            t.unit (.ctx c) = ⟨true, true, false, false⟩ ∧ (t.ctx c).state = (if (s.ctx c).pause then .paused else .enabled))) ∧
        (∀ q, Begins s (.queue q) →
          (t.unit (.queue q) = ⟨true, true, false, false⟩ ∧ (t.queue q).state = .opened) ∨
          (t.unit (.queue q) = UnitEn.off ∧ (t.queue q).cfgStatus = stUNSUPPORTED))))

/-- R332, R333, R361, R403, R404, R406: a throttle request sets the clock, raises THR_ACK and is counted, and its release lowers it;
a code that R332 does not allow changes nothing (the model's choice, log entry 5). The stop line and a write of STOP_CTRL arm the
stop 64 hc ahead; the cut of a stop that is due stops the block and freezes the counters. -/
def Obligations.ThrottleAndStops : Prop :=
  (∀ (s : State) (code : Nat),
    (s.glb.thrReq = true ∨ code < 10 ∨ 15 < code → exec (.thrReq code) s = .next s) ∧
    (s.glb.thrReq = false → 10 ≤ code → code ≤ 15 →
      ∃ t, exec (.thrReq code) s = .next t ∧ t.fmhz = code * 100 ∧ t.out = s.out ++ [.thrAck true] ∧
        t.fld K.THR_STAT 31 16 = countTo 16 (s.fld K.THR_STAT 31 16 + 1) % 2 ^ 16 ∧
        t = { s with
          fmhz := t.fmhz, tbPhase := s.tbPhase % (code * 100), regs := t.regs,
          glb := { s.glb with thrReq := true, thrAck := true }, out := t.out, cyc := t.cyc } ∧
        SameRegsBut s t [K.THR_STAT])) ∧
  (∀ s : State,
    (s.glb.thrReq = false → exec .thrReqRelease s = .next s) ∧
    (s.glb.thrReq = true →
      exec .thrReqRelease s = .next { s with
        glb := { s.glb with thrReq := false, thrAck := false }, out := s.out ++ [.thrAck false] })) ∧
  (∀ s : State,
    (s.glb.armed = true ∨ s.glb.initDone = false ∨ s.live = false → exec .stopLine s = .next s) ∧
    (s.glb.initDone = true → s.live = true → s.glb.armed = false →
      (s.isStartRoot = false ∨ s.flag K.STOP_CTRL 30 = false →
        exec .stopLine s = .next { s with
          glb := { s.glb with armed := true, stopCause := 1, tStop := s.tb + s.stopLead } }) ∧
      (∀ c, s.isStartRoot = true → s.flag K.STOP_CTRL 30 = true → s.fab.startCount = [c] → c ≠ s.chipId → PortFree s →
        ∃ t q, exec .stopLine s = .next t ∧ t.out = s.out ++ [.packet q] ∧ pCls q = 0xA ∧ pDstChip q = c % 1024 ∧
          q.w3 = BitVec.ofNat 64 (s.tb + s.fld K.FAB_STOP 30 0) ∧
          t = { s with
            glb := { s.glb with armed := true, stopCause := 1, tStop := s.tb + s.fld K.FAB_STOP 30 0 }, out := t.out,
            free := s.free + 1 }))) ∧
  (∀ (s : State) (v : W32), Writable s →
    (bit v 31 = false ∨ s.glb.initDone = false ∨ s.glb.armed = true →
      ∃ t, exec (.stopGo v) s = .next t ∧ t = { s with regs := t.regs } ∧ SameRegsBut s t [K.STOP_CTRL]) ∧
    (bit v 31 = true → s.glb.initDone = true → s.glb.armed = false → s.isStartRoot = false →
      ∃ t, exec (.stopGo v) s = .next t ∧
        t = { s with regs := t.regs, glb := { s.glb with armed := true, stopCause := 2, tStop := s.tb + s.stopLead } } ∧
        SameRegsBut s t [K.STOP_CTRL])) ∧
  (∀ s : State,
    (s.live = false ∨ s.glb.armed = false ∨ s.tb < s.glb.tStop → exec .stopCut s = .next s) ∧
    (s.live = true → s.glb.armed = true → s.glb.tStop ≤ s.tb →
      ∃ t, exec .stopCut s = .next t ∧ t.glb.stopped = true ∧ t.glb.stopCut = s.tb ∧ t.flag K.IRQ_CAUSE 5 = true ∧
        t.fld K.OBS_CTRL 23 0 = 2 ^ 24 - 1 ∧
        t = { s with glb := t.glb, obs := t.obs, regs := t.regs, out := t.out, cyc := t.cyc, free := s.free + 1 } ∧
        SameRegsBut s t [K.IRQ_CAUSE, K.OBS_CTRL, K.TRC_LOST]))

/-! ## Errors, injection and the dump -/

/-- R363 to R371, R382, R421 to R424: one or two flipped bits are corrected and counted, three are BLOCK_FATAL, which stops every
unit and makes all accounts uncertain; of four or more the block promises nothing. ERR_POP takes the oldest record; the end of the
holdoff sends a merged request, one message for a vector in a hub cycle (log entry 2). A dump starts only in a fatal or stopped
block and writes only its area, a word read uncorrectable as 0 (where such a word stands: log entry 106). An injection is taken with
its key and applied once. -/
def Obligations.ErrorsInjectionAndDump : Prop :=
  (∀ (s : State) (unit array w flips : Nat),
    (s.live = false ∨ s.glb.phase = .boot ∨ flips = 0 → exec (.scrub unit array w flips) s = .next s) ∧
    (Writable s → flips = 1 ∨ flips = 2 →
      ∃ t, exec (.scrub unit array w flips) s = .next t ∧ Counted s t K.ERR_CORR ∧
        (s.flag K.ERR_CFG 31 = false → t = { s with regs := t.regs, cyc := t.cyc }) ∧
        (s.flag K.ERR_CFG 31 = true → s.glb.errLog.length < 256 → s.cyc.errs = 0 → t.glb.errLog =
          s.glb.errLog ++ [errRecord 1 unit 0x01 none none (sramDetail array w) s.tb]) ∧
        t = { s with regs := t.regs, glb := { s.glb with errLog := t.glb.errLog }, cyc := t.cyc } ∧
        SameRegsBut s t [K.ERR_CORR, K.ERR_LOST]) ∧
    (Writable s → flips = 3 →
      ∃ t, exec (.scrub unit array w flips) s = .next t ∧ t.glb.fatal = true ∧ t.glb.fatalCode = 0x02 ∧ t.glb.fatalUnit = unit ∧
        t.running = false ∧ t.flag K.IRQ_CAUSE 1 = true ∧ t.fld K.AUD_UNC 9 0 = 0x3FF ∧
        t.glb.badWords = s.glb.badWords ++ [(unit, array, w)] ∧
        t = { s with regs := t.regs, glb := t.glb, out := t.out, cyc := t.cyc }) ∧
    (Writable s → 4 ≤ flips →
      ∃ t, exec (.scrub unit array w flips) s = .next t ∧
        t = { s with regs := t.regs, glb := t.glb, out := t.out, cyc := t.cyc, free := s.free + 1 })) ∧
  (∀ (s : State) (v : W32), (s.glb.fatal = true ∨ s.glb.stopped = false) → s.glb.phase ≠ .boot →
    (bit v 0 = false → exec (.errPop v) s = .next s) ∧
    (bit v 0 = true → exec (.errPop v) s = .next { s with glb := { s.glb with errLog := s.glb.errLog.drop 1 } })) ∧
  (∀ (s : State) (e : Nat), s.glb.initDone = true → s.live = true → s.glb.errHoldoff = some e →
    (s.tb < e → exec .errHoldoffExpiry s = .next s) ∧
    (e ≤ s.tb → s.glb.errMerged = true →
      (s.fld K.IRQ_VEC 13 8 ∉ s.cyc.vecs →
        exec .errHoldoffExpiry s = .next { s with
          out := s.out ++ [.msix (s.fld K.IRQ_VEC 13 8)],
          cyc := { s.cyc with vecs := s.cyc.vecs ++ [s.fld K.IRQ_VEC 13 8] },
          glb := { s.glb with errMerged := false, errHoldoff := some (s.tb + 1000) } }) ∧
      (s.fld K.IRQ_VEC 13 8 ∈ s.cyc.vecs →
        exec .errHoldoffExpiry s = .next { s with glb := { s.glb with errMerged := false, errHoldoff := some (s.tb + 1000) } })) ∧
    (e ≤ s.tb → s.glb.errMerged = false →
      exec .errHoldoffExpiry s = .next { s with glb := { s.glb with errHoldoff := none } })) ∧
  (∀ (s : State) (v : W32), s.glb.phase ≠ .boot →
    ((s.glb.fatal = false ∧ s.glb.stopped = false) ∨ bit v 0 = false ∨ s.glb.dumpBusy = true →
      exec (.dumpGo v) s = .next s) ∧
    ((s.glb.fatal = true ∨ s.glb.stopped = true) → bit v 0 = true → s.glb.dumpBusy = false →
      exec (.dumpGo v) s = .next { s with
        glb := { s.glb with dumpBusy := true, dumpDone := false, dumpError := false, dumpStart := s.tb } })) ∧
  (∀ s : State,
    (s.glb.dumpBusy = false → exec .dumpComplete s = .next s) ∧
    (s.glb.dumpBusy = true →
      ∃ t, exec .dumpComplete s = .next t ∧
        t.glb = { s.glb with dumpBusy := false, dumpDone := true, dumpError := !s.areaOk s.dumpBase dumpSize } ∧
        ((∀ p ∈ dumpParts s, p.1 + 8 * p.2.length ≤ dumpSize) → SameMemBut s t s.dumpBase dumpSize) ∧
        (MemInv s → s.areaOk s.dumpBase dumpSize = true → ∀ o ∈ s.dumpLost, t.wordAtAddr (s.dumpBase + o) = 0) ∧
        t = { s with glb := t.glb, mem := t.mem, poison := t.poison, reqs := t.reqs,
                     free := s.free + s.trees.length + s.sync.pend.length })) ∧
  (∀ (s : State) (v : W32), s.glb.phase = .boot → s.glb.initDone = false → exec (.tstInj v) s = .next s) ∧
  (∀ (s : State) (v : W32), Writable s → s.glb.initDone = true → s.flag K.TST_CFG 0 = true →
    (bits v 31 24 ≠ 0xC3 ∨ s.glb.inj ≠ none → exec (.tstInj v) s = .next s) ∧
    (bits v 31 24 = 0xC3 → s.glb.inj = none →
      (1 ≤ bits v 23 21 → bits v 23 21 ≤ 3 → s.unitCodeOk (bits v 20 15) = true →
        exec (.tstInj v) s = .next { s with glb := { s.glb with inj := some (bits v 23 21, bits v 20 15) } }) ∧
      (bits v 23 21 = 4 → s.fifoOk (s.fld K.TST_FIFO 15 0) = true →
        exec (.tstInj v) s = .next { s with glb := { s.glb with inj := some (4, s.fld K.TST_FIFO 15 0) } }))) ∧
  (∀ s : State, s.live = true →
    (s.glb.inj = none → exec .injectionApply s = .next s) ∧
    (∀ kind u, s.glb.inj = some (kind, u) →
      (kind = 1 ∨ kind = 2 →
        ∃ t, exec .injectionApply s = .next t ∧ t.glb.inj = none ∧ Counted s t K.ERR_CORR ∧
          t.fld K.TST_STAT 15 0 = (s.fld K.TST_STAT 15 0 + 1) % 65536 ∧
          t = { s with regs := t.regs, glb := t.glb, cyc := t.cyc, free := s.free + 1 } ∧
          SameRegsBut s t [K.TST_STAT, K.ERR_CORR, K.ERR_LOST]) ∧
      (kind = 3 →
        ∃ t, exec .injectionApply s = .next t ∧ t.glb.inj = none ∧ t.glb.fatal = true ∧
          t = { s with regs := t.regs, glb := t.glb, out := t.out, cyc := t.cyc, free := s.free + 1 }) ∧
      (kind = 4 →
        ∃ t, exec .injectionApply s = .next t ∧ t.glb.inj = none ∧ Reported s t ∧
          t.fld K.TST_STAT 15 0 = (s.fld K.TST_STAT 15 0 + 1) % 65536 ∧
          t.reg K.FIFO_LOST = BitVec.ofNat 32 (countTo 32 ((s.reg K.FIFO_LOST).toNat + (s.fifoRecs u).length)) ∧
          (u / 2 ^ 12 < 3 → t.lane (u / 2 ^ 12) (u % 2 ^ 12) = []) ∧
          t = { s with regs := t.regs, glb := t.glb, out := t.out, cyc := t.cyc, lanes := t.lanes, obs := t.obs })))

/-! ## Observation -/

/-- R383 to R391, R396 to R402, R407: SNAP keeps every counter as it stands with the stamp and FRZ freezes; a counter that passes
its end wraps and shows it, and a freeze that it asks for waits for the next hub cycle; a sample window that ends writes one record,
or is counted lost, and a full buffer with WRAP 1 is written over; the trace port sends one record a frame in order, a LOSS record
first where some were lost, and idle frames when there is none; MARK enters a record; a watchpoint counts its match and acts; a hang
snapshot runs once at a time and writes only its area. That a refused write of a sample or a snapshot is reported: log entry 83. -/
def Obligations.ObservationCommands : Prop :=
  (∀ (s : State) (v : W32) (x : Instr), s.glb.fatal = false → s.glb.phase ≠ .boot → x = .obsSnap v ∨ x = .obsFrz v →
    ∃ t, exec x s = .next t ∧ t.fld K.OBS_CTRL 23 0 = bits v 23 0 ∧
      (bit v 31 = true → t.obs = { s.obs with snap := some s.obs.pmc } ∧ t.bank64 K.OBS_SNAP = BitVec.ofNat 64 s.tb) ∧
      (bit v 31 = false → t.obs = s.obs ∧ SameRegsBut s t [K.OBS_CTRL]) ∧ t = { s with regs := t.regs, obs := t.obs }) ∧
  (∀ (s : State) (u k n : Nat) (p : Pmc), s.live = true → p = State.pmcOf s.obs.pmc u k →
    (p.count + n < 2 ^ 48 ∨ s.frozen u = true ∨ s.unitPresent u = false ∨ s.pmcOn u k = false →
      exec (.counterWrap u k n) s = .next s) ∧
    (u < 24 → 2 ^ 48 ≤ p.count + n → s.frozen u = false → s.unitPresent u = true → s.pmcOn u k = true →
      ∃ t, exec (.counterWrap u k n) s = .next t ∧
        State.pmcOf t.obs.pmc u k = { p with count := (p.count + n) % 2 ^ 48, ovf := true } ∧ t.flag K.OBS_STAT u = true ∧
        (bit (s.pmcCfg u k) 10 = true → t.flag K.IRQ_CAUSE 3 = true) ∧
        t.obs.frzNext = (bit (s.pmcCfg u k) 9 || s.obs.frzNext) ∧
        t = { s with regs := t.regs, obs := t.obs, out := t.out, cyc := t.cyc } ∧ SameRegsBut s t [K.OBS_STAT, K.IRQ_CAUSE])) ∧
  (∀ s : State, s.running = true →
    (∃ t, exec .sampleWriteComplete s = .next t ∧ t = { s with obs := { s.obs with smpBusy := false } }) ∧
    (s.flag K.SMP_CTRL 31 = false ∨ s.tb < (s.obs.smpNext + 1) * s.smpPeriod → exec .sampleWindow s = .next s) ∧
    (s.flag K.SMP_CTRL 31 = true → (s.obs.smpNext + 1) * s.smpPeriod ≤ s.tb →
      (s.obs.smpBusy = true ∨ s.smpPositions = 0 ∨ (s.smpPositions ≤ s.smpHeld ∧ s.flag K.SMP_CTRL 30 = false) →
        ∃ t, exec .sampleWindow s = .next t ∧ Counted s t K.SMP_LOST ∧
          t = { s with
            regs := t.regs, cyc := t.cyc,
            obs := { s.obs with smpNext := s.obs.smpNext + 1, smpLostPrev := s.obs.smpLostPrev + 1 } } ∧
          SameRegsBut s t [K.SMP_LOST]) ∧
      (∀ a, s.obs.smpBusy = false → s.smpPositions ≠ 0 → s.smpHeld < s.smpPositions ∨ s.flag K.SMP_CTRL 30 = true →
        a = s.addrOf K.SMP_BASE_LO K.SMP_BASE_HI + (s.reg K.SMP_PROD).toNat % s.smpPositions * s.smpLen →
        ∃ t, exec .sampleWindow s = .next t ∧ t.reg K.SMP_PROD = s.reg K.SMP_PROD + 1 ∧ t.obs.smpBusy = true ∧
          t.obs.smpNext = s.obs.smpNext + 1 ∧ t.obs.smpLostPrev = 0 ∧ SameMemBut s t a s.smpLen ∧
          (s.smpHeld < s.smpPositions → t.reg K.SMP_LOST = s.reg K.SMP_LOST) ∧
          (s.smpPositions ≤ s.smpHeld → Counted s t K.SMP_LOST) ∧
          t = { s with regs := t.regs, obs := t.obs, mem := t.mem, poison := t.poison, reqs := t.reqs, glb := t.glb, out := t.out,
                       cyc := t.cyc } ∧
          SameRegsBut s t (K.SMP_PROD :: K.SMP_LOST :: errKeys) ∧
          (s.writeOk a s.smpLen = true → t.glb = s.glb ∧ t.out = s.out ∧ SameRegsBut s t [K.SMP_PROD, K.SMP_LOST])))) ∧
  (∀ s : State,
    (s.glb.siDone = false → exec .traceSend s = .next s) ∧
    (s.glb.siDone = true → (s.glb.fatal = true ∨ s.glb.initDone = false ∨ s.obs.trace = []) →
      exec .traceSend s = .next { s with out := s.out ++ [.frame s.obs.lane idleFrame] }) ∧
    (∀ r tl, s.glb.siDone = true → s.glb.fatal = false → s.glb.initDone = true → s.obs.trace = r :: tl →
      (s.obs.traceLost = 0 →
        ∃ t, exec .traceSend s = .next t ∧ t.out = s.out ++ [.frame s.obs.lane (laneFrame r)] ∧ t.obs.trace = tl ∧
          t.obs.lane = (s.obs.lane + 1) % 4 ∧ Counted s t K.TRC_REC ∧
          t = { s with regs := t.regs, obs := t.obs, out := t.out, cyc := t.cyc } ∧ SameRegsBut s t [K.TRC_REC]) ∧
      (s.obs.traceLost ≠ 0 →
        ∃ t l, exec .traceSend s = .next t ∧ t.out = s.out ++ [.frame s.obs.lane (laneFrame l)] ∧ bits l.w0 63 58 = 0x30 ∧
          l.w2 = BitVec.ofNat 64 s.obs.traceLost ∧ t.obs.trace = s.obs.trace ∧ t.obs.traceLost = 0 ∧
          t = { s with regs := t.regs, obs := t.obs, out := t.out, cyc := t.cyc, free := s.free + 1 } ∧
          SameRegsBut s t [K.TRC_REC]))) ∧
  (∀ (s : State) (v : W32), s.glb.fatal = false → s.glb.phase ≠ .boot →
    (s.glb.initDone = false ∨ s.traceLevel = 0 → exec (.trcMark v) s = .next s) ∧
    (s.glb.initDone = true → s.traceLevel ≠ 0 →
      (s.obs.budget = 0 →
        ∃ t, exec (.trcMark v) s = .next t ∧ Counted s t K.TRC_LOST ∧ t.obs.traceSeq = (s.obs.traceSeq + 1) % 2 ^ 24 ∧
          t = { s with regs := t.regs, obs := t.obs, cyc := t.cyc } ∧ SameRegsBut s t [K.TRC_LOST]) ∧
      (0 < s.obs.budget → s.obs.trace.length < 8192 → s.cyc.trcs = [] →
        ∃ t r, exec (.trcMark v) s = .next t ∧ t.obs.trace = s.obs.trace ++ [r] ∧ bits r.w0 63 58 = 0x31 ∧
          r.w1 = BitVec.ofNat 64 s.tb ∧ r.w3 = BitVec.ofNat 64 v.toNat ∧ t.obs.budget = s.obs.budget - 1 ∧
          t = { s with obs := t.obs, cyc := t.cyc, free := s.free + 1 }))) ∧
  (∀ (s : State) (n : Nat) (a : Access),
    (s.live = false ∨ s.wpMatches n a = false → exec (.watch n a) s = .next s) ∧
    (s.live = true → s.wpMatches n a = true → s.flag (K.WP_CFGn n) 17 = false →
      ∃ t, exec (.watch n a) s = .next t ∧ Counted s t (K.WP_HITn n) ∧
        (s.flag (K.WP_CFGn n) 16 = true → t.fld K.OBS_CTRL 23 0 = 2 ^ 24 - 1) ∧
        (s.flag (K.WP_CFGn n) 16 = false → t.reg K.OBS_CTRL = s.reg K.OBS_CTRL) ∧
        (s.flag (K.WP_CFGn n) 18 = true → t.flag K.IRQ_CAUSE 4 = true) ∧
        t = { s with regs := t.regs, obs := t.obs, out := t.out, cyc := t.cyc, free := s.free + 1 } ∧
        SameRegsBut s t [K.WP_HITn n, K.OBS_CTRL, K.IRQ_CAUSE, K.TRC_LOST]) ∧
    (s.live = true → s.wpMatches n a = true → s.flag (K.WP_CFGn n) 17 = true → s.glb.initDone = true → s.glb.armed = false →
      s.isStartRoot = false →
      ∃ t, exec (.watch n a) s = .next t ∧ Counted s t (K.WP_HITn n) ∧
        t.glb = { s.glb with armed := true, stopCause := 3, tStop := s.tb + s.stopLead })) ∧
  (∀ (s : State) (v : W32), Writable s →
    (bit v 31 = false → ∃ t, exec (.hangGo v) s = .next t ∧ t = { s with regs := t.regs } ∧ SameRegsBut s t [K.HANG_CTRL]) ∧
    (bit v 31 = true → s.obs.hangBusy = true →
      ∃ t, exec (.hangGo v) s = .next t ∧ Counted s t K.HANG_SKIP ∧ t = { s with regs := t.regs, cyc := t.cyc } ∧
        SameRegsBut s t [K.HANG_CTRL, K.HANG_SKIP]) ∧
    (bit v 31 = true → s.obs.hangBusy = false →
      ∃ t, exec (.hangGo v) s = .next t ∧
        t = { s with regs := t.regs, obs := { s.obs with hangBusy := true, hangDone := false, hangReason := 1 } } ∧
        SameRegsBut s t [K.HANG_CTRL])) ∧
  (∀ s : State, s.running = true →
    (s.obs.hangBusy = false → exec .hangDone s = .next s) ∧
    (s.obs.hangBusy = true →
      ∃ t, exec .hangDone s = .next t ∧ t.obs.hangBusy = false ∧ t.obs.hangDone = true ∧ t.flag K.IRQ_CAUSE 6 = true ∧
        ((∀ e ∈ s.queues, e.1 < 65536) → s.allWaiters.length ≤ 65536 → s.runningCbs.length ≤ 65536 →
          SameMemBut s t s.hangBase 0x310000) ∧
        t = { s with regs := t.regs, obs := t.obs, out := t.out, mem := t.mem, poison := t.poison, reqs := t.reqs, glb := t.glb,
                     cyc := t.cyc } ∧
        SameRegsBut s t errKeys ∧ (s.areaOk s.hangBase 0x310000 = true → t.glb = s.glb ∧ SameRegsBut s t [K.IRQ_CAUSE])))

/-! ## Register accesses -/

namespace Sys2Proof.Claims

/-- The commands that a write of 4 bytes at an address of the flat map stands for. -/
def writeCmds (o : Origin) (v : W32) : List (Nat × Instr) :=
  [(0x00, .gblEnable v), (0x48, .irqEn v), (0x418, .errPop v), (0x458, .dumpGo v), (0x7010, .arriveStart v), (0x8000, .obsFrz v),
   (0x8028, .trcMark v), (0x8060, .hangGo v), (0x8080, .stopGo v), (0x9014, .tstInj v), (0xA000, .winSel o v)]

/-- The flat registers whose write does more than hold what is written. -/
def actingRegs : List Nat :=
  [0x00, 0x2C, 0x48, 0x108, 0x10C, 0x110, 0x418, 0x458, 0x1008, 0x500C, 0x7000, 0x7010, 0x8000, 0x8028, 0x8040, 0x8060, 0x8080,
   0x9000, 0x9014, 0xA000]

end Sys2Proof.Claims

/-- R12, R13, R336, R355, R413 to R417, R420, R421: an access of a wrong size or alignment is counted in HOST_BAD, and a read of
that kind returns 0; a read returns what the register shows, takes a latched half where one waits, and clears RC fields, of which an
update in the same hub cycle is neither shown nor lost (which commands fall in one hub cycle: log entry 2); a write of a register
that acts is its own command, one of another register changes its writable fields alone and in BOOT only counts in BOOT_DROP;
WIN_SEL belongs to its origin and clears its latch; IRQ_EN requests the vector of a cause that stands. That an access passes the
host's register FIFO is the model's choice (log entry 107). -/
def Obligations.RegisterAccesses : Prop :=
  (∀ (s : State) (o : Origin) (a size : Nat) (w : Word), s.badAccess o a size = true →
    ∃ t, exec (.registerWrite o a size w) s = .next t ∧ exec (.hostBad o a size false) s = .next t ∧
      (s.live = true → Counted s t K.HOST_BAD) ∧ t = { s with regs := t.regs, obs := t.obs, cyc := t.cyc } ∧
      SameRegsBut s t [K.HOST_BAD]) ∧
  (∀ (s : State) (o : Origin) (a size : Nat),
    (s.badAccess o a size = true →
      ∃ t, exec (.rcRead o a size) s = .next t ∧ exec (.hostBad o a size true) s = .next t ∧
        (s.live = true → Counted s t K.HOST_BAD) ∧
        t = { s with regs := t.regs, obs := t.obs, cyc := t.cyc, out := s.out ++ [.readData o size 0] } ∧
        SameRegsBut s t [K.HOST_BAD]) ∧
    (∀ r, s.badAccess o a size = false → exec (.hostBad o a size r) s = .next s)) ∧
  (∀ (s u : State) (o : Origin) (a : Nat) (k : RegKey), a % 4 = 0 → s.target o a = some k → u = hostPass o s →
    (∀ w, (s.sel o).latch = some (k, w) →
      ∃ t, exec (.rcRead o a 4) s = .next t ∧ t.out = s.out ++ [.readData o 4 (BitVec.ofNat 64 w.toNat)] ∧
        (t.sel o).latch = none ∧ t.regs = s.regs) ∧
    (∀ d, (s.sel o).latch = none → (s.wide64 (s.sel o) k).isSome = false → pairLow k = false → regDesc k = some d → k.ty ≠ 2 →
      (Tab.get none s.cyc.upd k = none →
        ∃ t, exec (.rcRead o a 4) s = .next t ∧ t.out = s.out ++ [.readData o 4 (BitVec.ofNat 64 (u.view32 o k).toNat)] ∧
          (s.readClears a = true → t.reg k = s.reg k &&& ~~~(BitVec.ofNat 32 d.rc)) ∧
          (s.readClears a = false → t.reg k = s.reg k) ∧
          t = { s with regs := t.regs, out := t.out, obs := t.obs } ∧ SameRegsBut s t [k]) ∧
      (∀ old part, Tab.get none s.cyc.upd k = some (old, part) → s.readClears a = true →
        ∃ t, exec (.rcRead o a 4) s = .next t ∧
          t.out = s.out ++ [.readData o 4 (BitVec.ofNat 64
            ((u.view32 o k &&& ~~~(BitVec.ofNat 32 d.rc)) ||| (old &&& BitVec.ofNat 32 d.rc)).toNat)] ∧
          t.reg k = (s.reg k &&& ~~~(BitVec.ofNat 32 d.rc)) ||| (part &&& BitVec.ofNat 32 d.rc) ∧
          t = { s with regs := t.regs, out := t.out, obs := t.obs, cyc := t.cyc } ∧ SameRegsBut s t [k]))) ∧
  (∀ (s : State) (o : Origin) (a : Nat) (w : Word) (x : Instr), (a, x) ∈ writeCmds o (lo32 w) →
    exec (.registerWrite o a 4 w) s = exec x (hostPass o s)) ∧
  (∀ (s : State) (o : Origin) (a : Nat) (w : Word) (d : RegDesc), s.live = true → a % 4 = 0 → a < 0xA100 → a ∉ actingRegs →
    (a < 0x1100 ∨ 0x1500 ≤ a) → (a < 0x8800 ∨ 0x8EC0 ≤ a) → regDesc ⟨0, 0, a⟩ = some d →
    (s.glb.phase ≠ .boot →
      ∃ t, exec (.registerWrite o a 4 w) s = .next t ∧ t.reg ⟨0, 0, a⟩ = s.written d ⟨0, 0, a⟩ (lo32 w) ∧
        t = { s with regs := t.regs, obs := t.obs } ∧ SameRegsBut s t [⟨0, 0, a⟩]) ∧
    (s.glb.phase = .boot →
      ∃ t, exec (.registerWrite o a 4 w) s = .next t ∧ (writable ⟨0, 0, a⟩ = true → Counted s t K.BOOT_DROP) ∧
        (writable ⟨0, 0, a⟩ = false → t.regs = s.regs) ∧ t = { s with regs := t.regs, obs := t.obs, cyc := t.cyc } ∧
        SameRegsBut s t [K.BOOT_DROP])) ∧
  (∀ (s : State) (o : Origin) (v : W32), Writable s →
    (∃ t, exec (.winSel o v) s = .next t ∧ (t.sel o).winSel = v &&& 0xF0FFFFFF#32 ∧ (t.sel o).latch = none ∧
      (∀ p, p ≠ o → t.sel p = s.sel p) ∧ t = { s with selHost := t.selHost, selMgmt := t.selMgmt }) ∧
    (s.reg K.IRQ_CAUSE = 0 →
      ∃ t, exec (.irqEn v) s = .next t ∧ t.reg K.IRQ_EN = (s.reg K.IRQ_EN &&& ~~~0x7F#32) ||| (v &&& 0x7F#32) ∧
        t = { s with regs := t.regs } ∧ SameRegsBut s t [K.IRQ_EN]) ∧
    (s.reg K.IRQ_CAUSE = 8 → bit v 3 = true → s.flag K.IRQ_EN 3 = false → s.glb.initDone = true →
      ∃ t, exec (.irqEn v) s = .next t ∧
        t.out = (if s.fld K.IRQ_VEC 29 24 ∈ s.cyc.vecs then s.out else s.out ++ [.msix (s.fld K.IRQ_VEC 29 24)]) ∧
        t = { s with regs := t.regs, out := t.out, cyc := t.cyc } ∧ SameRegsBut s t [K.IRQ_EN]))

/-! ## The whole block -/

/-- R351, R354, Table 12-7 and the reset values of the field maps: after reset the block is in BOOT with its timebase at 0 and
INIT_DONE and ENABLE 0, every register reads its reset value, every unit is off, every context DISABLED, nothing is in flight, and
nothing has been sent. -/
def Obligations.ResetLeavesTheSpecsValues : Prop :=
  State.reset.glb.phase = .boot ∧ State.reset.tb = 0 ∧ State.reset.fmhz = 1500 ∧ State.reset.glb.initDone = false ∧
    State.reset.running = false ∧ State.reset.pending = [] ∧ (∀ k, State.reset.reg k = regReset k) ∧
    State.reset.reg K.FRM_LEN = 10000 ∧ State.reset.reg K.IRQ_EN = 0x7F ∧ State.reset.fld K.FAB_STOP 30 0 = 20000 ∧
    (∀ u, State.reset.unit u = UnitEn.off) ∧ (∀ c, (State.reset.ctx c).state = .disabled) ∧
    (∀ sh n, (State.reset.slot sh n).state = .free) ∧ (∀ p, State.reset.obj? p = none) ∧
    (∀ q, (State.reset.queue q).state = .closed) ∧ (∀ r, (State.reset.ring r).csnNext = 0 ∧ (State.reset.ring r).done = 0) ∧
    State.reset.launches = [] ∧ State.reset.cbs = [] ∧ State.reset.out = [] ∧ State.reset.lanes = [] ∧
    State.reset.reqs = [] ∧ MemInv State.reset ∧ SeqInv State.reset

/-- Every step keeps the memory in its canonical form. -/
def Obligations.StepsKeepMemoryCanonical : Prop :=
  ∀ s t : State, MemInv s → Sys2Proof.Machine.step s = .next t → MemInv t

/-- Every step keeps the positions of the started operations of every command buffer below its next one, which the statements about
operations assume. -/
def Obligations.StepsKeepOperationPositions : Prop :=
  ∀ s t : State, SeqInv s → Sys2Proof.Machine.step s = .next t → SeqInv t

/-- R339: no step that begins and ends before INIT_DONE requests an MSI-X message. -/
def Obligations.NoMsixBeforeInitDone : Prop :=
  ∀ s t : State, s.glb.initDone = false → Sys2Proof.Machine.step s = .next t → t.glb.initDone = false →
    ∃ l, t.out = s.out ++ l ∧ ∀ v, Out.msix v ∉ l
end

