-- ==== Sys2Proof/Laws/State.lean ====
section
/-! SUPPORT. What each plain update of the state changes and leaves, field by field: the later proofs cite these and never
unfold a record update. -/

namespace Sys2Proof.Machine

/-! ## Tables -/

@[simp] theorem Tab.get_put_same {κ α : Type} [DecidableEq κ] (d : α) (t : Tab κ α) (k : κ) (v : α) :
    Tab.get d (Tab.put t k v) k = v := by
  induction t with
  | nil => simp [Tab.put, Tab.get]
  | cons e t ih =>
    obtain ⟨j, w⟩ := e
    by_cases h : j = k <;> simp [Tab.put, Tab.get, h, ih]

theorem Tab.get_put_other {κ α : Type} [DecidableEq κ] (d : α) (t : Tab κ α) {k j : κ} (v : α) (h : k ≠ j) :
    Tab.get d (Tab.put t k v) j = Tab.get d t j := by
  induction t with
  | nil => simp [Tab.put, Tab.get, h]
  | cons e t ih =>
    obtain ⟨i, w⟩ := e
    by_cases hi : i = k
    · subst hi; simp [Tab.put, Tab.get, h]
    · by_cases hj : i = j
      · subst hj; simp [Tab.put, Tab.get, hi]
      · simp [Tab.put, Tab.get, hi, hj, ih]


/-! ## State.setReg -/

@[simp] theorem State.setReg_pending (s : State) (k : RegKey) (v : W32) : (s.setReg k v).pending = s.pending := rfl
@[simp] theorem State.setReg_variant (s : State) (k : RegKey) (v : W32) : (s.setReg k v).variant = s.variant := rfl
@[simp] theorem State.setReg_hc (s : State) (k : RegKey) (v : W32) : (s.setReg k v).hc = s.hc := rfl
@[simp] theorem State.setReg_tb (s : State) (k : RegKey) (v : W32) : (s.setReg k v).tb = s.tb := rfl
@[simp] theorem State.setReg_tbPhase (s : State) (k : RegKey) (v : W32) : (s.setReg k v).tbPhase = s.tbPhase := rfl
@[simp] theorem State.setReg_fmhz (s : State) (k : RegKey) (v : W32) : (s.setReg k v).fmhz = s.fmhz := rfl
@[simp] theorem State.setReg_free (s : State) (k : RegKey) (v : W32) : (s.setReg k v).free = s.free := rfl
@[simp] theorem State.setReg_selHost (s : State) (k : RegKey) (v : W32) : (s.setReg k v).selHost = s.selHost := rfl
@[simp] theorem State.setReg_selMgmt (s : State) (k : RegKey) (v : W32) : (s.setReg k v).selMgmt = s.selMgmt := rfl
@[simp] theorem State.setReg_glb (s : State) (k : RegKey) (v : W32) : (s.setReg k v).glb = s.glb := rfl
@[simp] theorem State.setReg_en (s : State) (k : RegKey) (v : W32) : (s.setReg k v).en = s.en := rfl
@[simp] theorem State.setReg_ctxs (s : State) (k : RegKey) (v : W32) : (s.setReg k v).ctxs = s.ctxs := rfl
@[simp] theorem State.setReg_templates (s : State) (k : RegKey) (v : W32) : (s.setReg k v).templates = s.templates := rfl
@[simp] theorem State.setReg_launches (s : State) (k : RegKey) (v : W32) : (s.setReg k v).launches = s.launches := rfl
@[simp] theorem State.setReg_heldLaunches (s : State) (k : RegKey) (v : W32) : (s.setReg k v).heldLaunches = s.heldLaunches := rfl
@[simp] theorem State.setReg_hub (s : State) (k : RegKey) (v : W32) : (s.setReg k v).hub = s.hub := rfl
@[simp] theorem State.setReg_disp (s : State) (k : RegKey) (v : W32) : (s.setReg k v).disp = s.disp := rfl
@[simp] theorem State.setReg_fold (s : State) (k : RegKey) (v : W32) : (s.setReg k v).fold = s.fold := rfl
@[simp] theorem State.setReg_rings (s : State) (k : RegKey) (v : W32) : (s.setReg k v).rings = s.rings := rfl
@[simp] theorem State.setReg_cbs (s : State) (k : RegKey) (v : W32) : (s.setReg k v).cbs = s.cbs := rfl
@[simp] theorem State.setReg_dmas (s : State) (k : RegKey) (v : W32) : (s.setReg k v).dmas = s.dmas := rfl
@[simp] theorem State.setReg_dlm (s : State) (k : RegKey) (v : W32) : (s.setReg k v).dlm = s.dlm := rfl
@[simp] theorem State.setReg_ckpts (s : State) (k : RegKey) (v : W32) : (s.setReg k v).ckpts = s.ckpts := rfl
@[simp] theorem State.setReg_sync (s : State) (k : RegKey) (v : W32) : (s.setReg k v).sync = s.sync := rfl
@[simp] theorem State.setReg_queues (s : State) (k : RegKey) (v : W32) : (s.setReg k v).queues = s.queues := rfl
@[simp] theorem State.setReg_msgs (s : State) (k : RegKey) (v : W32) : (s.setReg k v).msgs = s.msgs := rfl
@[simp] theorem State.setReg_fab (s : State) (k : RegKey) (v : W32) : (s.setReg k v).fab = s.fab := rfl
@[simp] theorem State.setReg_obs (s : State) (k : RegKey) (v : W32) : (s.setReg k v).obs = s.obs := rfl
@[simp] theorem State.setReg_mem (s : State) (k : RegKey) (v : W32) : (s.setReg k v).mem = s.mem := rfl
@[simp] theorem State.setReg_poison (s : State) (k : RegKey) (v : W32) : (s.setReg k v).poison = s.poison := rfl
@[simp] theorem State.setReg_refuse (s : State) (k : RegKey) (v : W32) : (s.setReg k v).refuse = s.refuse := rfl
@[simp] theorem State.setReg_nextId (s : State) (k : RegKey) (v : W32) : (s.setReg k v).nextId = s.nextId := rfl
@[simp] theorem State.setReg_lanes (s : State) (k : RegKey) (v : W32) : (s.setReg k v).lanes = s.lanes := rfl
@[simp] theorem State.setReg_cyc (s : State) (k : RegKey) (v : W32) : (s.setReg k v).cyc = s.cyc := rfl
@[simp] theorem State.setReg_reqs (s : State) (k : RegKey) (v : W32) : (s.setReg k v).reqs = s.reqs := rfl
@[simp] theorem State.setReg_out (s : State) (k : RegKey) (v : W32) : (s.setReg k v).out = s.out := rfl

/-! ## State.setFld -/

@[simp] theorem State.setFld_pending (s : State) (k : RegKey) (hi lo v : Nat) : (s.setFld k hi lo v).pending = s.pending := rfl
@[simp] theorem State.setFld_variant (s : State) (k : RegKey) (hi lo v : Nat) : (s.setFld k hi lo v).variant = s.variant := rfl
@[simp] theorem State.setFld_hc (s : State) (k : RegKey) (hi lo v : Nat) : (s.setFld k hi lo v).hc = s.hc := rfl
@[simp] theorem State.setFld_tb (s : State) (k : RegKey) (hi lo v : Nat) : (s.setFld k hi lo v).tb = s.tb := rfl
@[simp] theorem State.setFld_tbPhase (s : State) (k : RegKey) (hi lo v : Nat) : (s.setFld k hi lo v).tbPhase = s.tbPhase := rfl
@[simp] theorem State.setFld_fmhz (s : State) (k : RegKey) (hi lo v : Nat) : (s.setFld k hi lo v).fmhz = s.fmhz := rfl
@[simp] theorem State.setFld_free (s : State) (k : RegKey) (hi lo v : Nat) : (s.setFld k hi lo v).free = s.free := rfl
@[simp] theorem State.setFld_selHost (s : State) (k : RegKey) (hi lo v : Nat) : (s.setFld k hi lo v).selHost = s.selHost := rfl
@[simp] theorem State.setFld_selMgmt (s : State) (k : RegKey) (hi lo v : Nat) : (s.setFld k hi lo v).selMgmt = s.selMgmt := rfl
@[simp] theorem State.setFld_glb (s : State) (k : RegKey) (hi lo v : Nat) : (s.setFld k hi lo v).glb = s.glb := rfl
@[simp] theorem State.setFld_en (s : State) (k : RegKey) (hi lo v : Nat) : (s.setFld k hi lo v).en = s.en := rfl
@[simp] theorem State.setFld_ctxs (s : State) (k : RegKey) (hi lo v : Nat) : (s.setFld k hi lo v).ctxs = s.ctxs := rfl
@[simp] theorem State.setFld_templates (s : State) (k : RegKey) (hi lo v : Nat) : (s.setFld k hi lo v).templates = s.templates := rfl
@[simp] theorem State.setFld_launches (s : State) (k : RegKey) (hi lo v : Nat) : (s.setFld k hi lo v).launches = s.launches := rfl
@[simp] theorem State.setFld_heldLaunches (s : State) (k : RegKey) (hi lo v : Nat) : (s.setFld k hi lo v).heldLaunches = s.heldLaunches := rfl
@[simp] theorem State.setFld_hub (s : State) (k : RegKey) (hi lo v : Nat) : (s.setFld k hi lo v).hub = s.hub := rfl
@[simp] theorem State.setFld_disp (s : State) (k : RegKey) (hi lo v : Nat) : (s.setFld k hi lo v).disp = s.disp := rfl
@[simp] theorem State.setFld_fold (s : State) (k : RegKey) (hi lo v : Nat) : (s.setFld k hi lo v).fold = s.fold := rfl
@[simp] theorem State.setFld_rings (s : State) (k : RegKey) (hi lo v : Nat) : (s.setFld k hi lo v).rings = s.rings := rfl
@[simp] theorem State.setFld_cbs (s : State) (k : RegKey) (hi lo v : Nat) : (s.setFld k hi lo v).cbs = s.cbs := rfl
@[simp] theorem State.setFld_dmas (s : State) (k : RegKey) (hi lo v : Nat) : (s.setFld k hi lo v).dmas = s.dmas := rfl
@[simp] theorem State.setFld_dlm (s : State) (k : RegKey) (hi lo v : Nat) : (s.setFld k hi lo v).dlm = s.dlm := rfl
@[simp] theorem State.setFld_ckpts (s : State) (k : RegKey) (hi lo v : Nat) : (s.setFld k hi lo v).ckpts = s.ckpts := rfl
@[simp] theorem State.setFld_sync (s : State) (k : RegKey) (hi lo v : Nat) : (s.setFld k hi lo v).sync = s.sync := rfl
@[simp] theorem State.setFld_queues (s : State) (k : RegKey) (hi lo v : Nat) : (s.setFld k hi lo v).queues = s.queues := rfl
@[simp] theorem State.setFld_msgs (s : State) (k : RegKey) (hi lo v : Nat) : (s.setFld k hi lo v).msgs = s.msgs := rfl
@[simp] theorem State.setFld_fab (s : State) (k : RegKey) (hi lo v : Nat) : (s.setFld k hi lo v).fab = s.fab := rfl
@[simp] theorem State.setFld_obs (s : State) (k : RegKey) (hi lo v : Nat) : (s.setFld k hi lo v).obs = s.obs := rfl
@[simp] theorem State.setFld_mem (s : State) (k : RegKey) (hi lo v : Nat) : (s.setFld k hi lo v).mem = s.mem := rfl
@[simp] theorem State.setFld_poison (s : State) (k : RegKey) (hi lo v : Nat) : (s.setFld k hi lo v).poison = s.poison := rfl
@[simp] theorem State.setFld_refuse (s : State) (k : RegKey) (hi lo v : Nat) : (s.setFld k hi lo v).refuse = s.refuse := rfl
@[simp] theorem State.setFld_nextId (s : State) (k : RegKey) (hi lo v : Nat) : (s.setFld k hi lo v).nextId = s.nextId := rfl
@[simp] theorem State.setFld_lanes (s : State) (k : RegKey) (hi lo v : Nat) : (s.setFld k hi lo v).lanes = s.lanes := rfl
@[simp] theorem State.setFld_cyc (s : State) (k : RegKey) (hi lo v : Nat) : (s.setFld k hi lo v).cyc = s.cyc := rfl
@[simp] theorem State.setFld_reqs (s : State) (k : RegKey) (hi lo v : Nat) : (s.setFld k hi lo v).reqs = s.reqs := rfl
@[simp] theorem State.setFld_out (s : State) (k : RegKey) (hi lo v : Nat) : (s.setFld k hi lo v).out = s.out := rfl

/-! ## bump -/

@[simp] theorem bump_pending (s : State) (k : RegKey) (n : Nat) : (bump k n s).pending = s.pending := rfl
@[simp] theorem bump_variant (s : State) (k : RegKey) (n : Nat) : (bump k n s).variant = s.variant := rfl
@[simp] theorem bump_hc (s : State) (k : RegKey) (n : Nat) : (bump k n s).hc = s.hc := rfl
@[simp] theorem bump_tb (s : State) (k : RegKey) (n : Nat) : (bump k n s).tb = s.tb := rfl
@[simp] theorem bump_tbPhase (s : State) (k : RegKey) (n : Nat) : (bump k n s).tbPhase = s.tbPhase := rfl
@[simp] theorem bump_fmhz (s : State) (k : RegKey) (n : Nat) : (bump k n s).fmhz = s.fmhz := rfl
@[simp] theorem bump_free (s : State) (k : RegKey) (n : Nat) : (bump k n s).free = s.free := rfl
@[simp] theorem bump_selHost (s : State) (k : RegKey) (n : Nat) : (bump k n s).selHost = s.selHost := rfl
@[simp] theorem bump_selMgmt (s : State) (k : RegKey) (n : Nat) : (bump k n s).selMgmt = s.selMgmt := rfl
@[simp] theorem bump_glb (s : State) (k : RegKey) (n : Nat) : (bump k n s).glb = s.glb := rfl
@[simp] theorem bump_en (s : State) (k : RegKey) (n : Nat) : (bump k n s).en = s.en := rfl
@[simp] theorem bump_ctxs (s : State) (k : RegKey) (n : Nat) : (bump k n s).ctxs = s.ctxs := rfl
@[simp] theorem bump_templates (s : State) (k : RegKey) (n : Nat) : (bump k n s).templates = s.templates := rfl
@[simp] theorem bump_launches (s : State) (k : RegKey) (n : Nat) : (bump k n s).launches = s.launches := rfl
@[simp] theorem bump_heldLaunches (s : State) (k : RegKey) (n : Nat) : (bump k n s).heldLaunches = s.heldLaunches := rfl
@[simp] theorem bump_hub (s : State) (k : RegKey) (n : Nat) : (bump k n s).hub = s.hub := rfl
@[simp] theorem bump_disp (s : State) (k : RegKey) (n : Nat) : (bump k n s).disp = s.disp := rfl
@[simp] theorem bump_fold (s : State) (k : RegKey) (n : Nat) : (bump k n s).fold = s.fold := rfl
@[simp] theorem bump_rings (s : State) (k : RegKey) (n : Nat) : (bump k n s).rings = s.rings := rfl
@[simp] theorem bump_cbs (s : State) (k : RegKey) (n : Nat) : (bump k n s).cbs = s.cbs := rfl
@[simp] theorem bump_dmas (s : State) (k : RegKey) (n : Nat) : (bump k n s).dmas = s.dmas := rfl
@[simp] theorem bump_dlm (s : State) (k : RegKey) (n : Nat) : (bump k n s).dlm = s.dlm := rfl
@[simp] theorem bump_ckpts (s : State) (k : RegKey) (n : Nat) : (bump k n s).ckpts = s.ckpts := rfl
@[simp] theorem bump_sync (s : State) (k : RegKey) (n : Nat) : (bump k n s).sync = s.sync := rfl
@[simp] theorem bump_queues (s : State) (k : RegKey) (n : Nat) : (bump k n s).queues = s.queues := rfl
@[simp] theorem bump_msgs (s : State) (k : RegKey) (n : Nat) : (bump k n s).msgs = s.msgs := rfl
@[simp] theorem bump_fab (s : State) (k : RegKey) (n : Nat) : (bump k n s).fab = s.fab := rfl
@[simp] theorem bump_obs (s : State) (k : RegKey) (n : Nat) : (bump k n s).obs = s.obs := rfl
@[simp] theorem bump_mem (s : State) (k : RegKey) (n : Nat) : (bump k n s).mem = s.mem := rfl
@[simp] theorem bump_poison (s : State) (k : RegKey) (n : Nat) : (bump k n s).poison = s.poison := rfl
@[simp] theorem bump_refuse (s : State) (k : RegKey) (n : Nat) : (bump k n s).refuse = s.refuse := rfl
@[simp] theorem bump_nextId (s : State) (k : RegKey) (n : Nat) : (bump k n s).nextId = s.nextId := rfl
@[simp] theorem bump_lanes (s : State) (k : RegKey) (n : Nat) : (bump k n s).lanes = s.lanes := rfl
@[simp] theorem bump_reqs (s : State) (k : RegKey) (n : Nat) : (bump k n s).reqs = s.reqs := rfl
@[simp] theorem bump_out (s : State) (k : RegKey) (n : Nat) : (bump k n s).out = s.out := rfl

/-! ## bumpFld -/

@[simp] theorem bumpFld_pending (s : State) (k : RegKey) (hi lo n : Nat) : (bumpFld k hi lo n s).pending = s.pending := rfl
@[simp] theorem bumpFld_variant (s : State) (k : RegKey) (hi lo n : Nat) : (bumpFld k hi lo n s).variant = s.variant := rfl
@[simp] theorem bumpFld_hc (s : State) (k : RegKey) (hi lo n : Nat) : (bumpFld k hi lo n s).hc = s.hc := rfl
@[simp] theorem bumpFld_tb (s : State) (k : RegKey) (hi lo n : Nat) : (bumpFld k hi lo n s).tb = s.tb := rfl
@[simp] theorem bumpFld_tbPhase (s : State) (k : RegKey) (hi lo n : Nat) : (bumpFld k hi lo n s).tbPhase = s.tbPhase := rfl
@[simp] theorem bumpFld_fmhz (s : State) (k : RegKey) (hi lo n : Nat) : (bumpFld k hi lo n s).fmhz = s.fmhz := rfl
@[simp] theorem bumpFld_free (s : State) (k : RegKey) (hi lo n : Nat) : (bumpFld k hi lo n s).free = s.free := rfl
@[simp] theorem bumpFld_selHost (s : State) (k : RegKey) (hi lo n : Nat) : (bumpFld k hi lo n s).selHost = s.selHost := rfl
@[simp] theorem bumpFld_selMgmt (s : State) (k : RegKey) (hi lo n : Nat) : (bumpFld k hi lo n s).selMgmt = s.selMgmt := rfl
@[simp] theorem bumpFld_glb (s : State) (k : RegKey) (hi lo n : Nat) : (bumpFld k hi lo n s).glb = s.glb := rfl
@[simp] theorem bumpFld_en (s : State) (k : RegKey) (hi lo n : Nat) : (bumpFld k hi lo n s).en = s.en := rfl
@[simp] theorem bumpFld_ctxs (s : State) (k : RegKey) (hi lo n : Nat) : (bumpFld k hi lo n s).ctxs = s.ctxs := rfl
@[simp] theorem bumpFld_templates (s : State) (k : RegKey) (hi lo n : Nat) : (bumpFld k hi lo n s).templates = s.templates := rfl
@[simp] theorem bumpFld_launches (s : State) (k : RegKey) (hi lo n : Nat) : (bumpFld k hi lo n s).launches = s.launches := rfl
@[simp] theorem bumpFld_heldLaunches (s : State) (k : RegKey) (hi lo n : Nat) : (bumpFld k hi lo n s).heldLaunches = s.heldLaunches := rfl
@[simp] theorem bumpFld_hub (s : State) (k : RegKey) (hi lo n : Nat) : (bumpFld k hi lo n s).hub = s.hub := rfl
@[simp] theorem bumpFld_disp (s : State) (k : RegKey) (hi lo n : Nat) : (bumpFld k hi lo n s).disp = s.disp := rfl
@[simp] theorem bumpFld_fold (s : State) (k : RegKey) (hi lo n : Nat) : (bumpFld k hi lo n s).fold = s.fold := rfl
@[simp] theorem bumpFld_rings (s : State) (k : RegKey) (hi lo n : Nat) : (bumpFld k hi lo n s).rings = s.rings := rfl
@[simp] theorem bumpFld_cbs (s : State) (k : RegKey) (hi lo n : Nat) : (bumpFld k hi lo n s).cbs = s.cbs := rfl
@[simp] theorem bumpFld_dmas (s : State) (k : RegKey) (hi lo n : Nat) : (bumpFld k hi lo n s).dmas = s.dmas := rfl
@[simp] theorem bumpFld_dlm (s : State) (k : RegKey) (hi lo n : Nat) : (bumpFld k hi lo n s).dlm = s.dlm := rfl
@[simp] theorem bumpFld_ckpts (s : State) (k : RegKey) (hi lo n : Nat) : (bumpFld k hi lo n s).ckpts = s.ckpts := rfl
@[simp] theorem bumpFld_sync (s : State) (k : RegKey) (hi lo n : Nat) : (bumpFld k hi lo n s).sync = s.sync := rfl
@[simp] theorem bumpFld_queues (s : State) (k : RegKey) (hi lo n : Nat) : (bumpFld k hi lo n s).queues = s.queues := rfl
@[simp] theorem bumpFld_msgs (s : State) (k : RegKey) (hi lo n : Nat) : (bumpFld k hi lo n s).msgs = s.msgs := rfl
@[simp] theorem bumpFld_fab (s : State) (k : RegKey) (hi lo n : Nat) : (bumpFld k hi lo n s).fab = s.fab := rfl
@[simp] theorem bumpFld_obs (s : State) (k : RegKey) (hi lo n : Nat) : (bumpFld k hi lo n s).obs = s.obs := rfl
@[simp] theorem bumpFld_mem (s : State) (k : RegKey) (hi lo n : Nat) : (bumpFld k hi lo n s).mem = s.mem := rfl
@[simp] theorem bumpFld_poison (s : State) (k : RegKey) (hi lo n : Nat) : (bumpFld k hi lo n s).poison = s.poison := rfl
@[simp] theorem bumpFld_refuse (s : State) (k : RegKey) (hi lo n : Nat) : (bumpFld k hi lo n s).refuse = s.refuse := rfl
@[simp] theorem bumpFld_nextId (s : State) (k : RegKey) (hi lo n : Nat) : (bumpFld k hi lo n s).nextId = s.nextId := rfl
@[simp] theorem bumpFld_lanes (s : State) (k : RegKey) (hi lo n : Nat) : (bumpFld k hi lo n s).lanes = s.lanes := rfl
@[simp] theorem bumpFld_reqs (s : State) (k : RegKey) (hi lo n : Nat) : (bumpFld k hi lo n s).reqs = s.reqs := rfl
@[simp] theorem bumpFld_out (s : State) (k : RegKey) (hi lo n : Nat) : (bumpFld k hi lo n s).out = s.out := rfl

/-! ## bumpWrap -/

@[simp] theorem bumpWrap_pending (s : State) (k : RegKey) (n : Nat) : (bumpWrap k n s).pending = s.pending := rfl
@[simp] theorem bumpWrap_variant (s : State) (k : RegKey) (n : Nat) : (bumpWrap k n s).variant = s.variant := rfl
@[simp] theorem bumpWrap_hc (s : State) (k : RegKey) (n : Nat) : (bumpWrap k n s).hc = s.hc := rfl
@[simp] theorem bumpWrap_tb (s : State) (k : RegKey) (n : Nat) : (bumpWrap k n s).tb = s.tb := rfl
@[simp] theorem bumpWrap_tbPhase (s : State) (k : RegKey) (n : Nat) : (bumpWrap k n s).tbPhase = s.tbPhase := rfl
@[simp] theorem bumpWrap_fmhz (s : State) (k : RegKey) (n : Nat) : (bumpWrap k n s).fmhz = s.fmhz := rfl
@[simp] theorem bumpWrap_free (s : State) (k : RegKey) (n : Nat) : (bumpWrap k n s).free = s.free := rfl
@[simp] theorem bumpWrap_selHost (s : State) (k : RegKey) (n : Nat) : (bumpWrap k n s).selHost = s.selHost := rfl
@[simp] theorem bumpWrap_selMgmt (s : State) (k : RegKey) (n : Nat) : (bumpWrap k n s).selMgmt = s.selMgmt := rfl
@[simp] theorem bumpWrap_glb (s : State) (k : RegKey) (n : Nat) : (bumpWrap k n s).glb = s.glb := rfl
@[simp] theorem bumpWrap_en (s : State) (k : RegKey) (n : Nat) : (bumpWrap k n s).en = s.en := rfl
@[simp] theorem bumpWrap_ctxs (s : State) (k : RegKey) (n : Nat) : (bumpWrap k n s).ctxs = s.ctxs := rfl
@[simp] theorem bumpWrap_templates (s : State) (k : RegKey) (n : Nat) : (bumpWrap k n s).templates = s.templates := rfl
@[simp] theorem bumpWrap_launches (s : State) (k : RegKey) (n : Nat) : (bumpWrap k n s).launches = s.launches := rfl
@[simp] theorem bumpWrap_heldLaunches (s : State) (k : RegKey) (n : Nat) : (bumpWrap k n s).heldLaunches = s.heldLaunches := rfl
@[simp] theorem bumpWrap_hub (s : State) (k : RegKey) (n : Nat) : (bumpWrap k n s).hub = s.hub := rfl
@[simp] theorem bumpWrap_disp (s : State) (k : RegKey) (n : Nat) : (bumpWrap k n s).disp = s.disp := rfl
@[simp] theorem bumpWrap_fold (s : State) (k : RegKey) (n : Nat) : (bumpWrap k n s).fold = s.fold := rfl
@[simp] theorem bumpWrap_rings (s : State) (k : RegKey) (n : Nat) : (bumpWrap k n s).rings = s.rings := rfl
@[simp] theorem bumpWrap_cbs (s : State) (k : RegKey) (n : Nat) : (bumpWrap k n s).cbs = s.cbs := rfl
@[simp] theorem bumpWrap_dmas (s : State) (k : RegKey) (n : Nat) : (bumpWrap k n s).dmas = s.dmas := rfl
@[simp] theorem bumpWrap_dlm (s : State) (k : RegKey) (n : Nat) : (bumpWrap k n s).dlm = s.dlm := rfl
@[simp] theorem bumpWrap_ckpts (s : State) (k : RegKey) (n : Nat) : (bumpWrap k n s).ckpts = s.ckpts := rfl
@[simp] theorem bumpWrap_sync (s : State) (k : RegKey) (n : Nat) : (bumpWrap k n s).sync = s.sync := rfl
@[simp] theorem bumpWrap_queues (s : State) (k : RegKey) (n : Nat) : (bumpWrap k n s).queues = s.queues := rfl
@[simp] theorem bumpWrap_msgs (s : State) (k : RegKey) (n : Nat) : (bumpWrap k n s).msgs = s.msgs := rfl
@[simp] theorem bumpWrap_fab (s : State) (k : RegKey) (n : Nat) : (bumpWrap k n s).fab = s.fab := rfl
@[simp] theorem bumpWrap_obs (s : State) (k : RegKey) (n : Nat) : (bumpWrap k n s).obs = s.obs := rfl
@[simp] theorem bumpWrap_mem (s : State) (k : RegKey) (n : Nat) : (bumpWrap k n s).mem = s.mem := rfl
@[simp] theorem bumpWrap_poison (s : State) (k : RegKey) (n : Nat) : (bumpWrap k n s).poison = s.poison := rfl
@[simp] theorem bumpWrap_refuse (s : State) (k : RegKey) (n : Nat) : (bumpWrap k n s).refuse = s.refuse := rfl
@[simp] theorem bumpWrap_nextId (s : State) (k : RegKey) (n : Nat) : (bumpWrap k n s).nextId = s.nextId := rfl
@[simp] theorem bumpWrap_lanes (s : State) (k : RegKey) (n : Nat) : (bumpWrap k n s).lanes = s.lanes := rfl
@[simp] theorem bumpWrap_reqs (s : State) (k : RegKey) (n : Nat) : (bumpWrap k n s).reqs = s.reqs := rfl
@[simp] theorem bumpWrap_out (s : State) (k : RegKey) (n : Nat) : (bumpWrap k n s).out = s.out := rfl

/-! ## setBits -/

@[simp] theorem setBits_pending (s : State) (k : RegKey) (m : Nat) : (setBits k m s).pending = s.pending := rfl
@[simp] theorem setBits_variant (s : State) (k : RegKey) (m : Nat) : (setBits k m s).variant = s.variant := rfl
@[simp] theorem setBits_hc (s : State) (k : RegKey) (m : Nat) : (setBits k m s).hc = s.hc := rfl
@[simp] theorem setBits_tb (s : State) (k : RegKey) (m : Nat) : (setBits k m s).tb = s.tb := rfl
@[simp] theorem setBits_tbPhase (s : State) (k : RegKey) (m : Nat) : (setBits k m s).tbPhase = s.tbPhase := rfl
@[simp] theorem setBits_fmhz (s : State) (k : RegKey) (m : Nat) : (setBits k m s).fmhz = s.fmhz := rfl
@[simp] theorem setBits_free (s : State) (k : RegKey) (m : Nat) : (setBits k m s).free = s.free := rfl
@[simp] theorem setBits_selHost (s : State) (k : RegKey) (m : Nat) : (setBits k m s).selHost = s.selHost := rfl
@[simp] theorem setBits_selMgmt (s : State) (k : RegKey) (m : Nat) : (setBits k m s).selMgmt = s.selMgmt := rfl
@[simp] theorem setBits_glb (s : State) (k : RegKey) (m : Nat) : (setBits k m s).glb = s.glb := rfl
@[simp] theorem setBits_en (s : State) (k : RegKey) (m : Nat) : (setBits k m s).en = s.en := rfl
@[simp] theorem setBits_ctxs (s : State) (k : RegKey) (m : Nat) : (setBits k m s).ctxs = s.ctxs := rfl
@[simp] theorem setBits_templates (s : State) (k : RegKey) (m : Nat) : (setBits k m s).templates = s.templates := rfl
@[simp] theorem setBits_launches (s : State) (k : RegKey) (m : Nat) : (setBits k m s).launches = s.launches := rfl
@[simp] theorem setBits_heldLaunches (s : State) (k : RegKey) (m : Nat) : (setBits k m s).heldLaunches = s.heldLaunches := rfl
@[simp] theorem setBits_hub (s : State) (k : RegKey) (m : Nat) : (setBits k m s).hub = s.hub := rfl
@[simp] theorem setBits_disp (s : State) (k : RegKey) (m : Nat) : (setBits k m s).disp = s.disp := rfl
@[simp] theorem setBits_fold (s : State) (k : RegKey) (m : Nat) : (setBits k m s).fold = s.fold := rfl
@[simp] theorem setBits_rings (s : State) (k : RegKey) (m : Nat) : (setBits k m s).rings = s.rings := rfl
@[simp] theorem setBits_cbs (s : State) (k : RegKey) (m : Nat) : (setBits k m s).cbs = s.cbs := rfl
@[simp] theorem setBits_dmas (s : State) (k : RegKey) (m : Nat) : (setBits k m s).dmas = s.dmas := rfl
@[simp] theorem setBits_dlm (s : State) (k : RegKey) (m : Nat) : (setBits k m s).dlm = s.dlm := rfl
@[simp] theorem setBits_ckpts (s : State) (k : RegKey) (m : Nat) : (setBits k m s).ckpts = s.ckpts := rfl
@[simp] theorem setBits_sync (s : State) (k : RegKey) (m : Nat) : (setBits k m s).sync = s.sync := rfl
@[simp] theorem setBits_queues (s : State) (k : RegKey) (m : Nat) : (setBits k m s).queues = s.queues := rfl
@[simp] theorem setBits_msgs (s : State) (k : RegKey) (m : Nat) : (setBits k m s).msgs = s.msgs := rfl
@[simp] theorem setBits_fab (s : State) (k : RegKey) (m : Nat) : (setBits k m s).fab = s.fab := rfl
@[simp] theorem setBits_obs (s : State) (k : RegKey) (m : Nat) : (setBits k m s).obs = s.obs := rfl
@[simp] theorem setBits_mem (s : State) (k : RegKey) (m : Nat) : (setBits k m s).mem = s.mem := rfl
@[simp] theorem setBits_poison (s : State) (k : RegKey) (m : Nat) : (setBits k m s).poison = s.poison := rfl
@[simp] theorem setBits_refuse (s : State) (k : RegKey) (m : Nat) : (setBits k m s).refuse = s.refuse := rfl
@[simp] theorem setBits_nextId (s : State) (k : RegKey) (m : Nat) : (setBits k m s).nextId = s.nextId := rfl
@[simp] theorem setBits_lanes (s : State) (k : RegKey) (m : Nat) : (setBits k m s).lanes = s.lanes := rfl
@[simp] theorem setBits_reqs (s : State) (k : RegKey) (m : Nat) : (setBits k m s).reqs = s.reqs := rfl
@[simp] theorem setBits_out (s : State) (k : RegKey) (m : Nat) : (setBits k m s).out = s.out := rfl

/-! ## noteUpdOf -/

@[simp] theorem noteUpdOf_pending (s : State) (k : RegKey) (was : W32) (f : W32 → W32) : (noteUpdOf k was f s).pending = s.pending := rfl
@[simp] theorem noteUpdOf_variant (s : State) (k : RegKey) (was : W32) (f : W32 → W32) : (noteUpdOf k was f s).variant = s.variant := rfl
@[simp] theorem noteUpdOf_hc (s : State) (k : RegKey) (was : W32) (f : W32 → W32) : (noteUpdOf k was f s).hc = s.hc := rfl
@[simp] theorem noteUpdOf_tb (s : State) (k : RegKey) (was : W32) (f : W32 → W32) : (noteUpdOf k was f s).tb = s.tb := rfl
@[simp] theorem noteUpdOf_tbPhase (s : State) (k : RegKey) (was : W32) (f : W32 → W32) : (noteUpdOf k was f s).tbPhase = s.tbPhase := rfl
@[simp] theorem noteUpdOf_fmhz (s : State) (k : RegKey) (was : W32) (f : W32 → W32) : (noteUpdOf k was f s).fmhz = s.fmhz := rfl
@[simp] theorem noteUpdOf_free (s : State) (k : RegKey) (was : W32) (f : W32 → W32) : (noteUpdOf k was f s).free = s.free := rfl
@[simp] theorem noteUpdOf_regs (s : State) (k : RegKey) (was : W32) (f : W32 → W32) : (noteUpdOf k was f s).regs = s.regs := rfl
@[simp] theorem noteUpdOf_selHost (s : State) (k : RegKey) (was : W32) (f : W32 → W32) : (noteUpdOf k was f s).selHost = s.selHost := rfl
@[simp] theorem noteUpdOf_selMgmt (s : State) (k : RegKey) (was : W32) (f : W32 → W32) : (noteUpdOf k was f s).selMgmt = s.selMgmt := rfl
@[simp] theorem noteUpdOf_glb (s : State) (k : RegKey) (was : W32) (f : W32 → W32) : (noteUpdOf k was f s).glb = s.glb := rfl
@[simp] theorem noteUpdOf_en (s : State) (k : RegKey) (was : W32) (f : W32 → W32) : (noteUpdOf k was f s).en = s.en := rfl
@[simp] theorem noteUpdOf_ctxs (s : State) (k : RegKey) (was : W32) (f : W32 → W32) : (noteUpdOf k was f s).ctxs = s.ctxs := rfl
@[simp] theorem noteUpdOf_templates (s : State) (k : RegKey) (was : W32) (f : W32 → W32) : (noteUpdOf k was f s).templates = s.templates := rfl
@[simp] theorem noteUpdOf_launches (s : State) (k : RegKey) (was : W32) (f : W32 → W32) : (noteUpdOf k was f s).launches = s.launches := rfl
@[simp] theorem noteUpdOf_heldLaunches (s : State) (k : RegKey) (was : W32) (f : W32 → W32) : (noteUpdOf k was f s).heldLaunches = s.heldLaunches := rfl
@[simp] theorem noteUpdOf_hub (s : State) (k : RegKey) (was : W32) (f : W32 → W32) : (noteUpdOf k was f s).hub = s.hub := rfl
@[simp] theorem noteUpdOf_disp (s : State) (k : RegKey) (was : W32) (f : W32 → W32) : (noteUpdOf k was f s).disp = s.disp := rfl
@[simp] theorem noteUpdOf_fold (s : State) (k : RegKey) (was : W32) (f : W32 → W32) : (noteUpdOf k was f s).fold = s.fold := rfl
@[simp] theorem noteUpdOf_rings (s : State) (k : RegKey) (was : W32) (f : W32 → W32) : (noteUpdOf k was f s).rings = s.rings := rfl
@[simp] theorem noteUpdOf_cbs (s : State) (k : RegKey) (was : W32) (f : W32 → W32) : (noteUpdOf k was f s).cbs = s.cbs := rfl
@[simp] theorem noteUpdOf_dmas (s : State) (k : RegKey) (was : W32) (f : W32 → W32) : (noteUpdOf k was f s).dmas = s.dmas := rfl
@[simp] theorem noteUpdOf_dlm (s : State) (k : RegKey) (was : W32) (f : W32 → W32) : (noteUpdOf k was f s).dlm = s.dlm := rfl
@[simp] theorem noteUpdOf_ckpts (s : State) (k : RegKey) (was : W32) (f : W32 → W32) : (noteUpdOf k was f s).ckpts = s.ckpts := rfl
@[simp] theorem noteUpdOf_sync (s : State) (k : RegKey) (was : W32) (f : W32 → W32) : (noteUpdOf k was f s).sync = s.sync := rfl
@[simp] theorem noteUpdOf_queues (s : State) (k : RegKey) (was : W32) (f : W32 → W32) : (noteUpdOf k was f s).queues = s.queues := rfl
@[simp] theorem noteUpdOf_msgs (s : State) (k : RegKey) (was : W32) (f : W32 → W32) : (noteUpdOf k was f s).msgs = s.msgs := rfl
@[simp] theorem noteUpdOf_fab (s : State) (k : RegKey) (was : W32) (f : W32 → W32) : (noteUpdOf k was f s).fab = s.fab := rfl
@[simp] theorem noteUpdOf_obs (s : State) (k : RegKey) (was : W32) (f : W32 → W32) : (noteUpdOf k was f s).obs = s.obs := rfl
@[simp] theorem noteUpdOf_mem (s : State) (k : RegKey) (was : W32) (f : W32 → W32) : (noteUpdOf k was f s).mem = s.mem := rfl
@[simp] theorem noteUpdOf_poison (s : State) (k : RegKey) (was : W32) (f : W32 → W32) : (noteUpdOf k was f s).poison = s.poison := rfl
@[simp] theorem noteUpdOf_refuse (s : State) (k : RegKey) (was : W32) (f : W32 → W32) : (noteUpdOf k was f s).refuse = s.refuse := rfl
@[simp] theorem noteUpdOf_nextId (s : State) (k : RegKey) (was : W32) (f : W32 → W32) : (noteUpdOf k was f s).nextId = s.nextId := rfl
@[simp] theorem noteUpdOf_lanes (s : State) (k : RegKey) (was : W32) (f : W32 → W32) : (noteUpdOf k was f s).lanes = s.lanes := rfl
@[simp] theorem noteUpdOf_reqs (s : State) (k : RegKey) (was : W32) (f : W32 → W32) : (noteUpdOf k was f s).reqs = s.reqs := rfl
@[simp] theorem noteUpdOf_out (s : State) (k : RegKey) (was : W32) (f : W32 → W32) : (noteUpdOf k was f s).out = s.out := rfl

/-! ## noteUpd -/

@[simp] theorem noteUpd_pending (s : State) (k : RegKey) (f : W32 → W32) : (noteUpd k f s).pending = s.pending := rfl
@[simp] theorem noteUpd_variant (s : State) (k : RegKey) (f : W32 → W32) : (noteUpd k f s).variant = s.variant := rfl
@[simp] theorem noteUpd_hc (s : State) (k : RegKey) (f : W32 → W32) : (noteUpd k f s).hc = s.hc := rfl
@[simp] theorem noteUpd_tb (s : State) (k : RegKey) (f : W32 → W32) : (noteUpd k f s).tb = s.tb := rfl
@[simp] theorem noteUpd_tbPhase (s : State) (k : RegKey) (f : W32 → W32) : (noteUpd k f s).tbPhase = s.tbPhase := rfl
@[simp] theorem noteUpd_fmhz (s : State) (k : RegKey) (f : W32 → W32) : (noteUpd k f s).fmhz = s.fmhz := rfl
@[simp] theorem noteUpd_free (s : State) (k : RegKey) (f : W32 → W32) : (noteUpd k f s).free = s.free := rfl
@[simp] theorem noteUpd_regs (s : State) (k : RegKey) (f : W32 → W32) : (noteUpd k f s).regs = s.regs := rfl
@[simp] theorem noteUpd_selHost (s : State) (k : RegKey) (f : W32 → W32) : (noteUpd k f s).selHost = s.selHost := rfl
@[simp] theorem noteUpd_selMgmt (s : State) (k : RegKey) (f : W32 → W32) : (noteUpd k f s).selMgmt = s.selMgmt := rfl
@[simp] theorem noteUpd_glb (s : State) (k : RegKey) (f : W32 → W32) : (noteUpd k f s).glb = s.glb := rfl
@[simp] theorem noteUpd_en (s : State) (k : RegKey) (f : W32 → W32) : (noteUpd k f s).en = s.en := rfl
@[simp] theorem noteUpd_ctxs (s : State) (k : RegKey) (f : W32 → W32) : (noteUpd k f s).ctxs = s.ctxs := rfl
@[simp] theorem noteUpd_templates (s : State) (k : RegKey) (f : W32 → W32) : (noteUpd k f s).templates = s.templates := rfl
@[simp] theorem noteUpd_launches (s : State) (k : RegKey) (f : W32 → W32) : (noteUpd k f s).launches = s.launches := rfl
@[simp] theorem noteUpd_heldLaunches (s : State) (k : RegKey) (f : W32 → W32) : (noteUpd k f s).heldLaunches = s.heldLaunches := rfl
@[simp] theorem noteUpd_hub (s : State) (k : RegKey) (f : W32 → W32) : (noteUpd k f s).hub = s.hub := rfl
@[simp] theorem noteUpd_disp (s : State) (k : RegKey) (f : W32 → W32) : (noteUpd k f s).disp = s.disp := rfl
@[simp] theorem noteUpd_fold (s : State) (k : RegKey) (f : W32 → W32) : (noteUpd k f s).fold = s.fold := rfl
@[simp] theorem noteUpd_rings (s : State) (k : RegKey) (f : W32 → W32) : (noteUpd k f s).rings = s.rings := rfl
@[simp] theorem noteUpd_cbs (s : State) (k : RegKey) (f : W32 → W32) : (noteUpd k f s).cbs = s.cbs := rfl
@[simp] theorem noteUpd_dmas (s : State) (k : RegKey) (f : W32 → W32) : (noteUpd k f s).dmas = s.dmas := rfl
@[simp] theorem noteUpd_dlm (s : State) (k : RegKey) (f : W32 → W32) : (noteUpd k f s).dlm = s.dlm := rfl
@[simp] theorem noteUpd_ckpts (s : State) (k : RegKey) (f : W32 → W32) : (noteUpd k f s).ckpts = s.ckpts := rfl
@[simp] theorem noteUpd_sync (s : State) (k : RegKey) (f : W32 → W32) : (noteUpd k f s).sync = s.sync := rfl
@[simp] theorem noteUpd_queues (s : State) (k : RegKey) (f : W32 → W32) : (noteUpd k f s).queues = s.queues := rfl
@[simp] theorem noteUpd_msgs (s : State) (k : RegKey) (f : W32 → W32) : (noteUpd k f s).msgs = s.msgs := rfl
@[simp] theorem noteUpd_fab (s : State) (k : RegKey) (f : W32 → W32) : (noteUpd k f s).fab = s.fab := rfl
@[simp] theorem noteUpd_obs (s : State) (k : RegKey) (f : W32 → W32) : (noteUpd k f s).obs = s.obs := rfl
@[simp] theorem noteUpd_mem (s : State) (k : RegKey) (f : W32 → W32) : (noteUpd k f s).mem = s.mem := rfl
@[simp] theorem noteUpd_poison (s : State) (k : RegKey) (f : W32 → W32) : (noteUpd k f s).poison = s.poison := rfl
@[simp] theorem noteUpd_refuse (s : State) (k : RegKey) (f : W32 → W32) : (noteUpd k f s).refuse = s.refuse := rfl
@[simp] theorem noteUpd_nextId (s : State) (k : RegKey) (f : W32 → W32) : (noteUpd k f s).nextId = s.nextId := rfl
@[simp] theorem noteUpd_lanes (s : State) (k : RegKey) (f : W32 → W32) : (noteUpd k f s).lanes = s.lanes := rfl
@[simp] theorem noteUpd_reqs (s : State) (k : RegKey) (f : W32 → W32) : (noteUpd k f s).reqs = s.reqs := rfl
@[simp] theorem noteUpd_out (s : State) (k : RegKey) (f : W32 → W32) : (noteUpd k f s).out = s.out := rfl

/-! ## noteSet -/

@[simp] theorem noteSet_pending (s : State) (k : RegKey) (m : Nat) : (noteSet k m s).pending = s.pending := rfl
@[simp] theorem noteSet_variant (s : State) (k : RegKey) (m : Nat) : (noteSet k m s).variant = s.variant := rfl
@[simp] theorem noteSet_hc (s : State) (k : RegKey) (m : Nat) : (noteSet k m s).hc = s.hc := rfl
@[simp] theorem noteSet_tb (s : State) (k : RegKey) (m : Nat) : (noteSet k m s).tb = s.tb := rfl
@[simp] theorem noteSet_tbPhase (s : State) (k : RegKey) (m : Nat) : (noteSet k m s).tbPhase = s.tbPhase := rfl
@[simp] theorem noteSet_fmhz (s : State) (k : RegKey) (m : Nat) : (noteSet k m s).fmhz = s.fmhz := rfl
@[simp] theorem noteSet_free (s : State) (k : RegKey) (m : Nat) : (noteSet k m s).free = s.free := rfl
@[simp] theorem noteSet_regs (s : State) (k : RegKey) (m : Nat) : (noteSet k m s).regs = s.regs := rfl
@[simp] theorem noteSet_selHost (s : State) (k : RegKey) (m : Nat) : (noteSet k m s).selHost = s.selHost := rfl
@[simp] theorem noteSet_selMgmt (s : State) (k : RegKey) (m : Nat) : (noteSet k m s).selMgmt = s.selMgmt := rfl
@[simp] theorem noteSet_glb (s : State) (k : RegKey) (m : Nat) : (noteSet k m s).glb = s.glb := rfl
@[simp] theorem noteSet_en (s : State) (k : RegKey) (m : Nat) : (noteSet k m s).en = s.en := rfl
@[simp] theorem noteSet_ctxs (s : State) (k : RegKey) (m : Nat) : (noteSet k m s).ctxs = s.ctxs := rfl
@[simp] theorem noteSet_templates (s : State) (k : RegKey) (m : Nat) : (noteSet k m s).templates = s.templates := rfl
@[simp] theorem noteSet_launches (s : State) (k : RegKey) (m : Nat) : (noteSet k m s).launches = s.launches := rfl
@[simp] theorem noteSet_heldLaunches (s : State) (k : RegKey) (m : Nat) : (noteSet k m s).heldLaunches = s.heldLaunches := rfl
@[simp] theorem noteSet_hub (s : State) (k : RegKey) (m : Nat) : (noteSet k m s).hub = s.hub := rfl
@[simp] theorem noteSet_disp (s : State) (k : RegKey) (m : Nat) : (noteSet k m s).disp = s.disp := rfl
@[simp] theorem noteSet_fold (s : State) (k : RegKey) (m : Nat) : (noteSet k m s).fold = s.fold := rfl
@[simp] theorem noteSet_rings (s : State) (k : RegKey) (m : Nat) : (noteSet k m s).rings = s.rings := rfl
@[simp] theorem noteSet_cbs (s : State) (k : RegKey) (m : Nat) : (noteSet k m s).cbs = s.cbs := rfl
@[simp] theorem noteSet_dmas (s : State) (k : RegKey) (m : Nat) : (noteSet k m s).dmas = s.dmas := rfl
@[simp] theorem noteSet_dlm (s : State) (k : RegKey) (m : Nat) : (noteSet k m s).dlm = s.dlm := rfl
@[simp] theorem noteSet_ckpts (s : State) (k : RegKey) (m : Nat) : (noteSet k m s).ckpts = s.ckpts := rfl
@[simp] theorem noteSet_sync (s : State) (k : RegKey) (m : Nat) : (noteSet k m s).sync = s.sync := rfl
@[simp] theorem noteSet_queues (s : State) (k : RegKey) (m : Nat) : (noteSet k m s).queues = s.queues := rfl
@[simp] theorem noteSet_msgs (s : State) (k : RegKey) (m : Nat) : (noteSet k m s).msgs = s.msgs := rfl
@[simp] theorem noteSet_fab (s : State) (k : RegKey) (m : Nat) : (noteSet k m s).fab = s.fab := rfl
@[simp] theorem noteSet_obs (s : State) (k : RegKey) (m : Nat) : (noteSet k m s).obs = s.obs := rfl
@[simp] theorem noteSet_mem (s : State) (k : RegKey) (m : Nat) : (noteSet k m s).mem = s.mem := rfl
@[simp] theorem noteSet_poison (s : State) (k : RegKey) (m : Nat) : (noteSet k m s).poison = s.poison := rfl
@[simp] theorem noteSet_refuse (s : State) (k : RegKey) (m : Nat) : (noteSet k m s).refuse = s.refuse := rfl
@[simp] theorem noteSet_nextId (s : State) (k : RegKey) (m : Nat) : (noteSet k m s).nextId = s.nextId := rfl
@[simp] theorem noteSet_lanes (s : State) (k : RegKey) (m : Nat) : (noteSet k m s).lanes = s.lanes := rfl
@[simp] theorem noteSet_reqs (s : State) (k : RegKey) (m : Nat) : (noteSet k m s).reqs = s.reqs := rfl
@[simp] theorem noteSet_out (s : State) (k : RegKey) (m : Nat) : (noteSet k m s).out = s.out := rfl

/-! ## noteAcc -/

@[simp] theorem noteAcc_pending (s : State) (a : Access) : (noteAcc a s).pending = s.pending := rfl
@[simp] theorem noteAcc_variant (s : State) (a : Access) : (noteAcc a s).variant = s.variant := rfl
@[simp] theorem noteAcc_hc (s : State) (a : Access) : (noteAcc a s).hc = s.hc := rfl
@[simp] theorem noteAcc_tb (s : State) (a : Access) : (noteAcc a s).tb = s.tb := rfl
@[simp] theorem noteAcc_tbPhase (s : State) (a : Access) : (noteAcc a s).tbPhase = s.tbPhase := rfl
@[simp] theorem noteAcc_fmhz (s : State) (a : Access) : (noteAcc a s).fmhz = s.fmhz := rfl
@[simp] theorem noteAcc_free (s : State) (a : Access) : (noteAcc a s).free = s.free := rfl
@[simp] theorem noteAcc_regs (s : State) (a : Access) : (noteAcc a s).regs = s.regs := rfl
@[simp] theorem noteAcc_selHost (s : State) (a : Access) : (noteAcc a s).selHost = s.selHost := rfl
@[simp] theorem noteAcc_selMgmt (s : State) (a : Access) : (noteAcc a s).selMgmt = s.selMgmt := rfl
@[simp] theorem noteAcc_glb (s : State) (a : Access) : (noteAcc a s).glb = s.glb := rfl
@[simp] theorem noteAcc_en (s : State) (a : Access) : (noteAcc a s).en = s.en := rfl
@[simp] theorem noteAcc_ctxs (s : State) (a : Access) : (noteAcc a s).ctxs = s.ctxs := rfl
@[simp] theorem noteAcc_templates (s : State) (a : Access) : (noteAcc a s).templates = s.templates := rfl
@[simp] theorem noteAcc_launches (s : State) (a : Access) : (noteAcc a s).launches = s.launches := rfl
@[simp] theorem noteAcc_heldLaunches (s : State) (a : Access) : (noteAcc a s).heldLaunches = s.heldLaunches := rfl
@[simp] theorem noteAcc_hub (s : State) (a : Access) : (noteAcc a s).hub = s.hub := rfl
@[simp] theorem noteAcc_disp (s : State) (a : Access) : (noteAcc a s).disp = s.disp := rfl
@[simp] theorem noteAcc_fold (s : State) (a : Access) : (noteAcc a s).fold = s.fold := rfl
@[simp] theorem noteAcc_rings (s : State) (a : Access) : (noteAcc a s).rings = s.rings := rfl
@[simp] theorem noteAcc_cbs (s : State) (a : Access) : (noteAcc a s).cbs = s.cbs := rfl
@[simp] theorem noteAcc_dmas (s : State) (a : Access) : (noteAcc a s).dmas = s.dmas := rfl
@[simp] theorem noteAcc_dlm (s : State) (a : Access) : (noteAcc a s).dlm = s.dlm := rfl
@[simp] theorem noteAcc_ckpts (s : State) (a : Access) : (noteAcc a s).ckpts = s.ckpts := rfl
@[simp] theorem noteAcc_sync (s : State) (a : Access) : (noteAcc a s).sync = s.sync := rfl
@[simp] theorem noteAcc_queues (s : State) (a : Access) : (noteAcc a s).queues = s.queues := rfl
@[simp] theorem noteAcc_msgs (s : State) (a : Access) : (noteAcc a s).msgs = s.msgs := rfl
@[simp] theorem noteAcc_fab (s : State) (a : Access) : (noteAcc a s).fab = s.fab := rfl
@[simp] theorem noteAcc_obs (s : State) (a : Access) : (noteAcc a s).obs = s.obs := rfl
@[simp] theorem noteAcc_mem (s : State) (a : Access) : (noteAcc a s).mem = s.mem := rfl
@[simp] theorem noteAcc_poison (s : State) (a : Access) : (noteAcc a s).poison = s.poison := rfl
@[simp] theorem noteAcc_refuse (s : State) (a : Access) : (noteAcc a s).refuse = s.refuse := rfl
@[simp] theorem noteAcc_nextId (s : State) (a : Access) : (noteAcc a s).nextId = s.nextId := rfl
@[simp] theorem noteAcc_lanes (s : State) (a : Access) : (noteAcc a s).lanes = s.lanes := rfl
@[simp] theorem noteAcc_reqs (s : State) (a : Access) : (noteAcc a s).reqs = s.reqs := rfl
@[simp] theorem noteAcc_out (s : State) (a : Access) : (noteAcc a s).out = s.out := rfl

/-! ## noteGrant -/

@[simp] theorem noteGrant_pending (s : State) (sh n gen : Nat) : (noteGrant sh n gen s).pending = s.pending := rfl
@[simp] theorem noteGrant_variant (s : State) (sh n gen : Nat) : (noteGrant sh n gen s).variant = s.variant := rfl
@[simp] theorem noteGrant_hc (s : State) (sh n gen : Nat) : (noteGrant sh n gen s).hc = s.hc := rfl
@[simp] theorem noteGrant_tb (s : State) (sh n gen : Nat) : (noteGrant sh n gen s).tb = s.tb := rfl
@[simp] theorem noteGrant_tbPhase (s : State) (sh n gen : Nat) : (noteGrant sh n gen s).tbPhase = s.tbPhase := rfl
@[simp] theorem noteGrant_fmhz (s : State) (sh n gen : Nat) : (noteGrant sh n gen s).fmhz = s.fmhz := rfl
@[simp] theorem noteGrant_free (s : State) (sh n gen : Nat) : (noteGrant sh n gen s).free = s.free := rfl
@[simp] theorem noteGrant_regs (s : State) (sh n gen : Nat) : (noteGrant sh n gen s).regs = s.regs := rfl
@[simp] theorem noteGrant_selHost (s : State) (sh n gen : Nat) : (noteGrant sh n gen s).selHost = s.selHost := rfl
@[simp] theorem noteGrant_selMgmt (s : State) (sh n gen : Nat) : (noteGrant sh n gen s).selMgmt = s.selMgmt := rfl
@[simp] theorem noteGrant_glb (s : State) (sh n gen : Nat) : (noteGrant sh n gen s).glb = s.glb := rfl
@[simp] theorem noteGrant_en (s : State) (sh n gen : Nat) : (noteGrant sh n gen s).en = s.en := rfl
@[simp] theorem noteGrant_ctxs (s : State) (sh n gen : Nat) : (noteGrant sh n gen s).ctxs = s.ctxs := rfl
@[simp] theorem noteGrant_templates (s : State) (sh n gen : Nat) : (noteGrant sh n gen s).templates = s.templates := rfl
@[simp] theorem noteGrant_launches (s : State) (sh n gen : Nat) : (noteGrant sh n gen s).launches = s.launches := rfl
@[simp] theorem noteGrant_heldLaunches (s : State) (sh n gen : Nat) : (noteGrant sh n gen s).heldLaunches = s.heldLaunches := rfl
@[simp] theorem noteGrant_hub (s : State) (sh n gen : Nat) : (noteGrant sh n gen s).hub = s.hub := rfl
@[simp] theorem noteGrant_disp (s : State) (sh n gen : Nat) : (noteGrant sh n gen s).disp = s.disp := rfl
@[simp] theorem noteGrant_fold (s : State) (sh n gen : Nat) : (noteGrant sh n gen s).fold = s.fold := rfl
@[simp] theorem noteGrant_rings (s : State) (sh n gen : Nat) : (noteGrant sh n gen s).rings = s.rings := rfl
@[simp] theorem noteGrant_cbs (s : State) (sh n gen : Nat) : (noteGrant sh n gen s).cbs = s.cbs := rfl
@[simp] theorem noteGrant_dmas (s : State) (sh n gen : Nat) : (noteGrant sh n gen s).dmas = s.dmas := rfl
@[simp] theorem noteGrant_dlm (s : State) (sh n gen : Nat) : (noteGrant sh n gen s).dlm = s.dlm := rfl
@[simp] theorem noteGrant_ckpts (s : State) (sh n gen : Nat) : (noteGrant sh n gen s).ckpts = s.ckpts := rfl
@[simp] theorem noteGrant_sync (s : State) (sh n gen : Nat) : (noteGrant sh n gen s).sync = s.sync := rfl
@[simp] theorem noteGrant_queues (s : State) (sh n gen : Nat) : (noteGrant sh n gen s).queues = s.queues := rfl
@[simp] theorem noteGrant_msgs (s : State) (sh n gen : Nat) : (noteGrant sh n gen s).msgs = s.msgs := rfl
@[simp] theorem noteGrant_fab (s : State) (sh n gen : Nat) : (noteGrant sh n gen s).fab = s.fab := rfl
@[simp] theorem noteGrant_obs (s : State) (sh n gen : Nat) : (noteGrant sh n gen s).obs = s.obs := rfl
@[simp] theorem noteGrant_mem (s : State) (sh n gen : Nat) : (noteGrant sh n gen s).mem = s.mem := rfl
@[simp] theorem noteGrant_poison (s : State) (sh n gen : Nat) : (noteGrant sh n gen s).poison = s.poison := rfl
@[simp] theorem noteGrant_refuse (s : State) (sh n gen : Nat) : (noteGrant sh n gen s).refuse = s.refuse := rfl
@[simp] theorem noteGrant_nextId (s : State) (sh n gen : Nat) : (noteGrant sh n gen s).nextId = s.nextId := rfl
@[simp] theorem noteGrant_lanes (s : State) (sh n gen : Nat) : (noteGrant sh n gen s).lanes = s.lanes := rfl
@[simp] theorem noteGrant_reqs (s : State) (sh n gen : Nat) : (noteGrant sh n gen s).reqs = s.reqs := rfl
@[simp] theorem noteGrant_out (s : State) (sh n gen : Nat) : (noteGrant sh n gen s).out = s.out := rfl

/-! ## State.setUnit -/

@[simp] theorem State.setUnit_pending (s : State) (u : UnitId) (e : UnitEn) : (s.setUnit u e).pending = s.pending := rfl
@[simp] theorem State.setUnit_variant (s : State) (u : UnitId) (e : UnitEn) : (s.setUnit u e).variant = s.variant := rfl
@[simp] theorem State.setUnit_hc (s : State) (u : UnitId) (e : UnitEn) : (s.setUnit u e).hc = s.hc := rfl
@[simp] theorem State.setUnit_tb (s : State) (u : UnitId) (e : UnitEn) : (s.setUnit u e).tb = s.tb := rfl
@[simp] theorem State.setUnit_tbPhase (s : State) (u : UnitId) (e : UnitEn) : (s.setUnit u e).tbPhase = s.tbPhase := rfl
@[simp] theorem State.setUnit_fmhz (s : State) (u : UnitId) (e : UnitEn) : (s.setUnit u e).fmhz = s.fmhz := rfl
@[simp] theorem State.setUnit_free (s : State) (u : UnitId) (e : UnitEn) : (s.setUnit u e).free = s.free := rfl
@[simp] theorem State.setUnit_regs (s : State) (u : UnitId) (e : UnitEn) : (s.setUnit u e).regs = s.regs := rfl
@[simp] theorem State.setUnit_selHost (s : State) (u : UnitId) (e : UnitEn) : (s.setUnit u e).selHost = s.selHost := rfl
@[simp] theorem State.setUnit_selMgmt (s : State) (u : UnitId) (e : UnitEn) : (s.setUnit u e).selMgmt = s.selMgmt := rfl
@[simp] theorem State.setUnit_glb (s : State) (u : UnitId) (e : UnitEn) : (s.setUnit u e).glb = s.glb := rfl
@[simp] theorem State.setUnit_ctxs (s : State) (u : UnitId) (e : UnitEn) : (s.setUnit u e).ctxs = s.ctxs := rfl
@[simp] theorem State.setUnit_templates (s : State) (u : UnitId) (e : UnitEn) : (s.setUnit u e).templates = s.templates := rfl
@[simp] theorem State.setUnit_launches (s : State) (u : UnitId) (e : UnitEn) : (s.setUnit u e).launches = s.launches := rfl
@[simp] theorem State.setUnit_heldLaunches (s : State) (u : UnitId) (e : UnitEn) : (s.setUnit u e).heldLaunches = s.heldLaunches := rfl
@[simp] theorem State.setUnit_hub (s : State) (u : UnitId) (e : UnitEn) : (s.setUnit u e).hub = s.hub := rfl
@[simp] theorem State.setUnit_disp (s : State) (u : UnitId) (e : UnitEn) : (s.setUnit u e).disp = s.disp := rfl
@[simp] theorem State.setUnit_fold (s : State) (u : UnitId) (e : UnitEn) : (s.setUnit u e).fold = s.fold := rfl
@[simp] theorem State.setUnit_rings (s : State) (u : UnitId) (e : UnitEn) : (s.setUnit u e).rings = s.rings := rfl
@[simp] theorem State.setUnit_cbs (s : State) (u : UnitId) (e : UnitEn) : (s.setUnit u e).cbs = s.cbs := rfl
@[simp] theorem State.setUnit_dmas (s : State) (u : UnitId) (e : UnitEn) : (s.setUnit u e).dmas = s.dmas := rfl
@[simp] theorem State.setUnit_dlm (s : State) (u : UnitId) (e : UnitEn) : (s.setUnit u e).dlm = s.dlm := rfl
@[simp] theorem State.setUnit_ckpts (s : State) (u : UnitId) (e : UnitEn) : (s.setUnit u e).ckpts = s.ckpts := rfl
@[simp] theorem State.setUnit_sync (s : State) (u : UnitId) (e : UnitEn) : (s.setUnit u e).sync = s.sync := rfl
@[simp] theorem State.setUnit_queues (s : State) (u : UnitId) (e : UnitEn) : (s.setUnit u e).queues = s.queues := rfl
@[simp] theorem State.setUnit_msgs (s : State) (u : UnitId) (e : UnitEn) : (s.setUnit u e).msgs = s.msgs := rfl
@[simp] theorem State.setUnit_fab (s : State) (u : UnitId) (e : UnitEn) : (s.setUnit u e).fab = s.fab := rfl
@[simp] theorem State.setUnit_obs (s : State) (u : UnitId) (e : UnitEn) : (s.setUnit u e).obs = s.obs := rfl
@[simp] theorem State.setUnit_mem (s : State) (u : UnitId) (e : UnitEn) : (s.setUnit u e).mem = s.mem := rfl
@[simp] theorem State.setUnit_poison (s : State) (u : UnitId) (e : UnitEn) : (s.setUnit u e).poison = s.poison := rfl
@[simp] theorem State.setUnit_refuse (s : State) (u : UnitId) (e : UnitEn) : (s.setUnit u e).refuse = s.refuse := rfl
@[simp] theorem State.setUnit_nextId (s : State) (u : UnitId) (e : UnitEn) : (s.setUnit u e).nextId = s.nextId := rfl
@[simp] theorem State.setUnit_lanes (s : State) (u : UnitId) (e : UnitEn) : (s.setUnit u e).lanes = s.lanes := rfl
@[simp] theorem State.setUnit_cyc (s : State) (u : UnitId) (e : UnitEn) : (s.setUnit u e).cyc = s.cyc := rfl
@[simp] theorem State.setUnit_reqs (s : State) (u : UnitId) (e : UnitEn) : (s.setUnit u e).reqs = s.reqs := rfl
@[simp] theorem State.setUnit_out (s : State) (u : UnitId) (e : UnitEn) : (s.setUnit u e).out = s.out := rfl

/-! ## State.setCtx -/

@[simp] theorem State.setCtx_pending (s : State) (n : Nat) (c : Ctx) : (s.setCtx n c).pending = s.pending := rfl
@[simp] theorem State.setCtx_variant (s : State) (n : Nat) (c : Ctx) : (s.setCtx n c).variant = s.variant := rfl
@[simp] theorem State.setCtx_hc (s : State) (n : Nat) (c : Ctx) : (s.setCtx n c).hc = s.hc := rfl
@[simp] theorem State.setCtx_tb (s : State) (n : Nat) (c : Ctx) : (s.setCtx n c).tb = s.tb := rfl
@[simp] theorem State.setCtx_tbPhase (s : State) (n : Nat) (c : Ctx) : (s.setCtx n c).tbPhase = s.tbPhase := rfl
@[simp] theorem State.setCtx_fmhz (s : State) (n : Nat) (c : Ctx) : (s.setCtx n c).fmhz = s.fmhz := rfl
@[simp] theorem State.setCtx_free (s : State) (n : Nat) (c : Ctx) : (s.setCtx n c).free = s.free := rfl
@[simp] theorem State.setCtx_regs (s : State) (n : Nat) (c : Ctx) : (s.setCtx n c).regs = s.regs := rfl
@[simp] theorem State.setCtx_selHost (s : State) (n : Nat) (c : Ctx) : (s.setCtx n c).selHost = s.selHost := rfl
@[simp] theorem State.setCtx_selMgmt (s : State) (n : Nat) (c : Ctx) : (s.setCtx n c).selMgmt = s.selMgmt := rfl
@[simp] theorem State.setCtx_glb (s : State) (n : Nat) (c : Ctx) : (s.setCtx n c).glb = s.glb := rfl
@[simp] theorem State.setCtx_en (s : State) (n : Nat) (c : Ctx) : (s.setCtx n c).en = s.en := rfl
@[simp] theorem State.setCtx_templates (s : State) (n : Nat) (c : Ctx) : (s.setCtx n c).templates = s.templates := rfl
@[simp] theorem State.setCtx_launches (s : State) (n : Nat) (c : Ctx) : (s.setCtx n c).launches = s.launches := rfl
@[simp] theorem State.setCtx_heldLaunches (s : State) (n : Nat) (c : Ctx) : (s.setCtx n c).heldLaunches = s.heldLaunches := rfl
@[simp] theorem State.setCtx_hub (s : State) (n : Nat) (c : Ctx) : (s.setCtx n c).hub = s.hub := rfl
@[simp] theorem State.setCtx_disp (s : State) (n : Nat) (c : Ctx) : (s.setCtx n c).disp = s.disp := rfl
@[simp] theorem State.setCtx_fold (s : State) (n : Nat) (c : Ctx) : (s.setCtx n c).fold = s.fold := rfl
@[simp] theorem State.setCtx_rings (s : State) (n : Nat) (c : Ctx) : (s.setCtx n c).rings = s.rings := rfl
@[simp] theorem State.setCtx_cbs (s : State) (n : Nat) (c : Ctx) : (s.setCtx n c).cbs = s.cbs := rfl
@[simp] theorem State.setCtx_dmas (s : State) (n : Nat) (c : Ctx) : (s.setCtx n c).dmas = s.dmas := rfl
@[simp] theorem State.setCtx_dlm (s : State) (n : Nat) (c : Ctx) : (s.setCtx n c).dlm = s.dlm := rfl
@[simp] theorem State.setCtx_ckpts (s : State) (n : Nat) (c : Ctx) : (s.setCtx n c).ckpts = s.ckpts := rfl
@[simp] theorem State.setCtx_sync (s : State) (n : Nat) (c : Ctx) : (s.setCtx n c).sync = s.sync := rfl
@[simp] theorem State.setCtx_queues (s : State) (n : Nat) (c : Ctx) : (s.setCtx n c).queues = s.queues := rfl
@[simp] theorem State.setCtx_msgs (s : State) (n : Nat) (c : Ctx) : (s.setCtx n c).msgs = s.msgs := rfl
@[simp] theorem State.setCtx_fab (s : State) (n : Nat) (c : Ctx) : (s.setCtx n c).fab = s.fab := rfl
@[simp] theorem State.setCtx_obs (s : State) (n : Nat) (c : Ctx) : (s.setCtx n c).obs = s.obs := rfl
@[simp] theorem State.setCtx_mem (s : State) (n : Nat) (c : Ctx) : (s.setCtx n c).mem = s.mem := rfl
@[simp] theorem State.setCtx_poison (s : State) (n : Nat) (c : Ctx) : (s.setCtx n c).poison = s.poison := rfl
@[simp] theorem State.setCtx_refuse (s : State) (n : Nat) (c : Ctx) : (s.setCtx n c).refuse = s.refuse := rfl
@[simp] theorem State.setCtx_nextId (s : State) (n : Nat) (c : Ctx) : (s.setCtx n c).nextId = s.nextId := rfl
@[simp] theorem State.setCtx_lanes (s : State) (n : Nat) (c : Ctx) : (s.setCtx n c).lanes = s.lanes := rfl
@[simp] theorem State.setCtx_cyc (s : State) (n : Nat) (c : Ctx) : (s.setCtx n c).cyc = s.cyc := rfl
@[simp] theorem State.setCtx_reqs (s : State) (n : Nat) (c : Ctx) : (s.setCtx n c).reqs = s.reqs := rfl
@[simp] theorem State.setCtx_out (s : State) (n : Nat) (c : Ctx) : (s.setCtx n c).out = s.out := rfl

/-! ## State.setTemplate -/

@[simp] theorem State.setTemplate_pending (s : State) (ctx tid : Nat) (t : Template) : (s.setTemplate ctx tid t).pending = s.pending := rfl
@[simp] theorem State.setTemplate_variant (s : State) (ctx tid : Nat) (t : Template) : (s.setTemplate ctx tid t).variant = s.variant := rfl
@[simp] theorem State.setTemplate_hc (s : State) (ctx tid : Nat) (t : Template) : (s.setTemplate ctx tid t).hc = s.hc := rfl
@[simp] theorem State.setTemplate_tb (s : State) (ctx tid : Nat) (t : Template) : (s.setTemplate ctx tid t).tb = s.tb := rfl
@[simp] theorem State.setTemplate_tbPhase (s : State) (ctx tid : Nat) (t : Template) : (s.setTemplate ctx tid t).tbPhase = s.tbPhase := rfl
@[simp] theorem State.setTemplate_fmhz (s : State) (ctx tid : Nat) (t : Template) : (s.setTemplate ctx tid t).fmhz = s.fmhz := rfl
@[simp] theorem State.setTemplate_free (s : State) (ctx tid : Nat) (t : Template) : (s.setTemplate ctx tid t).free = s.free := rfl
@[simp] theorem State.setTemplate_regs (s : State) (ctx tid : Nat) (t : Template) : (s.setTemplate ctx tid t).regs = s.regs := rfl
@[simp] theorem State.setTemplate_selHost (s : State) (ctx tid : Nat) (t : Template) : (s.setTemplate ctx tid t).selHost = s.selHost := rfl
@[simp] theorem State.setTemplate_selMgmt (s : State) (ctx tid : Nat) (t : Template) : (s.setTemplate ctx tid t).selMgmt = s.selMgmt := rfl
@[simp] theorem State.setTemplate_glb (s : State) (ctx tid : Nat) (t : Template) : (s.setTemplate ctx tid t).glb = s.glb := rfl
@[simp] theorem State.setTemplate_en (s : State) (ctx tid : Nat) (t : Template) : (s.setTemplate ctx tid t).en = s.en := rfl
@[simp] theorem State.setTemplate_ctxs (s : State) (ctx tid : Nat) (t : Template) : (s.setTemplate ctx tid t).ctxs = s.ctxs := rfl
@[simp] theorem State.setTemplate_launches (s : State) (ctx tid : Nat) (t : Template) : (s.setTemplate ctx tid t).launches = s.launches := rfl
@[simp] theorem State.setTemplate_heldLaunches (s : State) (ctx tid : Nat) (t : Template) : (s.setTemplate ctx tid t).heldLaunches = s.heldLaunches := rfl
@[simp] theorem State.setTemplate_hub (s : State) (ctx tid : Nat) (t : Template) : (s.setTemplate ctx tid t).hub = s.hub := rfl
@[simp] theorem State.setTemplate_disp (s : State) (ctx tid : Nat) (t : Template) : (s.setTemplate ctx tid t).disp = s.disp := rfl
@[simp] theorem State.setTemplate_fold (s : State) (ctx tid : Nat) (t : Template) : (s.setTemplate ctx tid t).fold = s.fold := rfl
@[simp] theorem State.setTemplate_rings (s : State) (ctx tid : Nat) (t : Template) : (s.setTemplate ctx tid t).rings = s.rings := rfl
@[simp] theorem State.setTemplate_cbs (s : State) (ctx tid : Nat) (t : Template) : (s.setTemplate ctx tid t).cbs = s.cbs := rfl
@[simp] theorem State.setTemplate_dmas (s : State) (ctx tid : Nat) (t : Template) : (s.setTemplate ctx tid t).dmas = s.dmas := rfl
@[simp] theorem State.setTemplate_dlm (s : State) (ctx tid : Nat) (t : Template) : (s.setTemplate ctx tid t).dlm = s.dlm := rfl
@[simp] theorem State.setTemplate_ckpts (s : State) (ctx tid : Nat) (t : Template) : (s.setTemplate ctx tid t).ckpts = s.ckpts := rfl
@[simp] theorem State.setTemplate_sync (s : State) (ctx tid : Nat) (t : Template) : (s.setTemplate ctx tid t).sync = s.sync := rfl
@[simp] theorem State.setTemplate_queues (s : State) (ctx tid : Nat) (t : Template) : (s.setTemplate ctx tid t).queues = s.queues := rfl
@[simp] theorem State.setTemplate_msgs (s : State) (ctx tid : Nat) (t : Template) : (s.setTemplate ctx tid t).msgs = s.msgs := rfl
@[simp] theorem State.setTemplate_fab (s : State) (ctx tid : Nat) (t : Template) : (s.setTemplate ctx tid t).fab = s.fab := rfl
@[simp] theorem State.setTemplate_obs (s : State) (ctx tid : Nat) (t : Template) : (s.setTemplate ctx tid t).obs = s.obs := rfl
@[simp] theorem State.setTemplate_mem (s : State) (ctx tid : Nat) (t : Template) : (s.setTemplate ctx tid t).mem = s.mem := rfl
@[simp] theorem State.setTemplate_poison (s : State) (ctx tid : Nat) (t : Template) : (s.setTemplate ctx tid t).poison = s.poison := rfl
@[simp] theorem State.setTemplate_refuse (s : State) (ctx tid : Nat) (t : Template) : (s.setTemplate ctx tid t).refuse = s.refuse := rfl
@[simp] theorem State.setTemplate_nextId (s : State) (ctx tid : Nat) (t : Template) : (s.setTemplate ctx tid t).nextId = s.nextId := rfl
@[simp] theorem State.setTemplate_lanes (s : State) (ctx tid : Nat) (t : Template) : (s.setTemplate ctx tid t).lanes = s.lanes := rfl
@[simp] theorem State.setTemplate_cyc (s : State) (ctx tid : Nat) (t : Template) : (s.setTemplate ctx tid t).cyc = s.cyc := rfl
@[simp] theorem State.setTemplate_reqs (s : State) (ctx tid : Nat) (t : Template) : (s.setTemplate ctx tid t).reqs = s.reqs := rfl
@[simp] theorem State.setTemplate_out (s : State) (ctx tid : Nat) (t : Template) : (s.setTemplate ctx tid t).out = s.out := rfl

/-! ## State.setVslot -/

@[simp] theorem State.setVslot_pending (s : State) (ctx tid k : Nat) (v : VSlot) : (s.setVslot ctx tid k v).pending = s.pending := rfl
@[simp] theorem State.setVslot_variant (s : State) (ctx tid k : Nat) (v : VSlot) : (s.setVslot ctx tid k v).variant = s.variant := rfl
@[simp] theorem State.setVslot_hc (s : State) (ctx tid k : Nat) (v : VSlot) : (s.setVslot ctx tid k v).hc = s.hc := rfl
@[simp] theorem State.setVslot_tb (s : State) (ctx tid k : Nat) (v : VSlot) : (s.setVslot ctx tid k v).tb = s.tb := rfl
@[simp] theorem State.setVslot_tbPhase (s : State) (ctx tid k : Nat) (v : VSlot) : (s.setVslot ctx tid k v).tbPhase = s.tbPhase := rfl
@[simp] theorem State.setVslot_fmhz (s : State) (ctx tid k : Nat) (v : VSlot) : (s.setVslot ctx tid k v).fmhz = s.fmhz := rfl
@[simp] theorem State.setVslot_free (s : State) (ctx tid k : Nat) (v : VSlot) : (s.setVslot ctx tid k v).free = s.free := rfl
@[simp] theorem State.setVslot_regs (s : State) (ctx tid k : Nat) (v : VSlot) : (s.setVslot ctx tid k v).regs = s.regs := rfl
@[simp] theorem State.setVslot_selHost (s : State) (ctx tid k : Nat) (v : VSlot) : (s.setVslot ctx tid k v).selHost = s.selHost := rfl
@[simp] theorem State.setVslot_selMgmt (s : State) (ctx tid k : Nat) (v : VSlot) : (s.setVslot ctx tid k v).selMgmt = s.selMgmt := rfl
@[simp] theorem State.setVslot_glb (s : State) (ctx tid k : Nat) (v : VSlot) : (s.setVslot ctx tid k v).glb = s.glb := rfl
@[simp] theorem State.setVslot_en (s : State) (ctx tid k : Nat) (v : VSlot) : (s.setVslot ctx tid k v).en = s.en := rfl
@[simp] theorem State.setVslot_ctxs (s : State) (ctx tid k : Nat) (v : VSlot) : (s.setVslot ctx tid k v).ctxs = s.ctxs := rfl
@[simp] theorem State.setVslot_launches (s : State) (ctx tid k : Nat) (v : VSlot) : (s.setVslot ctx tid k v).launches = s.launches := rfl
@[simp] theorem State.setVslot_heldLaunches (s : State) (ctx tid k : Nat) (v : VSlot) : (s.setVslot ctx tid k v).heldLaunches = s.heldLaunches := rfl
@[simp] theorem State.setVslot_hub (s : State) (ctx tid k : Nat) (v : VSlot) : (s.setVslot ctx tid k v).hub = s.hub := rfl
@[simp] theorem State.setVslot_disp (s : State) (ctx tid k : Nat) (v : VSlot) : (s.setVslot ctx tid k v).disp = s.disp := rfl
@[simp] theorem State.setVslot_fold (s : State) (ctx tid k : Nat) (v : VSlot) : (s.setVslot ctx tid k v).fold = s.fold := rfl
@[simp] theorem State.setVslot_rings (s : State) (ctx tid k : Nat) (v : VSlot) : (s.setVslot ctx tid k v).rings = s.rings := rfl
@[simp] theorem State.setVslot_cbs (s : State) (ctx tid k : Nat) (v : VSlot) : (s.setVslot ctx tid k v).cbs = s.cbs := rfl
@[simp] theorem State.setVslot_dmas (s : State) (ctx tid k : Nat) (v : VSlot) : (s.setVslot ctx tid k v).dmas = s.dmas := rfl
@[simp] theorem State.setVslot_dlm (s : State) (ctx tid k : Nat) (v : VSlot) : (s.setVslot ctx tid k v).dlm = s.dlm := rfl
@[simp] theorem State.setVslot_ckpts (s : State) (ctx tid k : Nat) (v : VSlot) : (s.setVslot ctx tid k v).ckpts = s.ckpts := rfl
@[simp] theorem State.setVslot_sync (s : State) (ctx tid k : Nat) (v : VSlot) : (s.setVslot ctx tid k v).sync = s.sync := rfl
@[simp] theorem State.setVslot_queues (s : State) (ctx tid k : Nat) (v : VSlot) : (s.setVslot ctx tid k v).queues = s.queues := rfl
@[simp] theorem State.setVslot_msgs (s : State) (ctx tid k : Nat) (v : VSlot) : (s.setVslot ctx tid k v).msgs = s.msgs := rfl
@[simp] theorem State.setVslot_fab (s : State) (ctx tid k : Nat) (v : VSlot) : (s.setVslot ctx tid k v).fab = s.fab := rfl
@[simp] theorem State.setVslot_obs (s : State) (ctx tid k : Nat) (v : VSlot) : (s.setVslot ctx tid k v).obs = s.obs := rfl
@[simp] theorem State.setVslot_mem (s : State) (ctx tid k : Nat) (v : VSlot) : (s.setVslot ctx tid k v).mem = s.mem := rfl
@[simp] theorem State.setVslot_poison (s : State) (ctx tid k : Nat) (v : VSlot) : (s.setVslot ctx tid k v).poison = s.poison := rfl
@[simp] theorem State.setVslot_refuse (s : State) (ctx tid k : Nat) (v : VSlot) : (s.setVslot ctx tid k v).refuse = s.refuse := rfl
@[simp] theorem State.setVslot_nextId (s : State) (ctx tid k : Nat) (v : VSlot) : (s.setVslot ctx tid k v).nextId = s.nextId := rfl
@[simp] theorem State.setVslot_lanes (s : State) (ctx tid k : Nat) (v : VSlot) : (s.setVslot ctx tid k v).lanes = s.lanes := rfl
@[simp] theorem State.setVslot_cyc (s : State) (ctx tid k : Nat) (v : VSlot) : (s.setVslot ctx tid k v).cyc = s.cyc := rfl
@[simp] theorem State.setVslot_reqs (s : State) (ctx tid k : Nat) (v : VSlot) : (s.setVslot ctx tid k v).reqs = s.reqs := rfl
@[simp] theorem State.setVslot_out (s : State) (ctx tid k : Nat) (v : VSlot) : (s.setVslot ctx tid k v).out = s.out := rfl

/-! ## State.modLaunch -/

@[simp] theorem State.modLaunch_pending (s : State) (ctx serial : Nat) (f : Launch → Launch) : (s.modLaunch ctx serial f).pending = s.pending := rfl
@[simp] theorem State.modLaunch_variant (s : State) (ctx serial : Nat) (f : Launch → Launch) : (s.modLaunch ctx serial f).variant = s.variant := rfl
@[simp] theorem State.modLaunch_hc (s : State) (ctx serial : Nat) (f : Launch → Launch) : (s.modLaunch ctx serial f).hc = s.hc := rfl
@[simp] theorem State.modLaunch_tb (s : State) (ctx serial : Nat) (f : Launch → Launch) : (s.modLaunch ctx serial f).tb = s.tb := rfl
@[simp] theorem State.modLaunch_tbPhase (s : State) (ctx serial : Nat) (f : Launch → Launch) : (s.modLaunch ctx serial f).tbPhase = s.tbPhase := rfl
@[simp] theorem State.modLaunch_fmhz (s : State) (ctx serial : Nat) (f : Launch → Launch) : (s.modLaunch ctx serial f).fmhz = s.fmhz := rfl
@[simp] theorem State.modLaunch_free (s : State) (ctx serial : Nat) (f : Launch → Launch) : (s.modLaunch ctx serial f).free = s.free := rfl
@[simp] theorem State.modLaunch_regs (s : State) (ctx serial : Nat) (f : Launch → Launch) : (s.modLaunch ctx serial f).regs = s.regs := rfl
@[simp] theorem State.modLaunch_selHost (s : State) (ctx serial : Nat) (f : Launch → Launch) : (s.modLaunch ctx serial f).selHost = s.selHost := rfl
@[simp] theorem State.modLaunch_selMgmt (s : State) (ctx serial : Nat) (f : Launch → Launch) : (s.modLaunch ctx serial f).selMgmt = s.selMgmt := rfl
@[simp] theorem State.modLaunch_glb (s : State) (ctx serial : Nat) (f : Launch → Launch) : (s.modLaunch ctx serial f).glb = s.glb := rfl
@[simp] theorem State.modLaunch_en (s : State) (ctx serial : Nat) (f : Launch → Launch) : (s.modLaunch ctx serial f).en = s.en := rfl
@[simp] theorem State.modLaunch_ctxs (s : State) (ctx serial : Nat) (f : Launch → Launch) : (s.modLaunch ctx serial f).ctxs = s.ctxs := rfl
@[simp] theorem State.modLaunch_templates (s : State) (ctx serial : Nat) (f : Launch → Launch) : (s.modLaunch ctx serial f).templates = s.templates := rfl
@[simp] theorem State.modLaunch_heldLaunches (s : State) (ctx serial : Nat) (f : Launch → Launch) : (s.modLaunch ctx serial f).heldLaunches = s.heldLaunches := rfl
@[simp] theorem State.modLaunch_hub (s : State) (ctx serial : Nat) (f : Launch → Launch) : (s.modLaunch ctx serial f).hub = s.hub := rfl
@[simp] theorem State.modLaunch_disp (s : State) (ctx serial : Nat) (f : Launch → Launch) : (s.modLaunch ctx serial f).disp = s.disp := rfl
@[simp] theorem State.modLaunch_fold (s : State) (ctx serial : Nat) (f : Launch → Launch) : (s.modLaunch ctx serial f).fold = s.fold := rfl
@[simp] theorem State.modLaunch_rings (s : State) (ctx serial : Nat) (f : Launch → Launch) : (s.modLaunch ctx serial f).rings = s.rings := rfl
@[simp] theorem State.modLaunch_cbs (s : State) (ctx serial : Nat) (f : Launch → Launch) : (s.modLaunch ctx serial f).cbs = s.cbs := rfl
@[simp] theorem State.modLaunch_dmas (s : State) (ctx serial : Nat) (f : Launch → Launch) : (s.modLaunch ctx serial f).dmas = s.dmas := rfl
@[simp] theorem State.modLaunch_dlm (s : State) (ctx serial : Nat) (f : Launch → Launch) : (s.modLaunch ctx serial f).dlm = s.dlm := rfl
@[simp] theorem State.modLaunch_ckpts (s : State) (ctx serial : Nat) (f : Launch → Launch) : (s.modLaunch ctx serial f).ckpts = s.ckpts := rfl
@[simp] theorem State.modLaunch_sync (s : State) (ctx serial : Nat) (f : Launch → Launch) : (s.modLaunch ctx serial f).sync = s.sync := rfl
@[simp] theorem State.modLaunch_queues (s : State) (ctx serial : Nat) (f : Launch → Launch) : (s.modLaunch ctx serial f).queues = s.queues := rfl
@[simp] theorem State.modLaunch_msgs (s : State) (ctx serial : Nat) (f : Launch → Launch) : (s.modLaunch ctx serial f).msgs = s.msgs := rfl
@[simp] theorem State.modLaunch_fab (s : State) (ctx serial : Nat) (f : Launch → Launch) : (s.modLaunch ctx serial f).fab = s.fab := rfl
@[simp] theorem State.modLaunch_obs (s : State) (ctx serial : Nat) (f : Launch → Launch) : (s.modLaunch ctx serial f).obs = s.obs := rfl
@[simp] theorem State.modLaunch_mem (s : State) (ctx serial : Nat) (f : Launch → Launch) : (s.modLaunch ctx serial f).mem = s.mem := rfl
@[simp] theorem State.modLaunch_poison (s : State) (ctx serial : Nat) (f : Launch → Launch) : (s.modLaunch ctx serial f).poison = s.poison := rfl
@[simp] theorem State.modLaunch_refuse (s : State) (ctx serial : Nat) (f : Launch → Launch) : (s.modLaunch ctx serial f).refuse = s.refuse := rfl
@[simp] theorem State.modLaunch_nextId (s : State) (ctx serial : Nat) (f : Launch → Launch) : (s.modLaunch ctx serial f).nextId = s.nextId := rfl
@[simp] theorem State.modLaunch_lanes (s : State) (ctx serial : Nat) (f : Launch → Launch) : (s.modLaunch ctx serial f).lanes = s.lanes := rfl
@[simp] theorem State.modLaunch_cyc (s : State) (ctx serial : Nat) (f : Launch → Launch) : (s.modLaunch ctx serial f).cyc = s.cyc := rfl
@[simp] theorem State.modLaunch_reqs (s : State) (ctx serial : Nat) (f : Launch → Launch) : (s.modLaunch ctx serial f).reqs = s.reqs := rfl
@[simp] theorem State.modLaunch_out (s : State) (ctx serial : Nat) (f : Launch → Launch) : (s.modLaunch ctx serial f).out = s.out := rfl

/-! ## State.setSlot -/

@[simp] theorem State.setSlot_pending (s : State) (shard n : Nat) (v : Slot) : (s.setSlot shard n v).pending = s.pending := rfl
@[simp] theorem State.setSlot_variant (s : State) (shard n : Nat) (v : Slot) : (s.setSlot shard n v).variant = s.variant := rfl
@[simp] theorem State.setSlot_hc (s : State) (shard n : Nat) (v : Slot) : (s.setSlot shard n v).hc = s.hc := rfl
@[simp] theorem State.setSlot_tb (s : State) (shard n : Nat) (v : Slot) : (s.setSlot shard n v).tb = s.tb := rfl
@[simp] theorem State.setSlot_tbPhase (s : State) (shard n : Nat) (v : Slot) : (s.setSlot shard n v).tbPhase = s.tbPhase := rfl
@[simp] theorem State.setSlot_fmhz (s : State) (shard n : Nat) (v : Slot) : (s.setSlot shard n v).fmhz = s.fmhz := rfl
@[simp] theorem State.setSlot_free (s : State) (shard n : Nat) (v : Slot) : (s.setSlot shard n v).free = s.free := rfl
@[simp] theorem State.setSlot_regs (s : State) (shard n : Nat) (v : Slot) : (s.setSlot shard n v).regs = s.regs := rfl
@[simp] theorem State.setSlot_selHost (s : State) (shard n : Nat) (v : Slot) : (s.setSlot shard n v).selHost = s.selHost := rfl
@[simp] theorem State.setSlot_selMgmt (s : State) (shard n : Nat) (v : Slot) : (s.setSlot shard n v).selMgmt = s.selMgmt := rfl
@[simp] theorem State.setSlot_glb (s : State) (shard n : Nat) (v : Slot) : (s.setSlot shard n v).glb = s.glb := rfl
@[simp] theorem State.setSlot_en (s : State) (shard n : Nat) (v : Slot) : (s.setSlot shard n v).en = s.en := rfl
@[simp] theorem State.setSlot_ctxs (s : State) (shard n : Nat) (v : Slot) : (s.setSlot shard n v).ctxs = s.ctxs := rfl
@[simp] theorem State.setSlot_templates (s : State) (shard n : Nat) (v : Slot) : (s.setSlot shard n v).templates = s.templates := rfl
@[simp] theorem State.setSlot_launches (s : State) (shard n : Nat) (v : Slot) : (s.setSlot shard n v).launches = s.launches := rfl
@[simp] theorem State.setSlot_heldLaunches (s : State) (shard n : Nat) (v : Slot) : (s.setSlot shard n v).heldLaunches = s.heldLaunches := rfl
@[simp] theorem State.setSlot_disp (s : State) (shard n : Nat) (v : Slot) : (s.setSlot shard n v).disp = s.disp := rfl
@[simp] theorem State.setSlot_fold (s : State) (shard n : Nat) (v : Slot) : (s.setSlot shard n v).fold = s.fold := rfl
@[simp] theorem State.setSlot_rings (s : State) (shard n : Nat) (v : Slot) : (s.setSlot shard n v).rings = s.rings := rfl
@[simp] theorem State.setSlot_cbs (s : State) (shard n : Nat) (v : Slot) : (s.setSlot shard n v).cbs = s.cbs := rfl
@[simp] theorem State.setSlot_dmas (s : State) (shard n : Nat) (v : Slot) : (s.setSlot shard n v).dmas = s.dmas := rfl
@[simp] theorem State.setSlot_dlm (s : State) (shard n : Nat) (v : Slot) : (s.setSlot shard n v).dlm = s.dlm := rfl
@[simp] theorem State.setSlot_ckpts (s : State) (shard n : Nat) (v : Slot) : (s.setSlot shard n v).ckpts = s.ckpts := rfl
@[simp] theorem State.setSlot_sync (s : State) (shard n : Nat) (v : Slot) : (s.setSlot shard n v).sync = s.sync := rfl
@[simp] theorem State.setSlot_queues (s : State) (shard n : Nat) (v : Slot) : (s.setSlot shard n v).queues = s.queues := rfl
@[simp] theorem State.setSlot_msgs (s : State) (shard n : Nat) (v : Slot) : (s.setSlot shard n v).msgs = s.msgs := rfl
@[simp] theorem State.setSlot_fab (s : State) (shard n : Nat) (v : Slot) : (s.setSlot shard n v).fab = s.fab := rfl
@[simp] theorem State.setSlot_obs (s : State) (shard n : Nat) (v : Slot) : (s.setSlot shard n v).obs = s.obs := rfl
@[simp] theorem State.setSlot_mem (s : State) (shard n : Nat) (v : Slot) : (s.setSlot shard n v).mem = s.mem := rfl
@[simp] theorem State.setSlot_poison (s : State) (shard n : Nat) (v : Slot) : (s.setSlot shard n v).poison = s.poison := rfl
@[simp] theorem State.setSlot_refuse (s : State) (shard n : Nat) (v : Slot) : (s.setSlot shard n v).refuse = s.refuse := rfl
@[simp] theorem State.setSlot_nextId (s : State) (shard n : Nat) (v : Slot) : (s.setSlot shard n v).nextId = s.nextId := rfl
@[simp] theorem State.setSlot_lanes (s : State) (shard n : Nat) (v : Slot) : (s.setSlot shard n v).lanes = s.lanes := rfl
@[simp] theorem State.setSlot_cyc (s : State) (shard n : Nat) (v : Slot) : (s.setSlot shard n v).cyc = s.cyc := rfl
@[simp] theorem State.setSlot_reqs (s : State) (shard n : Nat) (v : Slot) : (s.setSlot shard n v).reqs = s.reqs := rfl
@[simp] theorem State.setSlot_out (s : State) (shard n : Nat) (v : Slot) : (s.setSlot shard n v).out = s.out := rfl

/-! ## State.setCelBucket -/

@[simp] theorem State.setCelBucket_pending (s : State) (ctx sh tree : Nat) (b : CelBucket) : (s.setCelBucket ctx sh tree b).pending = s.pending := rfl
@[simp] theorem State.setCelBucket_variant (s : State) (ctx sh tree : Nat) (b : CelBucket) : (s.setCelBucket ctx sh tree b).variant = s.variant := rfl
@[simp] theorem State.setCelBucket_hc (s : State) (ctx sh tree : Nat) (b : CelBucket) : (s.setCelBucket ctx sh tree b).hc = s.hc := rfl
@[simp] theorem State.setCelBucket_tb (s : State) (ctx sh tree : Nat) (b : CelBucket) : (s.setCelBucket ctx sh tree b).tb = s.tb := rfl
@[simp] theorem State.setCelBucket_tbPhase (s : State) (ctx sh tree : Nat) (b : CelBucket) : (s.setCelBucket ctx sh tree b).tbPhase = s.tbPhase := rfl
@[simp] theorem State.setCelBucket_fmhz (s : State) (ctx sh tree : Nat) (b : CelBucket) : (s.setCelBucket ctx sh tree b).fmhz = s.fmhz := rfl
@[simp] theorem State.setCelBucket_free (s : State) (ctx sh tree : Nat) (b : CelBucket) : (s.setCelBucket ctx sh tree b).free = s.free := rfl
@[simp] theorem State.setCelBucket_regs (s : State) (ctx sh tree : Nat) (b : CelBucket) : (s.setCelBucket ctx sh tree b).regs = s.regs := rfl
@[simp] theorem State.setCelBucket_selHost (s : State) (ctx sh tree : Nat) (b : CelBucket) : (s.setCelBucket ctx sh tree b).selHost = s.selHost := rfl
@[simp] theorem State.setCelBucket_selMgmt (s : State) (ctx sh tree : Nat) (b : CelBucket) : (s.setCelBucket ctx sh tree b).selMgmt = s.selMgmt := rfl
@[simp] theorem State.setCelBucket_glb (s : State) (ctx sh tree : Nat) (b : CelBucket) : (s.setCelBucket ctx sh tree b).glb = s.glb := rfl
@[simp] theorem State.setCelBucket_en (s : State) (ctx sh tree : Nat) (b : CelBucket) : (s.setCelBucket ctx sh tree b).en = s.en := rfl
@[simp] theorem State.setCelBucket_ctxs (s : State) (ctx sh tree : Nat) (b : CelBucket) : (s.setCelBucket ctx sh tree b).ctxs = s.ctxs := rfl
@[simp] theorem State.setCelBucket_templates (s : State) (ctx sh tree : Nat) (b : CelBucket) : (s.setCelBucket ctx sh tree b).templates = s.templates := rfl
@[simp] theorem State.setCelBucket_launches (s : State) (ctx sh tree : Nat) (b : CelBucket) : (s.setCelBucket ctx sh tree b).launches = s.launches := rfl
@[simp] theorem State.setCelBucket_heldLaunches (s : State) (ctx sh tree : Nat) (b : CelBucket) : (s.setCelBucket ctx sh tree b).heldLaunches = s.heldLaunches := rfl
@[simp] theorem State.setCelBucket_disp (s : State) (ctx sh tree : Nat) (b : CelBucket) : (s.setCelBucket ctx sh tree b).disp = s.disp := rfl
@[simp] theorem State.setCelBucket_fold (s : State) (ctx sh tree : Nat) (b : CelBucket) : (s.setCelBucket ctx sh tree b).fold = s.fold := rfl
@[simp] theorem State.setCelBucket_rings (s : State) (ctx sh tree : Nat) (b : CelBucket) : (s.setCelBucket ctx sh tree b).rings = s.rings := rfl
@[simp] theorem State.setCelBucket_cbs (s : State) (ctx sh tree : Nat) (b : CelBucket) : (s.setCelBucket ctx sh tree b).cbs = s.cbs := rfl
@[simp] theorem State.setCelBucket_dmas (s : State) (ctx sh tree : Nat) (b : CelBucket) : (s.setCelBucket ctx sh tree b).dmas = s.dmas := rfl
@[simp] theorem State.setCelBucket_dlm (s : State) (ctx sh tree : Nat) (b : CelBucket) : (s.setCelBucket ctx sh tree b).dlm = s.dlm := rfl
@[simp] theorem State.setCelBucket_ckpts (s : State) (ctx sh tree : Nat) (b : CelBucket) : (s.setCelBucket ctx sh tree b).ckpts = s.ckpts := rfl
@[simp] theorem State.setCelBucket_sync (s : State) (ctx sh tree : Nat) (b : CelBucket) : (s.setCelBucket ctx sh tree b).sync = s.sync := rfl
@[simp] theorem State.setCelBucket_queues (s : State) (ctx sh tree : Nat) (b : CelBucket) : (s.setCelBucket ctx sh tree b).queues = s.queues := rfl
@[simp] theorem State.setCelBucket_msgs (s : State) (ctx sh tree : Nat) (b : CelBucket) : (s.setCelBucket ctx sh tree b).msgs = s.msgs := rfl
@[simp] theorem State.setCelBucket_fab (s : State) (ctx sh tree : Nat) (b : CelBucket) : (s.setCelBucket ctx sh tree b).fab = s.fab := rfl
@[simp] theorem State.setCelBucket_obs (s : State) (ctx sh tree : Nat) (b : CelBucket) : (s.setCelBucket ctx sh tree b).obs = s.obs := rfl
@[simp] theorem State.setCelBucket_mem (s : State) (ctx sh tree : Nat) (b : CelBucket) : (s.setCelBucket ctx sh tree b).mem = s.mem := rfl
@[simp] theorem State.setCelBucket_poison (s : State) (ctx sh tree : Nat) (b : CelBucket) : (s.setCelBucket ctx sh tree b).poison = s.poison := rfl
@[simp] theorem State.setCelBucket_refuse (s : State) (ctx sh tree : Nat) (b : CelBucket) : (s.setCelBucket ctx sh tree b).refuse = s.refuse := rfl
@[simp] theorem State.setCelBucket_nextId (s : State) (ctx sh tree : Nat) (b : CelBucket) : (s.setCelBucket ctx sh tree b).nextId = s.nextId := rfl
@[simp] theorem State.setCelBucket_lanes (s : State) (ctx sh tree : Nat) (b : CelBucket) : (s.setCelBucket ctx sh tree b).lanes = s.lanes := rfl
@[simp] theorem State.setCelBucket_cyc (s : State) (ctx sh tree : Nat) (b : CelBucket) : (s.setCelBucket ctx sh tree b).cyc = s.cyc := rfl
@[simp] theorem State.setCelBucket_reqs (s : State) (ctx sh tree : Nat) (b : CelBucket) : (s.setCelBucket ctx sh tree b).reqs = s.reqs := rfl
@[simp] theorem State.setCelBucket_out (s : State) (ctx sh tree : Nat) (b : CelBucket) : (s.setCelBucket ctx sh tree b).out = s.out := rfl

/-! ## State.setEngine -/

@[simp] theorem State.setEngine_pending (s : State) (e : Nat) (v : Eng) : (s.setEngine e v).pending = s.pending := rfl
@[simp] theorem State.setEngine_variant (s : State) (e : Nat) (v : Eng) : (s.setEngine e v).variant = s.variant := rfl
@[simp] theorem State.setEngine_hc (s : State) (e : Nat) (v : Eng) : (s.setEngine e v).hc = s.hc := rfl
@[simp] theorem State.setEngine_tb (s : State) (e : Nat) (v : Eng) : (s.setEngine e v).tb = s.tb := rfl
@[simp] theorem State.setEngine_tbPhase (s : State) (e : Nat) (v : Eng) : (s.setEngine e v).tbPhase = s.tbPhase := rfl
@[simp] theorem State.setEngine_fmhz (s : State) (e : Nat) (v : Eng) : (s.setEngine e v).fmhz = s.fmhz := rfl
@[simp] theorem State.setEngine_free (s : State) (e : Nat) (v : Eng) : (s.setEngine e v).free = s.free := rfl
@[simp] theorem State.setEngine_regs (s : State) (e : Nat) (v : Eng) : (s.setEngine e v).regs = s.regs := rfl
@[simp] theorem State.setEngine_selHost (s : State) (e : Nat) (v : Eng) : (s.setEngine e v).selHost = s.selHost := rfl
@[simp] theorem State.setEngine_selMgmt (s : State) (e : Nat) (v : Eng) : (s.setEngine e v).selMgmt = s.selMgmt := rfl
@[simp] theorem State.setEngine_glb (s : State) (e : Nat) (v : Eng) : (s.setEngine e v).glb = s.glb := rfl
@[simp] theorem State.setEngine_en (s : State) (e : Nat) (v : Eng) : (s.setEngine e v).en = s.en := rfl
@[simp] theorem State.setEngine_ctxs (s : State) (e : Nat) (v : Eng) : (s.setEngine e v).ctxs = s.ctxs := rfl
@[simp] theorem State.setEngine_templates (s : State) (e : Nat) (v : Eng) : (s.setEngine e v).templates = s.templates := rfl
@[simp] theorem State.setEngine_launches (s : State) (e : Nat) (v : Eng) : (s.setEngine e v).launches = s.launches := rfl
@[simp] theorem State.setEngine_heldLaunches (s : State) (e : Nat) (v : Eng) : (s.setEngine e v).heldLaunches = s.heldLaunches := rfl
@[simp] theorem State.setEngine_hub (s : State) (e : Nat) (v : Eng) : (s.setEngine e v).hub = s.hub := rfl
@[simp] theorem State.setEngine_fold (s : State) (e : Nat) (v : Eng) : (s.setEngine e v).fold = s.fold := rfl
@[simp] theorem State.setEngine_rings (s : State) (e : Nat) (v : Eng) : (s.setEngine e v).rings = s.rings := rfl
@[simp] theorem State.setEngine_cbs (s : State) (e : Nat) (v : Eng) : (s.setEngine e v).cbs = s.cbs := rfl
@[simp] theorem State.setEngine_dmas (s : State) (e : Nat) (v : Eng) : (s.setEngine e v).dmas = s.dmas := rfl
@[simp] theorem State.setEngine_dlm (s : State) (e : Nat) (v : Eng) : (s.setEngine e v).dlm = s.dlm := rfl
@[simp] theorem State.setEngine_ckpts (s : State) (e : Nat) (v : Eng) : (s.setEngine e v).ckpts = s.ckpts := rfl
@[simp] theorem State.setEngine_sync (s : State) (e : Nat) (v : Eng) : (s.setEngine e v).sync = s.sync := rfl
@[simp] theorem State.setEngine_queues (s : State) (e : Nat) (v : Eng) : (s.setEngine e v).queues = s.queues := rfl
@[simp] theorem State.setEngine_msgs (s : State) (e : Nat) (v : Eng) : (s.setEngine e v).msgs = s.msgs := rfl
@[simp] theorem State.setEngine_fab (s : State) (e : Nat) (v : Eng) : (s.setEngine e v).fab = s.fab := rfl
@[simp] theorem State.setEngine_obs (s : State) (e : Nat) (v : Eng) : (s.setEngine e v).obs = s.obs := rfl
@[simp] theorem State.setEngine_mem (s : State) (e : Nat) (v : Eng) : (s.setEngine e v).mem = s.mem := rfl
@[simp] theorem State.setEngine_poison (s : State) (e : Nat) (v : Eng) : (s.setEngine e v).poison = s.poison := rfl
@[simp] theorem State.setEngine_refuse (s : State) (e : Nat) (v : Eng) : (s.setEngine e v).refuse = s.refuse := rfl
@[simp] theorem State.setEngine_nextId (s : State) (e : Nat) (v : Eng) : (s.setEngine e v).nextId = s.nextId := rfl
@[simp] theorem State.setEngine_lanes (s : State) (e : Nat) (v : Eng) : (s.setEngine e v).lanes = s.lanes := rfl
@[simp] theorem State.setEngine_cyc (s : State) (e : Nat) (v : Eng) : (s.setEngine e v).cyc = s.cyc := rfl
@[simp] theorem State.setEngine_reqs (s : State) (e : Nat) (v : Eng) : (s.setEngine e v).reqs = s.reqs := rfl
@[simp] theorem State.setEngine_out (s : State) (e : Nat) (v : Eng) : (s.setEngine e v).out = s.out := rfl

/-! ## State.setFoldUnit -/

@[simp] theorem State.setFoldUnit_pending (s : State) (u : Nat) (v : FoldUnit) : (s.setFoldUnit u v).pending = s.pending := rfl
@[simp] theorem State.setFoldUnit_variant (s : State) (u : Nat) (v : FoldUnit) : (s.setFoldUnit u v).variant = s.variant := rfl
@[simp] theorem State.setFoldUnit_hc (s : State) (u : Nat) (v : FoldUnit) : (s.setFoldUnit u v).hc = s.hc := rfl
@[simp] theorem State.setFoldUnit_tb (s : State) (u : Nat) (v : FoldUnit) : (s.setFoldUnit u v).tb = s.tb := rfl
@[simp] theorem State.setFoldUnit_tbPhase (s : State) (u : Nat) (v : FoldUnit) : (s.setFoldUnit u v).tbPhase = s.tbPhase := rfl
@[simp] theorem State.setFoldUnit_fmhz (s : State) (u : Nat) (v : FoldUnit) : (s.setFoldUnit u v).fmhz = s.fmhz := rfl
@[simp] theorem State.setFoldUnit_free (s : State) (u : Nat) (v : FoldUnit) : (s.setFoldUnit u v).free = s.free := rfl
@[simp] theorem State.setFoldUnit_regs (s : State) (u : Nat) (v : FoldUnit) : (s.setFoldUnit u v).regs = s.regs := rfl
@[simp] theorem State.setFoldUnit_selHost (s : State) (u : Nat) (v : FoldUnit) : (s.setFoldUnit u v).selHost = s.selHost := rfl
@[simp] theorem State.setFoldUnit_selMgmt (s : State) (u : Nat) (v : FoldUnit) : (s.setFoldUnit u v).selMgmt = s.selMgmt := rfl
@[simp] theorem State.setFoldUnit_glb (s : State) (u : Nat) (v : FoldUnit) : (s.setFoldUnit u v).glb = s.glb := rfl
@[simp] theorem State.setFoldUnit_en (s : State) (u : Nat) (v : FoldUnit) : (s.setFoldUnit u v).en = s.en := rfl
@[simp] theorem State.setFoldUnit_ctxs (s : State) (u : Nat) (v : FoldUnit) : (s.setFoldUnit u v).ctxs = s.ctxs := rfl
@[simp] theorem State.setFoldUnit_templates (s : State) (u : Nat) (v : FoldUnit) : (s.setFoldUnit u v).templates = s.templates := rfl
@[simp] theorem State.setFoldUnit_launches (s : State) (u : Nat) (v : FoldUnit) : (s.setFoldUnit u v).launches = s.launches := rfl
@[simp] theorem State.setFoldUnit_heldLaunches (s : State) (u : Nat) (v : FoldUnit) : (s.setFoldUnit u v).heldLaunches = s.heldLaunches := rfl
@[simp] theorem State.setFoldUnit_hub (s : State) (u : Nat) (v : FoldUnit) : (s.setFoldUnit u v).hub = s.hub := rfl
@[simp] theorem State.setFoldUnit_disp (s : State) (u : Nat) (v : FoldUnit) : (s.setFoldUnit u v).disp = s.disp := rfl
@[simp] theorem State.setFoldUnit_rings (s : State) (u : Nat) (v : FoldUnit) : (s.setFoldUnit u v).rings = s.rings := rfl
@[simp] theorem State.setFoldUnit_cbs (s : State) (u : Nat) (v : FoldUnit) : (s.setFoldUnit u v).cbs = s.cbs := rfl
@[simp] theorem State.setFoldUnit_dmas (s : State) (u : Nat) (v : FoldUnit) : (s.setFoldUnit u v).dmas = s.dmas := rfl
@[simp] theorem State.setFoldUnit_dlm (s : State) (u : Nat) (v : FoldUnit) : (s.setFoldUnit u v).dlm = s.dlm := rfl
@[simp] theorem State.setFoldUnit_ckpts (s : State) (u : Nat) (v : FoldUnit) : (s.setFoldUnit u v).ckpts = s.ckpts := rfl
@[simp] theorem State.setFoldUnit_sync (s : State) (u : Nat) (v : FoldUnit) : (s.setFoldUnit u v).sync = s.sync := rfl
@[simp] theorem State.setFoldUnit_queues (s : State) (u : Nat) (v : FoldUnit) : (s.setFoldUnit u v).queues = s.queues := rfl
@[simp] theorem State.setFoldUnit_msgs (s : State) (u : Nat) (v : FoldUnit) : (s.setFoldUnit u v).msgs = s.msgs := rfl
@[simp] theorem State.setFoldUnit_fab (s : State) (u : Nat) (v : FoldUnit) : (s.setFoldUnit u v).fab = s.fab := rfl
@[simp] theorem State.setFoldUnit_obs (s : State) (u : Nat) (v : FoldUnit) : (s.setFoldUnit u v).obs = s.obs := rfl
@[simp] theorem State.setFoldUnit_mem (s : State) (u : Nat) (v : FoldUnit) : (s.setFoldUnit u v).mem = s.mem := rfl
@[simp] theorem State.setFoldUnit_poison (s : State) (u : Nat) (v : FoldUnit) : (s.setFoldUnit u v).poison = s.poison := rfl
@[simp] theorem State.setFoldUnit_refuse (s : State) (u : Nat) (v : FoldUnit) : (s.setFoldUnit u v).refuse = s.refuse := rfl
@[simp] theorem State.setFoldUnit_nextId (s : State) (u : Nat) (v : FoldUnit) : (s.setFoldUnit u v).nextId = s.nextId := rfl
@[simp] theorem State.setFoldUnit_lanes (s : State) (u : Nat) (v : FoldUnit) : (s.setFoldUnit u v).lanes = s.lanes := rfl
@[simp] theorem State.setFoldUnit_cyc (s : State) (u : Nat) (v : FoldUnit) : (s.setFoldUnit u v).cyc = s.cyc := rfl
@[simp] theorem State.setFoldUnit_reqs (s : State) (u : Nat) (v : FoldUnit) : (s.setFoldUnit u v).reqs = s.reqs := rfl
@[simp] theorem State.setFoldUnit_out (s : State) (u : Nat) (v : FoldUnit) : (s.setFoldUnit u v).out = s.out := rfl

/-! ## State.setRing -/

@[simp] theorem State.setRing_pending (s : State) (r : Nat) (v : Ring) : (s.setRing r v).pending = s.pending := rfl
@[simp] theorem State.setRing_variant (s : State) (r : Nat) (v : Ring) : (s.setRing r v).variant = s.variant := rfl
@[simp] theorem State.setRing_hc (s : State) (r : Nat) (v : Ring) : (s.setRing r v).hc = s.hc := rfl
@[simp] theorem State.setRing_tb (s : State) (r : Nat) (v : Ring) : (s.setRing r v).tb = s.tb := rfl
@[simp] theorem State.setRing_tbPhase (s : State) (r : Nat) (v : Ring) : (s.setRing r v).tbPhase = s.tbPhase := rfl
@[simp] theorem State.setRing_fmhz (s : State) (r : Nat) (v : Ring) : (s.setRing r v).fmhz = s.fmhz := rfl
@[simp] theorem State.setRing_free (s : State) (r : Nat) (v : Ring) : (s.setRing r v).free = s.free := rfl
@[simp] theorem State.setRing_regs (s : State) (r : Nat) (v : Ring) : (s.setRing r v).regs = s.regs := rfl
@[simp] theorem State.setRing_selHost (s : State) (r : Nat) (v : Ring) : (s.setRing r v).selHost = s.selHost := rfl
@[simp] theorem State.setRing_selMgmt (s : State) (r : Nat) (v : Ring) : (s.setRing r v).selMgmt = s.selMgmt := rfl
@[simp] theorem State.setRing_glb (s : State) (r : Nat) (v : Ring) : (s.setRing r v).glb = s.glb := rfl
@[simp] theorem State.setRing_en (s : State) (r : Nat) (v : Ring) : (s.setRing r v).en = s.en := rfl
@[simp] theorem State.setRing_ctxs (s : State) (r : Nat) (v : Ring) : (s.setRing r v).ctxs = s.ctxs := rfl
@[simp] theorem State.setRing_templates (s : State) (r : Nat) (v : Ring) : (s.setRing r v).templates = s.templates := rfl
@[simp] theorem State.setRing_launches (s : State) (r : Nat) (v : Ring) : (s.setRing r v).launches = s.launches := rfl
@[simp] theorem State.setRing_heldLaunches (s : State) (r : Nat) (v : Ring) : (s.setRing r v).heldLaunches = s.heldLaunches := rfl
@[simp] theorem State.setRing_hub (s : State) (r : Nat) (v : Ring) : (s.setRing r v).hub = s.hub := rfl
@[simp] theorem State.setRing_disp (s : State) (r : Nat) (v : Ring) : (s.setRing r v).disp = s.disp := rfl
@[simp] theorem State.setRing_fold (s : State) (r : Nat) (v : Ring) : (s.setRing r v).fold = s.fold := rfl
@[simp] theorem State.setRing_cbs (s : State) (r : Nat) (v : Ring) : (s.setRing r v).cbs = s.cbs := rfl
@[simp] theorem State.setRing_dmas (s : State) (r : Nat) (v : Ring) : (s.setRing r v).dmas = s.dmas := rfl
@[simp] theorem State.setRing_dlm (s : State) (r : Nat) (v : Ring) : (s.setRing r v).dlm = s.dlm := rfl
@[simp] theorem State.setRing_ckpts (s : State) (r : Nat) (v : Ring) : (s.setRing r v).ckpts = s.ckpts := rfl
@[simp] theorem State.setRing_sync (s : State) (r : Nat) (v : Ring) : (s.setRing r v).sync = s.sync := rfl
@[simp] theorem State.setRing_queues (s : State) (r : Nat) (v : Ring) : (s.setRing r v).queues = s.queues := rfl
@[simp] theorem State.setRing_msgs (s : State) (r : Nat) (v : Ring) : (s.setRing r v).msgs = s.msgs := rfl
@[simp] theorem State.setRing_fab (s : State) (r : Nat) (v : Ring) : (s.setRing r v).fab = s.fab := rfl
@[simp] theorem State.setRing_obs (s : State) (r : Nat) (v : Ring) : (s.setRing r v).obs = s.obs := rfl
@[simp] theorem State.setRing_mem (s : State) (r : Nat) (v : Ring) : (s.setRing r v).mem = s.mem := rfl
@[simp] theorem State.setRing_poison (s : State) (r : Nat) (v : Ring) : (s.setRing r v).poison = s.poison := rfl
@[simp] theorem State.setRing_refuse (s : State) (r : Nat) (v : Ring) : (s.setRing r v).refuse = s.refuse := rfl
@[simp] theorem State.setRing_nextId (s : State) (r : Nat) (v : Ring) : (s.setRing r v).nextId = s.nextId := rfl
@[simp] theorem State.setRing_lanes (s : State) (r : Nat) (v : Ring) : (s.setRing r v).lanes = s.lanes := rfl
@[simp] theorem State.setRing_cyc (s : State) (r : Nat) (v : Ring) : (s.setRing r v).cyc = s.cyc := rfl
@[simp] theorem State.setRing_reqs (s : State) (r : Nat) (v : Ring) : (s.setRing r v).reqs = s.reqs := rfl
@[simp] theorem State.setRing_out (s : State) (r : Nat) (v : Ring) : (s.setRing r v).out = s.out := rfl

/-! ## State.modCb -/

@[simp] theorem State.modCb_pending (s : State) (ring idx : Nat) (f : Cb → Cb) : (s.modCb ring idx f).pending = s.pending := rfl
@[simp] theorem State.modCb_variant (s : State) (ring idx : Nat) (f : Cb → Cb) : (s.modCb ring idx f).variant = s.variant := rfl
@[simp] theorem State.modCb_hc (s : State) (ring idx : Nat) (f : Cb → Cb) : (s.modCb ring idx f).hc = s.hc := rfl
@[simp] theorem State.modCb_tb (s : State) (ring idx : Nat) (f : Cb → Cb) : (s.modCb ring idx f).tb = s.tb := rfl
@[simp] theorem State.modCb_tbPhase (s : State) (ring idx : Nat) (f : Cb → Cb) : (s.modCb ring idx f).tbPhase = s.tbPhase := rfl
@[simp] theorem State.modCb_fmhz (s : State) (ring idx : Nat) (f : Cb → Cb) : (s.modCb ring idx f).fmhz = s.fmhz := rfl
@[simp] theorem State.modCb_free (s : State) (ring idx : Nat) (f : Cb → Cb) : (s.modCb ring idx f).free = s.free := rfl
@[simp] theorem State.modCb_regs (s : State) (ring idx : Nat) (f : Cb → Cb) : (s.modCb ring idx f).regs = s.regs := rfl
@[simp] theorem State.modCb_selHost (s : State) (ring idx : Nat) (f : Cb → Cb) : (s.modCb ring idx f).selHost = s.selHost := rfl
@[simp] theorem State.modCb_selMgmt (s : State) (ring idx : Nat) (f : Cb → Cb) : (s.modCb ring idx f).selMgmt = s.selMgmt := rfl
@[simp] theorem State.modCb_glb (s : State) (ring idx : Nat) (f : Cb → Cb) : (s.modCb ring idx f).glb = s.glb := rfl
@[simp] theorem State.modCb_en (s : State) (ring idx : Nat) (f : Cb → Cb) : (s.modCb ring idx f).en = s.en := rfl
@[simp] theorem State.modCb_ctxs (s : State) (ring idx : Nat) (f : Cb → Cb) : (s.modCb ring idx f).ctxs = s.ctxs := rfl
@[simp] theorem State.modCb_templates (s : State) (ring idx : Nat) (f : Cb → Cb) : (s.modCb ring idx f).templates = s.templates := rfl
@[simp] theorem State.modCb_launches (s : State) (ring idx : Nat) (f : Cb → Cb) : (s.modCb ring idx f).launches = s.launches := rfl
@[simp] theorem State.modCb_heldLaunches (s : State) (ring idx : Nat) (f : Cb → Cb) : (s.modCb ring idx f).heldLaunches = s.heldLaunches := rfl
@[simp] theorem State.modCb_hub (s : State) (ring idx : Nat) (f : Cb → Cb) : (s.modCb ring idx f).hub = s.hub := rfl
@[simp] theorem State.modCb_disp (s : State) (ring idx : Nat) (f : Cb → Cb) : (s.modCb ring idx f).disp = s.disp := rfl
@[simp] theorem State.modCb_fold (s : State) (ring idx : Nat) (f : Cb → Cb) : (s.modCb ring idx f).fold = s.fold := rfl
@[simp] theorem State.modCb_rings (s : State) (ring idx : Nat) (f : Cb → Cb) : (s.modCb ring idx f).rings = s.rings := rfl
@[simp] theorem State.modCb_dmas (s : State) (ring idx : Nat) (f : Cb → Cb) : (s.modCb ring idx f).dmas = s.dmas := rfl
@[simp] theorem State.modCb_dlm (s : State) (ring idx : Nat) (f : Cb → Cb) : (s.modCb ring idx f).dlm = s.dlm := rfl
@[simp] theorem State.modCb_ckpts (s : State) (ring idx : Nat) (f : Cb → Cb) : (s.modCb ring idx f).ckpts = s.ckpts := rfl
@[simp] theorem State.modCb_sync (s : State) (ring idx : Nat) (f : Cb → Cb) : (s.modCb ring idx f).sync = s.sync := rfl
@[simp] theorem State.modCb_queues (s : State) (ring idx : Nat) (f : Cb → Cb) : (s.modCb ring idx f).queues = s.queues := rfl
@[simp] theorem State.modCb_msgs (s : State) (ring idx : Nat) (f : Cb → Cb) : (s.modCb ring idx f).msgs = s.msgs := rfl
@[simp] theorem State.modCb_fab (s : State) (ring idx : Nat) (f : Cb → Cb) : (s.modCb ring idx f).fab = s.fab := rfl
@[simp] theorem State.modCb_obs (s : State) (ring idx : Nat) (f : Cb → Cb) : (s.modCb ring idx f).obs = s.obs := rfl
@[simp] theorem State.modCb_mem (s : State) (ring idx : Nat) (f : Cb → Cb) : (s.modCb ring idx f).mem = s.mem := rfl
@[simp] theorem State.modCb_poison (s : State) (ring idx : Nat) (f : Cb → Cb) : (s.modCb ring idx f).poison = s.poison := rfl
@[simp] theorem State.modCb_refuse (s : State) (ring idx : Nat) (f : Cb → Cb) : (s.modCb ring idx f).refuse = s.refuse := rfl
@[simp] theorem State.modCb_nextId (s : State) (ring idx : Nat) (f : Cb → Cb) : (s.modCb ring idx f).nextId = s.nextId := rfl
@[simp] theorem State.modCb_lanes (s : State) (ring idx : Nat) (f : Cb → Cb) : (s.modCb ring idx f).lanes = s.lanes := rfl
@[simp] theorem State.modCb_cyc (s : State) (ring idx : Nat) (f : Cb → Cb) : (s.modCb ring idx f).cyc = s.cyc := rfl
@[simp] theorem State.modCb_reqs (s : State) (ring idx : Nat) (f : Cb → Cb) : (s.modCb ring idx f).reqs = s.reqs := rfl
@[simp] theorem State.modCb_out (s : State) (ring idx : Nat) (f : Cb → Cb) : (s.modCb ring idx f).out = s.out := rfl

/-! ## State.setQueue -/

@[simp] theorem State.setQueue_pending (s : State) (i : Nat) (q : Queue) : (s.setQueue i q).pending = s.pending := rfl
@[simp] theorem State.setQueue_variant (s : State) (i : Nat) (q : Queue) : (s.setQueue i q).variant = s.variant := rfl
@[simp] theorem State.setQueue_hc (s : State) (i : Nat) (q : Queue) : (s.setQueue i q).hc = s.hc := rfl
@[simp] theorem State.setQueue_tb (s : State) (i : Nat) (q : Queue) : (s.setQueue i q).tb = s.tb := rfl
@[simp] theorem State.setQueue_tbPhase (s : State) (i : Nat) (q : Queue) : (s.setQueue i q).tbPhase = s.tbPhase := rfl
@[simp] theorem State.setQueue_fmhz (s : State) (i : Nat) (q : Queue) : (s.setQueue i q).fmhz = s.fmhz := rfl
@[simp] theorem State.setQueue_free (s : State) (i : Nat) (q : Queue) : (s.setQueue i q).free = s.free := rfl
@[simp] theorem State.setQueue_regs (s : State) (i : Nat) (q : Queue) : (s.setQueue i q).regs = s.regs := rfl
@[simp] theorem State.setQueue_selHost (s : State) (i : Nat) (q : Queue) : (s.setQueue i q).selHost = s.selHost := rfl
@[simp] theorem State.setQueue_selMgmt (s : State) (i : Nat) (q : Queue) : (s.setQueue i q).selMgmt = s.selMgmt := rfl
@[simp] theorem State.setQueue_glb (s : State) (i : Nat) (q : Queue) : (s.setQueue i q).glb = s.glb := rfl
@[simp] theorem State.setQueue_en (s : State) (i : Nat) (q : Queue) : (s.setQueue i q).en = s.en := rfl
@[simp] theorem State.setQueue_ctxs (s : State) (i : Nat) (q : Queue) : (s.setQueue i q).ctxs = s.ctxs := rfl
@[simp] theorem State.setQueue_templates (s : State) (i : Nat) (q : Queue) : (s.setQueue i q).templates = s.templates := rfl
@[simp] theorem State.setQueue_launches (s : State) (i : Nat) (q : Queue) : (s.setQueue i q).launches = s.launches := rfl
@[simp] theorem State.setQueue_heldLaunches (s : State) (i : Nat) (q : Queue) : (s.setQueue i q).heldLaunches = s.heldLaunches := rfl
@[simp] theorem State.setQueue_hub (s : State) (i : Nat) (q : Queue) : (s.setQueue i q).hub = s.hub := rfl
@[simp] theorem State.setQueue_disp (s : State) (i : Nat) (q : Queue) : (s.setQueue i q).disp = s.disp := rfl
@[simp] theorem State.setQueue_fold (s : State) (i : Nat) (q : Queue) : (s.setQueue i q).fold = s.fold := rfl
@[simp] theorem State.setQueue_rings (s : State) (i : Nat) (q : Queue) : (s.setQueue i q).rings = s.rings := rfl
@[simp] theorem State.setQueue_cbs (s : State) (i : Nat) (q : Queue) : (s.setQueue i q).cbs = s.cbs := rfl
@[simp] theorem State.setQueue_dmas (s : State) (i : Nat) (q : Queue) : (s.setQueue i q).dmas = s.dmas := rfl
@[simp] theorem State.setQueue_dlm (s : State) (i : Nat) (q : Queue) : (s.setQueue i q).dlm = s.dlm := rfl
@[simp] theorem State.setQueue_ckpts (s : State) (i : Nat) (q : Queue) : (s.setQueue i q).ckpts = s.ckpts := rfl
@[simp] theorem State.setQueue_sync (s : State) (i : Nat) (q : Queue) : (s.setQueue i q).sync = s.sync := rfl
@[simp] theorem State.setQueue_msgs (s : State) (i : Nat) (q : Queue) : (s.setQueue i q).msgs = s.msgs := rfl
@[simp] theorem State.setQueue_fab (s : State) (i : Nat) (q : Queue) : (s.setQueue i q).fab = s.fab := rfl
@[simp] theorem State.setQueue_obs (s : State) (i : Nat) (q : Queue) : (s.setQueue i q).obs = s.obs := rfl
@[simp] theorem State.setQueue_mem (s : State) (i : Nat) (q : Queue) : (s.setQueue i q).mem = s.mem := rfl
@[simp] theorem State.setQueue_poison (s : State) (i : Nat) (q : Queue) : (s.setQueue i q).poison = s.poison := rfl
@[simp] theorem State.setQueue_refuse (s : State) (i : Nat) (q : Queue) : (s.setQueue i q).refuse = s.refuse := rfl
@[simp] theorem State.setQueue_nextId (s : State) (i : Nat) (q : Queue) : (s.setQueue i q).nextId = s.nextId := rfl
@[simp] theorem State.setQueue_lanes (s : State) (i : Nat) (q : Queue) : (s.setQueue i q).lanes = s.lanes := rfl
@[simp] theorem State.setQueue_cyc (s : State) (i : Nat) (q : Queue) : (s.setQueue i q).cyc = s.cyc := rfl
@[simp] theorem State.setQueue_reqs (s : State) (i : Nat) (q : Queue) : (s.setQueue i q).reqs = s.reqs := rfl
@[simp] theorem State.setQueue_out (s : State) (i : Nat) (q : Queue) : (s.setQueue i q).out = s.out := rfl

/-! ## State.setBar -/

@[simp] theorem State.setBar_pending (s : State) (u : Nat) (b : Bar) : (s.setBar u b).pending = s.pending := rfl
@[simp] theorem State.setBar_variant (s : State) (u : Nat) (b : Bar) : (s.setBar u b).variant = s.variant := rfl
@[simp] theorem State.setBar_hc (s : State) (u : Nat) (b : Bar) : (s.setBar u b).hc = s.hc := rfl
@[simp] theorem State.setBar_tb (s : State) (u : Nat) (b : Bar) : (s.setBar u b).tb = s.tb := rfl
@[simp] theorem State.setBar_tbPhase (s : State) (u : Nat) (b : Bar) : (s.setBar u b).tbPhase = s.tbPhase := rfl
@[simp] theorem State.setBar_fmhz (s : State) (u : Nat) (b : Bar) : (s.setBar u b).fmhz = s.fmhz := rfl
@[simp] theorem State.setBar_free (s : State) (u : Nat) (b : Bar) : (s.setBar u b).free = s.free := rfl
@[simp] theorem State.setBar_regs (s : State) (u : Nat) (b : Bar) : (s.setBar u b).regs = s.regs := rfl
@[simp] theorem State.setBar_selHost (s : State) (u : Nat) (b : Bar) : (s.setBar u b).selHost = s.selHost := rfl
@[simp] theorem State.setBar_selMgmt (s : State) (u : Nat) (b : Bar) : (s.setBar u b).selMgmt = s.selMgmt := rfl
@[simp] theorem State.setBar_glb (s : State) (u : Nat) (b : Bar) : (s.setBar u b).glb = s.glb := rfl
@[simp] theorem State.setBar_en (s : State) (u : Nat) (b : Bar) : (s.setBar u b).en = s.en := rfl
@[simp] theorem State.setBar_ctxs (s : State) (u : Nat) (b : Bar) : (s.setBar u b).ctxs = s.ctxs := rfl
@[simp] theorem State.setBar_templates (s : State) (u : Nat) (b : Bar) : (s.setBar u b).templates = s.templates := rfl
@[simp] theorem State.setBar_launches (s : State) (u : Nat) (b : Bar) : (s.setBar u b).launches = s.launches := rfl
@[simp] theorem State.setBar_heldLaunches (s : State) (u : Nat) (b : Bar) : (s.setBar u b).heldLaunches = s.heldLaunches := rfl
@[simp] theorem State.setBar_hub (s : State) (u : Nat) (b : Bar) : (s.setBar u b).hub = s.hub := rfl
@[simp] theorem State.setBar_disp (s : State) (u : Nat) (b : Bar) : (s.setBar u b).disp = s.disp := rfl
@[simp] theorem State.setBar_fold (s : State) (u : Nat) (b : Bar) : (s.setBar u b).fold = s.fold := rfl
@[simp] theorem State.setBar_rings (s : State) (u : Nat) (b : Bar) : (s.setBar u b).rings = s.rings := rfl
@[simp] theorem State.setBar_cbs (s : State) (u : Nat) (b : Bar) : (s.setBar u b).cbs = s.cbs := rfl
@[simp] theorem State.setBar_dmas (s : State) (u : Nat) (b : Bar) : (s.setBar u b).dmas = s.dmas := rfl
@[simp] theorem State.setBar_dlm (s : State) (u : Nat) (b : Bar) : (s.setBar u b).dlm = s.dlm := rfl
@[simp] theorem State.setBar_ckpts (s : State) (u : Nat) (b : Bar) : (s.setBar u b).ckpts = s.ckpts := rfl
@[simp] theorem State.setBar_queues (s : State) (u : Nat) (b : Bar) : (s.setBar u b).queues = s.queues := rfl
@[simp] theorem State.setBar_msgs (s : State) (u : Nat) (b : Bar) : (s.setBar u b).msgs = s.msgs := rfl
@[simp] theorem State.setBar_fab (s : State) (u : Nat) (b : Bar) : (s.setBar u b).fab = s.fab := rfl
@[simp] theorem State.setBar_obs (s : State) (u : Nat) (b : Bar) : (s.setBar u b).obs = s.obs := rfl
@[simp] theorem State.setBar_mem (s : State) (u : Nat) (b : Bar) : (s.setBar u b).mem = s.mem := rfl
@[simp] theorem State.setBar_poison (s : State) (u : Nat) (b : Bar) : (s.setBar u b).poison = s.poison := rfl
@[simp] theorem State.setBar_refuse (s : State) (u : Nat) (b : Bar) : (s.setBar u b).refuse = s.refuse := rfl
@[simp] theorem State.setBar_nextId (s : State) (u : Nat) (b : Bar) : (s.setBar u b).nextId = s.nextId := rfl
@[simp] theorem State.setBar_lanes (s : State) (u : Nat) (b : Bar) : (s.setBar u b).lanes = s.lanes := rfl
@[simp] theorem State.setBar_cyc (s : State) (u : Nat) (b : Bar) : (s.setBar u b).cyc = s.cyc := rfl
@[simp] theorem State.setBar_reqs (s : State) (u : Nat) (b : Bar) : (s.setBar u b).reqs = s.reqs := rfl
@[simp] theorem State.setBar_out (s : State) (u : Nat) (b : Bar) : (s.setBar u b).out = s.out := rfl

/-! ## State.setGrp -/

@[simp] theorem State.setGrp_pending (s : State) (g : Nat) (v : Grp) : (s.setGrp g v).pending = s.pending := rfl
@[simp] theorem State.setGrp_variant (s : State) (g : Nat) (v : Grp) : (s.setGrp g v).variant = s.variant := rfl
@[simp] theorem State.setGrp_hc (s : State) (g : Nat) (v : Grp) : (s.setGrp g v).hc = s.hc := rfl
@[simp] theorem State.setGrp_tb (s : State) (g : Nat) (v : Grp) : (s.setGrp g v).tb = s.tb := rfl
@[simp] theorem State.setGrp_tbPhase (s : State) (g : Nat) (v : Grp) : (s.setGrp g v).tbPhase = s.tbPhase := rfl
@[simp] theorem State.setGrp_fmhz (s : State) (g : Nat) (v : Grp) : (s.setGrp g v).fmhz = s.fmhz := rfl
@[simp] theorem State.setGrp_free (s : State) (g : Nat) (v : Grp) : (s.setGrp g v).free = s.free := rfl
@[simp] theorem State.setGrp_regs (s : State) (g : Nat) (v : Grp) : (s.setGrp g v).regs = s.regs := rfl
@[simp] theorem State.setGrp_selHost (s : State) (g : Nat) (v : Grp) : (s.setGrp g v).selHost = s.selHost := rfl
@[simp] theorem State.setGrp_selMgmt (s : State) (g : Nat) (v : Grp) : (s.setGrp g v).selMgmt = s.selMgmt := rfl
@[simp] theorem State.setGrp_glb (s : State) (g : Nat) (v : Grp) : (s.setGrp g v).glb = s.glb := rfl
@[simp] theorem State.setGrp_en (s : State) (g : Nat) (v : Grp) : (s.setGrp g v).en = s.en := rfl
@[simp] theorem State.setGrp_ctxs (s : State) (g : Nat) (v : Grp) : (s.setGrp g v).ctxs = s.ctxs := rfl
@[simp] theorem State.setGrp_templates (s : State) (g : Nat) (v : Grp) : (s.setGrp g v).templates = s.templates := rfl
@[simp] theorem State.setGrp_launches (s : State) (g : Nat) (v : Grp) : (s.setGrp g v).launches = s.launches := rfl
@[simp] theorem State.setGrp_heldLaunches (s : State) (g : Nat) (v : Grp) : (s.setGrp g v).heldLaunches = s.heldLaunches := rfl
@[simp] theorem State.setGrp_hub (s : State) (g : Nat) (v : Grp) : (s.setGrp g v).hub = s.hub := rfl
@[simp] theorem State.setGrp_disp (s : State) (g : Nat) (v : Grp) : (s.setGrp g v).disp = s.disp := rfl
@[simp] theorem State.setGrp_fold (s : State) (g : Nat) (v : Grp) : (s.setGrp g v).fold = s.fold := rfl
@[simp] theorem State.setGrp_rings (s : State) (g : Nat) (v : Grp) : (s.setGrp g v).rings = s.rings := rfl
@[simp] theorem State.setGrp_cbs (s : State) (g : Nat) (v : Grp) : (s.setGrp g v).cbs = s.cbs := rfl
@[simp] theorem State.setGrp_dmas (s : State) (g : Nat) (v : Grp) : (s.setGrp g v).dmas = s.dmas := rfl
@[simp] theorem State.setGrp_dlm (s : State) (g : Nat) (v : Grp) : (s.setGrp g v).dlm = s.dlm := rfl
@[simp] theorem State.setGrp_ckpts (s : State) (g : Nat) (v : Grp) : (s.setGrp g v).ckpts = s.ckpts := rfl
@[simp] theorem State.setGrp_queues (s : State) (g : Nat) (v : Grp) : (s.setGrp g v).queues = s.queues := rfl
@[simp] theorem State.setGrp_msgs (s : State) (g : Nat) (v : Grp) : (s.setGrp g v).msgs = s.msgs := rfl
@[simp] theorem State.setGrp_fab (s : State) (g : Nat) (v : Grp) : (s.setGrp g v).fab = s.fab := rfl
@[simp] theorem State.setGrp_obs (s : State) (g : Nat) (v : Grp) : (s.setGrp g v).obs = s.obs := rfl
@[simp] theorem State.setGrp_mem (s : State) (g : Nat) (v : Grp) : (s.setGrp g v).mem = s.mem := rfl
@[simp] theorem State.setGrp_poison (s : State) (g : Nat) (v : Grp) : (s.setGrp g v).poison = s.poison := rfl
@[simp] theorem State.setGrp_refuse (s : State) (g : Nat) (v : Grp) : (s.setGrp g v).refuse = s.refuse := rfl
@[simp] theorem State.setGrp_nextId (s : State) (g : Nat) (v : Grp) : (s.setGrp g v).nextId = s.nextId := rfl
@[simp] theorem State.setGrp_lanes (s : State) (g : Nat) (v : Grp) : (s.setGrp g v).lanes = s.lanes := rfl
@[simp] theorem State.setGrp_cyc (s : State) (g : Nat) (v : Grp) : (s.setGrp g v).cyc = s.cyc := rfl
@[simp] theorem State.setGrp_reqs (s : State) (g : Nat) (v : Grp) : (s.setGrp g v).reqs = s.reqs := rfl
@[simp] theorem State.setGrp_out (s : State) (g : Nat) (v : Grp) : (s.setGrp g v).out = s.out := rfl

/-! ## State.setObj -/

@[simp] theorem State.setObj_pending (s : State) (p : Nat) (o : Option Obj) : (s.setObj p o).pending = s.pending := rfl
@[simp] theorem State.setObj_variant (s : State) (p : Nat) (o : Option Obj) : (s.setObj p o).variant = s.variant := rfl
@[simp] theorem State.setObj_hc (s : State) (p : Nat) (o : Option Obj) : (s.setObj p o).hc = s.hc := rfl
@[simp] theorem State.setObj_tb (s : State) (p : Nat) (o : Option Obj) : (s.setObj p o).tb = s.tb := rfl
@[simp] theorem State.setObj_tbPhase (s : State) (p : Nat) (o : Option Obj) : (s.setObj p o).tbPhase = s.tbPhase := rfl
@[simp] theorem State.setObj_fmhz (s : State) (p : Nat) (o : Option Obj) : (s.setObj p o).fmhz = s.fmhz := rfl
@[simp] theorem State.setObj_free (s : State) (p : Nat) (o : Option Obj) : (s.setObj p o).free = s.free := rfl
@[simp] theorem State.setObj_regs (s : State) (p : Nat) (o : Option Obj) : (s.setObj p o).regs = s.regs := rfl
@[simp] theorem State.setObj_selHost (s : State) (p : Nat) (o : Option Obj) : (s.setObj p o).selHost = s.selHost := rfl
@[simp] theorem State.setObj_selMgmt (s : State) (p : Nat) (o : Option Obj) : (s.setObj p o).selMgmt = s.selMgmt := rfl
@[simp] theorem State.setObj_glb (s : State) (p : Nat) (o : Option Obj) : (s.setObj p o).glb = s.glb := rfl
@[simp] theorem State.setObj_en (s : State) (p : Nat) (o : Option Obj) : (s.setObj p o).en = s.en := rfl
@[simp] theorem State.setObj_ctxs (s : State) (p : Nat) (o : Option Obj) : (s.setObj p o).ctxs = s.ctxs := rfl
@[simp] theorem State.setObj_templates (s : State) (p : Nat) (o : Option Obj) : (s.setObj p o).templates = s.templates := rfl
@[simp] theorem State.setObj_launches (s : State) (p : Nat) (o : Option Obj) : (s.setObj p o).launches = s.launches := rfl
@[simp] theorem State.setObj_heldLaunches (s : State) (p : Nat) (o : Option Obj) : (s.setObj p o).heldLaunches = s.heldLaunches := rfl
@[simp] theorem State.setObj_hub (s : State) (p : Nat) (o : Option Obj) : (s.setObj p o).hub = s.hub := rfl
@[simp] theorem State.setObj_disp (s : State) (p : Nat) (o : Option Obj) : (s.setObj p o).disp = s.disp := rfl
@[simp] theorem State.setObj_fold (s : State) (p : Nat) (o : Option Obj) : (s.setObj p o).fold = s.fold := rfl
@[simp] theorem State.setObj_rings (s : State) (p : Nat) (o : Option Obj) : (s.setObj p o).rings = s.rings := rfl
@[simp] theorem State.setObj_cbs (s : State) (p : Nat) (o : Option Obj) : (s.setObj p o).cbs = s.cbs := rfl
@[simp] theorem State.setObj_dmas (s : State) (p : Nat) (o : Option Obj) : (s.setObj p o).dmas = s.dmas := rfl
@[simp] theorem State.setObj_dlm (s : State) (p : Nat) (o : Option Obj) : (s.setObj p o).dlm = s.dlm := rfl
@[simp] theorem State.setObj_ckpts (s : State) (p : Nat) (o : Option Obj) : (s.setObj p o).ckpts = s.ckpts := rfl
@[simp] theorem State.setObj_queues (s : State) (p : Nat) (o : Option Obj) : (s.setObj p o).queues = s.queues := rfl
@[simp] theorem State.setObj_msgs (s : State) (p : Nat) (o : Option Obj) : (s.setObj p o).msgs = s.msgs := rfl
@[simp] theorem State.setObj_fab (s : State) (p : Nat) (o : Option Obj) : (s.setObj p o).fab = s.fab := rfl
@[simp] theorem State.setObj_obs (s : State) (p : Nat) (o : Option Obj) : (s.setObj p o).obs = s.obs := rfl
@[simp] theorem State.setObj_mem (s : State) (p : Nat) (o : Option Obj) : (s.setObj p o).mem = s.mem := rfl
@[simp] theorem State.setObj_poison (s : State) (p : Nat) (o : Option Obj) : (s.setObj p o).poison = s.poison := rfl
@[simp] theorem State.setObj_refuse (s : State) (p : Nat) (o : Option Obj) : (s.setObj p o).refuse = s.refuse := rfl
@[simp] theorem State.setObj_nextId (s : State) (p : Nat) (o : Option Obj) : (s.setObj p o).nextId = s.nextId := rfl
@[simp] theorem State.setObj_lanes (s : State) (p : Nat) (o : Option Obj) : (s.setObj p o).lanes = s.lanes := rfl
@[simp] theorem State.setObj_cyc (s : State) (p : Nat) (o : Option Obj) : (s.setObj p o).cyc = s.cyc := rfl
@[simp] theorem State.setObj_reqs (s : State) (p : Nat) (o : Option Obj) : (s.setObj p o).reqs = s.reqs := rfl
@[simp] theorem State.setObj_out (s : State) (p : Nat) (o : Option Obj) : (s.setObj p o).out = s.out := rfl

/-! ## emit -/

@[simp] theorem emit_pending (s : State) (o : Out) : (emit o s).pending = s.pending := rfl
@[simp] theorem emit_variant (s : State) (o : Out) : (emit o s).variant = s.variant := rfl
@[simp] theorem emit_hc (s : State) (o : Out) : (emit o s).hc = s.hc := rfl
@[simp] theorem emit_tb (s : State) (o : Out) : (emit o s).tb = s.tb := rfl
@[simp] theorem emit_tbPhase (s : State) (o : Out) : (emit o s).tbPhase = s.tbPhase := rfl
@[simp] theorem emit_fmhz (s : State) (o : Out) : (emit o s).fmhz = s.fmhz := rfl
@[simp] theorem emit_free (s : State) (o : Out) : (emit o s).free = s.free := rfl
@[simp] theorem emit_regs (s : State) (o : Out) : (emit o s).regs = s.regs := rfl
@[simp] theorem emit_selHost (s : State) (o : Out) : (emit o s).selHost = s.selHost := rfl
@[simp] theorem emit_selMgmt (s : State) (o : Out) : (emit o s).selMgmt = s.selMgmt := rfl
@[simp] theorem emit_glb (s : State) (o : Out) : (emit o s).glb = s.glb := rfl
@[simp] theorem emit_en (s : State) (o : Out) : (emit o s).en = s.en := rfl
@[simp] theorem emit_ctxs (s : State) (o : Out) : (emit o s).ctxs = s.ctxs := rfl
@[simp] theorem emit_templates (s : State) (o : Out) : (emit o s).templates = s.templates := rfl
@[simp] theorem emit_launches (s : State) (o : Out) : (emit o s).launches = s.launches := rfl
@[simp] theorem emit_heldLaunches (s : State) (o : Out) : (emit o s).heldLaunches = s.heldLaunches := rfl
@[simp] theorem emit_hub (s : State) (o : Out) : (emit o s).hub = s.hub := rfl
@[simp] theorem emit_disp (s : State) (o : Out) : (emit o s).disp = s.disp := rfl
@[simp] theorem emit_fold (s : State) (o : Out) : (emit o s).fold = s.fold := rfl
@[simp] theorem emit_rings (s : State) (o : Out) : (emit o s).rings = s.rings := rfl
@[simp] theorem emit_cbs (s : State) (o : Out) : (emit o s).cbs = s.cbs := rfl
@[simp] theorem emit_dmas (s : State) (o : Out) : (emit o s).dmas = s.dmas := rfl
@[simp] theorem emit_dlm (s : State) (o : Out) : (emit o s).dlm = s.dlm := rfl
@[simp] theorem emit_ckpts (s : State) (o : Out) : (emit o s).ckpts = s.ckpts := rfl
@[simp] theorem emit_sync (s : State) (o : Out) : (emit o s).sync = s.sync := rfl
@[simp] theorem emit_queues (s : State) (o : Out) : (emit o s).queues = s.queues := rfl
@[simp] theorem emit_msgs (s : State) (o : Out) : (emit o s).msgs = s.msgs := rfl
@[simp] theorem emit_fab (s : State) (o : Out) : (emit o s).fab = s.fab := rfl
@[simp] theorem emit_obs (s : State) (o : Out) : (emit o s).obs = s.obs := rfl
@[simp] theorem emit_mem (s : State) (o : Out) : (emit o s).mem = s.mem := rfl
@[simp] theorem emit_poison (s : State) (o : Out) : (emit o s).poison = s.poison := rfl
@[simp] theorem emit_refuse (s : State) (o : Out) : (emit o s).refuse = s.refuse := rfl
@[simp] theorem emit_nextId (s : State) (o : Out) : (emit o s).nextId = s.nextId := rfl
@[simp] theorem emit_lanes (s : State) (o : Out) : (emit o s).lanes = s.lanes := rfl
@[simp] theorem emit_cyc (s : State) (o : Out) : (emit o s).cyc = s.cyc := rfl
@[simp] theorem emit_reqs (s : State) (o : Out) : (emit o s).reqs = s.reqs := rfl

/-! ## pmc -/

@[simp] theorem pmc_pending (s : State) (unit code : Nat) (ctx : Option Nat) (n : Nat) : (pmc unit code ctx n s).pending = s.pending := rfl
@[simp] theorem pmc_variant (s : State) (unit code : Nat) (ctx : Option Nat) (n : Nat) : (pmc unit code ctx n s).variant = s.variant := rfl
@[simp] theorem pmc_hc (s : State) (unit code : Nat) (ctx : Option Nat) (n : Nat) : (pmc unit code ctx n s).hc = s.hc := rfl
@[simp] theorem pmc_tb (s : State) (unit code : Nat) (ctx : Option Nat) (n : Nat) : (pmc unit code ctx n s).tb = s.tb := rfl
@[simp] theorem pmc_tbPhase (s : State) (unit code : Nat) (ctx : Option Nat) (n : Nat) : (pmc unit code ctx n s).tbPhase = s.tbPhase := rfl
@[simp] theorem pmc_fmhz (s : State) (unit code : Nat) (ctx : Option Nat) (n : Nat) : (pmc unit code ctx n s).fmhz = s.fmhz := rfl
@[simp] theorem pmc_free (s : State) (unit code : Nat) (ctx : Option Nat) (n : Nat) : (pmc unit code ctx n s).free = s.free := rfl
@[simp] theorem pmc_regs (s : State) (unit code : Nat) (ctx : Option Nat) (n : Nat) : (pmc unit code ctx n s).regs = s.regs := rfl
@[simp] theorem pmc_selHost (s : State) (unit code : Nat) (ctx : Option Nat) (n : Nat) : (pmc unit code ctx n s).selHost = s.selHost := rfl
@[simp] theorem pmc_selMgmt (s : State) (unit code : Nat) (ctx : Option Nat) (n : Nat) : (pmc unit code ctx n s).selMgmt = s.selMgmt := rfl
@[simp] theorem pmc_glb (s : State) (unit code : Nat) (ctx : Option Nat) (n : Nat) : (pmc unit code ctx n s).glb = s.glb := rfl
@[simp] theorem pmc_en (s : State) (unit code : Nat) (ctx : Option Nat) (n : Nat) : (pmc unit code ctx n s).en = s.en := rfl
@[simp] theorem pmc_ctxs (s : State) (unit code : Nat) (ctx : Option Nat) (n : Nat) : (pmc unit code ctx n s).ctxs = s.ctxs := rfl
@[simp] theorem pmc_templates (s : State) (unit code : Nat) (ctx : Option Nat) (n : Nat) : (pmc unit code ctx n s).templates = s.templates := rfl
@[simp] theorem pmc_launches (s : State) (unit code : Nat) (ctx : Option Nat) (n : Nat) : (pmc unit code ctx n s).launches = s.launches := rfl
@[simp] theorem pmc_heldLaunches (s : State) (unit code : Nat) (ctx : Option Nat) (n : Nat) : (pmc unit code ctx n s).heldLaunches = s.heldLaunches := rfl
@[simp] theorem pmc_hub (s : State) (unit code : Nat) (ctx : Option Nat) (n : Nat) : (pmc unit code ctx n s).hub = s.hub := rfl
@[simp] theorem pmc_disp (s : State) (unit code : Nat) (ctx : Option Nat) (n : Nat) : (pmc unit code ctx n s).disp = s.disp := rfl
@[simp] theorem pmc_fold (s : State) (unit code : Nat) (ctx : Option Nat) (n : Nat) : (pmc unit code ctx n s).fold = s.fold := rfl
@[simp] theorem pmc_rings (s : State) (unit code : Nat) (ctx : Option Nat) (n : Nat) : (pmc unit code ctx n s).rings = s.rings := rfl
@[simp] theorem pmc_cbs (s : State) (unit code : Nat) (ctx : Option Nat) (n : Nat) : (pmc unit code ctx n s).cbs = s.cbs := rfl
@[simp] theorem pmc_dmas (s : State) (unit code : Nat) (ctx : Option Nat) (n : Nat) : (pmc unit code ctx n s).dmas = s.dmas := rfl
@[simp] theorem pmc_dlm (s : State) (unit code : Nat) (ctx : Option Nat) (n : Nat) : (pmc unit code ctx n s).dlm = s.dlm := rfl
@[simp] theorem pmc_ckpts (s : State) (unit code : Nat) (ctx : Option Nat) (n : Nat) : (pmc unit code ctx n s).ckpts = s.ckpts := rfl
@[simp] theorem pmc_sync (s : State) (unit code : Nat) (ctx : Option Nat) (n : Nat) : (pmc unit code ctx n s).sync = s.sync := rfl
@[simp] theorem pmc_queues (s : State) (unit code : Nat) (ctx : Option Nat) (n : Nat) : (pmc unit code ctx n s).queues = s.queues := rfl
@[simp] theorem pmc_msgs (s : State) (unit code : Nat) (ctx : Option Nat) (n : Nat) : (pmc unit code ctx n s).msgs = s.msgs := rfl
@[simp] theorem pmc_fab (s : State) (unit code : Nat) (ctx : Option Nat) (n : Nat) : (pmc unit code ctx n s).fab = s.fab := rfl
@[simp] theorem pmc_mem (s : State) (unit code : Nat) (ctx : Option Nat) (n : Nat) : (pmc unit code ctx n s).mem = s.mem := rfl
@[simp] theorem pmc_poison (s : State) (unit code : Nat) (ctx : Option Nat) (n : Nat) : (pmc unit code ctx n s).poison = s.poison := rfl
@[simp] theorem pmc_refuse (s : State) (unit code : Nat) (ctx : Option Nat) (n : Nat) : (pmc unit code ctx n s).refuse = s.refuse := rfl
@[simp] theorem pmc_nextId (s : State) (unit code : Nat) (ctx : Option Nat) (n : Nat) : (pmc unit code ctx n s).nextId = s.nextId := rfl
@[simp] theorem pmc_lanes (s : State) (unit code : Nat) (ctx : Option Nat) (n : Nat) : (pmc unit code ctx n s).lanes = s.lanes := rfl
@[simp] theorem pmc_cyc (s : State) (unit code : Nat) (ctx : Option Nat) (n : Nat) : (pmc unit code ctx n s).cyc = s.cyc := rfl
@[simp] theorem pmc_reqs (s : State) (unit code : Nat) (ctx : Option Nat) (n : Nat) : (pmc unit code ctx n s).reqs = s.reqs := rfl
@[simp] theorem pmc_out (s : State) (unit code : Nat) (ctx : Option Nat) (n : Nat) : (pmc unit code ctx n s).out = s.out := rfl

/-! ## pmcTask -/

@[simp] theorem pmcTask_pending (s : State) (unit code ctx layer op : Nat) : (pmcTask unit code ctx layer op s).pending = s.pending := rfl
@[simp] theorem pmcTask_variant (s : State) (unit code ctx layer op : Nat) : (pmcTask unit code ctx layer op s).variant = s.variant := rfl
@[simp] theorem pmcTask_hc (s : State) (unit code ctx layer op : Nat) : (pmcTask unit code ctx layer op s).hc = s.hc := rfl
@[simp] theorem pmcTask_tb (s : State) (unit code ctx layer op : Nat) : (pmcTask unit code ctx layer op s).tb = s.tb := rfl
@[simp] theorem pmcTask_tbPhase (s : State) (unit code ctx layer op : Nat) : (pmcTask unit code ctx layer op s).tbPhase = s.tbPhase := rfl
@[simp] theorem pmcTask_fmhz (s : State) (unit code ctx layer op : Nat) : (pmcTask unit code ctx layer op s).fmhz = s.fmhz := rfl
@[simp] theorem pmcTask_free (s : State) (unit code ctx layer op : Nat) : (pmcTask unit code ctx layer op s).free = s.free := rfl
@[simp] theorem pmcTask_regs (s : State) (unit code ctx layer op : Nat) : (pmcTask unit code ctx layer op s).regs = s.regs := rfl
@[simp] theorem pmcTask_selHost (s : State) (unit code ctx layer op : Nat) : (pmcTask unit code ctx layer op s).selHost = s.selHost := rfl
@[simp] theorem pmcTask_selMgmt (s : State) (unit code ctx layer op : Nat) : (pmcTask unit code ctx layer op s).selMgmt = s.selMgmt := rfl
@[simp] theorem pmcTask_glb (s : State) (unit code ctx layer op : Nat) : (pmcTask unit code ctx layer op s).glb = s.glb := rfl
@[simp] theorem pmcTask_en (s : State) (unit code ctx layer op : Nat) : (pmcTask unit code ctx layer op s).en = s.en := rfl
@[simp] theorem pmcTask_ctxs (s : State) (unit code ctx layer op : Nat) : (pmcTask unit code ctx layer op s).ctxs = s.ctxs := rfl
@[simp] theorem pmcTask_templates (s : State) (unit code ctx layer op : Nat) : (pmcTask unit code ctx layer op s).templates = s.templates := rfl
@[simp] theorem pmcTask_launches (s : State) (unit code ctx layer op : Nat) : (pmcTask unit code ctx layer op s).launches = s.launches := rfl
@[simp] theorem pmcTask_heldLaunches (s : State) (unit code ctx layer op : Nat) : (pmcTask unit code ctx layer op s).heldLaunches = s.heldLaunches := rfl
@[simp] theorem pmcTask_hub (s : State) (unit code ctx layer op : Nat) : (pmcTask unit code ctx layer op s).hub = s.hub := rfl
@[simp] theorem pmcTask_disp (s : State) (unit code ctx layer op : Nat) : (pmcTask unit code ctx layer op s).disp = s.disp := rfl
@[simp] theorem pmcTask_fold (s : State) (unit code ctx layer op : Nat) : (pmcTask unit code ctx layer op s).fold = s.fold := rfl
@[simp] theorem pmcTask_rings (s : State) (unit code ctx layer op : Nat) : (pmcTask unit code ctx layer op s).rings = s.rings := rfl
@[simp] theorem pmcTask_cbs (s : State) (unit code ctx layer op : Nat) : (pmcTask unit code ctx layer op s).cbs = s.cbs := rfl
@[simp] theorem pmcTask_dmas (s : State) (unit code ctx layer op : Nat) : (pmcTask unit code ctx layer op s).dmas = s.dmas := rfl
@[simp] theorem pmcTask_dlm (s : State) (unit code ctx layer op : Nat) : (pmcTask unit code ctx layer op s).dlm = s.dlm := rfl
@[simp] theorem pmcTask_ckpts (s : State) (unit code ctx layer op : Nat) : (pmcTask unit code ctx layer op s).ckpts = s.ckpts := rfl
@[simp] theorem pmcTask_sync (s : State) (unit code ctx layer op : Nat) : (pmcTask unit code ctx layer op s).sync = s.sync := rfl
@[simp] theorem pmcTask_queues (s : State) (unit code ctx layer op : Nat) : (pmcTask unit code ctx layer op s).queues = s.queues := rfl
@[simp] theorem pmcTask_msgs (s : State) (unit code ctx layer op : Nat) : (pmcTask unit code ctx layer op s).msgs = s.msgs := rfl
@[simp] theorem pmcTask_fab (s : State) (unit code ctx layer op : Nat) : (pmcTask unit code ctx layer op s).fab = s.fab := rfl
@[simp] theorem pmcTask_mem (s : State) (unit code ctx layer op : Nat) : (pmcTask unit code ctx layer op s).mem = s.mem := rfl
@[simp] theorem pmcTask_poison (s : State) (unit code ctx layer op : Nat) : (pmcTask unit code ctx layer op s).poison = s.poison := rfl
@[simp] theorem pmcTask_refuse (s : State) (unit code ctx layer op : Nat) : (pmcTask unit code ctx layer op s).refuse = s.refuse := rfl
@[simp] theorem pmcTask_nextId (s : State) (unit code ctx layer op : Nat) : (pmcTask unit code ctx layer op s).nextId = s.nextId := rfl
@[simp] theorem pmcTask_lanes (s : State) (unit code ctx layer op : Nat) : (pmcTask unit code ctx layer op s).lanes = s.lanes := rfl
@[simp] theorem pmcTask_cyc (s : State) (unit code ctx layer op : Nat) : (pmcTask unit code ctx layer op s).cyc = s.cyc := rfl
@[simp] theorem pmcTask_reqs (s : State) (unit code ctx layer op : Nat) : (pmcTask unit code ctx layer op s).reqs = s.reqs := rfl
@[simp] theorem pmcTask_out (s : State) (unit code ctx layer op : Nat) : (pmcTask unit code ctx layer op s).out = s.out := rfl

/-! ## linkSent -/

@[simp] theorem linkSent_pending (s : State) (l n : Nat) : (linkSent l n s).pending = s.pending := rfl
@[simp] theorem linkSent_variant (s : State) (l n : Nat) : (linkSent l n s).variant = s.variant := rfl
@[simp] theorem linkSent_hc (s : State) (l n : Nat) : (linkSent l n s).hc = s.hc := rfl
@[simp] theorem linkSent_tb (s : State) (l n : Nat) : (linkSent l n s).tb = s.tb := rfl
@[simp] theorem linkSent_tbPhase (s : State) (l n : Nat) : (linkSent l n s).tbPhase = s.tbPhase := rfl
@[simp] theorem linkSent_fmhz (s : State) (l n : Nat) : (linkSent l n s).fmhz = s.fmhz := rfl
@[simp] theorem linkSent_free (s : State) (l n : Nat) : (linkSent l n s).free = s.free := rfl
@[simp] theorem linkSent_regs (s : State) (l n : Nat) : (linkSent l n s).regs = s.regs := rfl
@[simp] theorem linkSent_selHost (s : State) (l n : Nat) : (linkSent l n s).selHost = s.selHost := rfl
@[simp] theorem linkSent_selMgmt (s : State) (l n : Nat) : (linkSent l n s).selMgmt = s.selMgmt := rfl
@[simp] theorem linkSent_glb (s : State) (l n : Nat) : (linkSent l n s).glb = s.glb := rfl
@[simp] theorem linkSent_en (s : State) (l n : Nat) : (linkSent l n s).en = s.en := rfl
@[simp] theorem linkSent_ctxs (s : State) (l n : Nat) : (linkSent l n s).ctxs = s.ctxs := rfl
@[simp] theorem linkSent_templates (s : State) (l n : Nat) : (linkSent l n s).templates = s.templates := rfl
@[simp] theorem linkSent_launches (s : State) (l n : Nat) : (linkSent l n s).launches = s.launches := rfl
@[simp] theorem linkSent_heldLaunches (s : State) (l n : Nat) : (linkSent l n s).heldLaunches = s.heldLaunches := rfl
@[simp] theorem linkSent_hub (s : State) (l n : Nat) : (linkSent l n s).hub = s.hub := rfl
@[simp] theorem linkSent_disp (s : State) (l n : Nat) : (linkSent l n s).disp = s.disp := rfl
@[simp] theorem linkSent_fold (s : State) (l n : Nat) : (linkSent l n s).fold = s.fold := rfl
@[simp] theorem linkSent_rings (s : State) (l n : Nat) : (linkSent l n s).rings = s.rings := rfl
@[simp] theorem linkSent_cbs (s : State) (l n : Nat) : (linkSent l n s).cbs = s.cbs := rfl
@[simp] theorem linkSent_dmas (s : State) (l n : Nat) : (linkSent l n s).dmas = s.dmas := rfl
@[simp] theorem linkSent_dlm (s : State) (l n : Nat) : (linkSent l n s).dlm = s.dlm := rfl
@[simp] theorem linkSent_ckpts (s : State) (l n : Nat) : (linkSent l n s).ckpts = s.ckpts := rfl
@[simp] theorem linkSent_sync (s : State) (l n : Nat) : (linkSent l n s).sync = s.sync := rfl
@[simp] theorem linkSent_queues (s : State) (l n : Nat) : (linkSent l n s).queues = s.queues := rfl
@[simp] theorem linkSent_msgs (s : State) (l n : Nat) : (linkSent l n s).msgs = s.msgs := rfl
@[simp] theorem linkSent_fab (s : State) (l n : Nat) : (linkSent l n s).fab = s.fab := rfl
@[simp] theorem linkSent_mem (s : State) (l n : Nat) : (linkSent l n s).mem = s.mem := rfl
@[simp] theorem linkSent_poison (s : State) (l n : Nat) : (linkSent l n s).poison = s.poison := rfl
@[simp] theorem linkSent_refuse (s : State) (l n : Nat) : (linkSent l n s).refuse = s.refuse := rfl
@[simp] theorem linkSent_nextId (s : State) (l n : Nat) : (linkSent l n s).nextId = s.nextId := rfl
@[simp] theorem linkSent_lanes (s : State) (l n : Nat) : (linkSent l n s).lanes = s.lanes := rfl
@[simp] theorem linkSent_cyc (s : State) (l n : Nat) : (linkSent l n s).cyc = s.cyc := rfl
@[simp] theorem linkSent_reqs (s : State) (l n : Nat) : (linkSent l n s).reqs = s.reqs := rfl
@[simp] theorem linkSent_out (s : State) (l n : Nat) : (linkSent l n s).out = s.out := rfl

/-! ## linkRecv -/

@[simp] theorem linkRecv_pending (s : State) (l n : Nat) : (linkRecv l n s).pending = s.pending := rfl
@[simp] theorem linkRecv_variant (s : State) (l n : Nat) : (linkRecv l n s).variant = s.variant := rfl
@[simp] theorem linkRecv_hc (s : State) (l n : Nat) : (linkRecv l n s).hc = s.hc := rfl
@[simp] theorem linkRecv_tb (s : State) (l n : Nat) : (linkRecv l n s).tb = s.tb := rfl
@[simp] theorem linkRecv_tbPhase (s : State) (l n : Nat) : (linkRecv l n s).tbPhase = s.tbPhase := rfl
@[simp] theorem linkRecv_fmhz (s : State) (l n : Nat) : (linkRecv l n s).fmhz = s.fmhz := rfl
@[simp] theorem linkRecv_free (s : State) (l n : Nat) : (linkRecv l n s).free = s.free := rfl
@[simp] theorem linkRecv_regs (s : State) (l n : Nat) : (linkRecv l n s).regs = s.regs := rfl
@[simp] theorem linkRecv_selHost (s : State) (l n : Nat) : (linkRecv l n s).selHost = s.selHost := rfl
@[simp] theorem linkRecv_selMgmt (s : State) (l n : Nat) : (linkRecv l n s).selMgmt = s.selMgmt := rfl
@[simp] theorem linkRecv_glb (s : State) (l n : Nat) : (linkRecv l n s).glb = s.glb := rfl
@[simp] theorem linkRecv_en (s : State) (l n : Nat) : (linkRecv l n s).en = s.en := rfl
@[simp] theorem linkRecv_ctxs (s : State) (l n : Nat) : (linkRecv l n s).ctxs = s.ctxs := rfl
@[simp] theorem linkRecv_templates (s : State) (l n : Nat) : (linkRecv l n s).templates = s.templates := rfl
@[simp] theorem linkRecv_launches (s : State) (l n : Nat) : (linkRecv l n s).launches = s.launches := rfl
@[simp] theorem linkRecv_heldLaunches (s : State) (l n : Nat) : (linkRecv l n s).heldLaunches = s.heldLaunches := rfl
@[simp] theorem linkRecv_hub (s : State) (l n : Nat) : (linkRecv l n s).hub = s.hub := rfl
@[simp] theorem linkRecv_disp (s : State) (l n : Nat) : (linkRecv l n s).disp = s.disp := rfl
@[simp] theorem linkRecv_fold (s : State) (l n : Nat) : (linkRecv l n s).fold = s.fold := rfl
@[simp] theorem linkRecv_rings (s : State) (l n : Nat) : (linkRecv l n s).rings = s.rings := rfl
@[simp] theorem linkRecv_cbs (s : State) (l n : Nat) : (linkRecv l n s).cbs = s.cbs := rfl
@[simp] theorem linkRecv_dmas (s : State) (l n : Nat) : (linkRecv l n s).dmas = s.dmas := rfl
@[simp] theorem linkRecv_dlm (s : State) (l n : Nat) : (linkRecv l n s).dlm = s.dlm := rfl
@[simp] theorem linkRecv_ckpts (s : State) (l n : Nat) : (linkRecv l n s).ckpts = s.ckpts := rfl
@[simp] theorem linkRecv_sync (s : State) (l n : Nat) : (linkRecv l n s).sync = s.sync := rfl
@[simp] theorem linkRecv_queues (s : State) (l n : Nat) : (linkRecv l n s).queues = s.queues := rfl
@[simp] theorem linkRecv_msgs (s : State) (l n : Nat) : (linkRecv l n s).msgs = s.msgs := rfl
@[simp] theorem linkRecv_fab (s : State) (l n : Nat) : (linkRecv l n s).fab = s.fab := rfl
@[simp] theorem linkRecv_mem (s : State) (l n : Nat) : (linkRecv l n s).mem = s.mem := rfl
@[simp] theorem linkRecv_poison (s : State) (l n : Nat) : (linkRecv l n s).poison = s.poison := rfl
@[simp] theorem linkRecv_refuse (s : State) (l n : Nat) : (linkRecv l n s).refuse = s.refuse := rfl
@[simp] theorem linkRecv_nextId (s : State) (l n : Nat) : (linkRecv l n s).nextId = s.nextId := rfl
@[simp] theorem linkRecv_lanes (s : State) (l n : Nat) : (linkRecv l n s).lanes = s.lanes := rfl
@[simp] theorem linkRecv_cyc (s : State) (l n : Nat) : (linkRecv l n s).cyc = s.cyc := rfl
@[simp] theorem linkRecv_reqs (s : State) (l n : Nat) : (linkRecv l n s).reqs = s.reqs := rfl
@[simp] theorem linkRecv_out (s : State) (l n : Nat) : (linkRecv l n s).out = s.out := rfl

/-! ## linkPassN -/

@[simp] theorem linkPassN_pending (s : State) (l n : Nat) : (linkPassN l n s).pending = s.pending := (linkRecv_pending (linkSent l n s) l n).trans (linkSent_pending s l n)
@[simp] theorem linkPassN_variant (s : State) (l n : Nat) : (linkPassN l n s).variant = s.variant := (linkRecv_variant (linkSent l n s) l n).trans (linkSent_variant s l n)
@[simp] theorem linkPassN_hc (s : State) (l n : Nat) : (linkPassN l n s).hc = s.hc := (linkRecv_hc (linkSent l n s) l n).trans (linkSent_hc s l n)
@[simp] theorem linkPassN_tb (s : State) (l n : Nat) : (linkPassN l n s).tb = s.tb := (linkRecv_tb (linkSent l n s) l n).trans (linkSent_tb s l n)
@[simp] theorem linkPassN_tbPhase (s : State) (l n : Nat) : (linkPassN l n s).tbPhase = s.tbPhase := (linkRecv_tbPhase (linkSent l n s) l n).trans (linkSent_tbPhase s l n)
@[simp] theorem linkPassN_fmhz (s : State) (l n : Nat) : (linkPassN l n s).fmhz = s.fmhz := (linkRecv_fmhz (linkSent l n s) l n).trans (linkSent_fmhz s l n)
@[simp] theorem linkPassN_free (s : State) (l n : Nat) : (linkPassN l n s).free = s.free := (linkRecv_free (linkSent l n s) l n).trans (linkSent_free s l n)
@[simp] theorem linkPassN_regs (s : State) (l n : Nat) : (linkPassN l n s).regs = s.regs := (linkRecv_regs (linkSent l n s) l n).trans (linkSent_regs s l n)
@[simp] theorem linkPassN_selHost (s : State) (l n : Nat) : (linkPassN l n s).selHost = s.selHost := (linkRecv_selHost (linkSent l n s) l n).trans (linkSent_selHost s l n)
@[simp] theorem linkPassN_selMgmt (s : State) (l n : Nat) : (linkPassN l n s).selMgmt = s.selMgmt := (linkRecv_selMgmt (linkSent l n s) l n).trans (linkSent_selMgmt s l n)
@[simp] theorem linkPassN_glb (s : State) (l n : Nat) : (linkPassN l n s).glb = s.glb := (linkRecv_glb (linkSent l n s) l n).trans (linkSent_glb s l n)
@[simp] theorem linkPassN_en (s : State) (l n : Nat) : (linkPassN l n s).en = s.en := (linkRecv_en (linkSent l n s) l n).trans (linkSent_en s l n)
@[simp] theorem linkPassN_ctxs (s : State) (l n : Nat) : (linkPassN l n s).ctxs = s.ctxs := (linkRecv_ctxs (linkSent l n s) l n).trans (linkSent_ctxs s l n)
@[simp] theorem linkPassN_templates (s : State) (l n : Nat) : (linkPassN l n s).templates = s.templates := (linkRecv_templates (linkSent l n s) l n).trans (linkSent_templates s l n)
@[simp] theorem linkPassN_launches (s : State) (l n : Nat) : (linkPassN l n s).launches = s.launches := (linkRecv_launches (linkSent l n s) l n).trans (linkSent_launches s l n)
@[simp] theorem linkPassN_heldLaunches (s : State) (l n : Nat) : (linkPassN l n s).heldLaunches = s.heldLaunches := (linkRecv_heldLaunches (linkSent l n s) l n).trans (linkSent_heldLaunches s l n)
@[simp] theorem linkPassN_hub (s : State) (l n : Nat) : (linkPassN l n s).hub = s.hub := (linkRecv_hub (linkSent l n s) l n).trans (linkSent_hub s l n)
@[simp] theorem linkPassN_disp (s : State) (l n : Nat) : (linkPassN l n s).disp = s.disp := (linkRecv_disp (linkSent l n s) l n).trans (linkSent_disp s l n)
@[simp] theorem linkPassN_fold (s : State) (l n : Nat) : (linkPassN l n s).fold = s.fold := (linkRecv_fold (linkSent l n s) l n).trans (linkSent_fold s l n)
@[simp] theorem linkPassN_rings (s : State) (l n : Nat) : (linkPassN l n s).rings = s.rings := (linkRecv_rings (linkSent l n s) l n).trans (linkSent_rings s l n)
@[simp] theorem linkPassN_cbs (s : State) (l n : Nat) : (linkPassN l n s).cbs = s.cbs := (linkRecv_cbs (linkSent l n s) l n).trans (linkSent_cbs s l n)
@[simp] theorem linkPassN_dmas (s : State) (l n : Nat) : (linkPassN l n s).dmas = s.dmas := (linkRecv_dmas (linkSent l n s) l n).trans (linkSent_dmas s l n)
@[simp] theorem linkPassN_dlm (s : State) (l n : Nat) : (linkPassN l n s).dlm = s.dlm := (linkRecv_dlm (linkSent l n s) l n).trans (linkSent_dlm s l n)
@[simp] theorem linkPassN_ckpts (s : State) (l n : Nat) : (linkPassN l n s).ckpts = s.ckpts := (linkRecv_ckpts (linkSent l n s) l n).trans (linkSent_ckpts s l n)
@[simp] theorem linkPassN_sync (s : State) (l n : Nat) : (linkPassN l n s).sync = s.sync := (linkRecv_sync (linkSent l n s) l n).trans (linkSent_sync s l n)
@[simp] theorem linkPassN_queues (s : State) (l n : Nat) : (linkPassN l n s).queues = s.queues := (linkRecv_queues (linkSent l n s) l n).trans (linkSent_queues s l n)
@[simp] theorem linkPassN_msgs (s : State) (l n : Nat) : (linkPassN l n s).msgs = s.msgs := (linkRecv_msgs (linkSent l n s) l n).trans (linkSent_msgs s l n)
@[simp] theorem linkPassN_fab (s : State) (l n : Nat) : (linkPassN l n s).fab = s.fab := (linkRecv_fab (linkSent l n s) l n).trans (linkSent_fab s l n)
@[simp] theorem linkPassN_mem (s : State) (l n : Nat) : (linkPassN l n s).mem = s.mem := (linkRecv_mem (linkSent l n s) l n).trans (linkSent_mem s l n)
@[simp] theorem linkPassN_poison (s : State) (l n : Nat) : (linkPassN l n s).poison = s.poison := (linkRecv_poison (linkSent l n s) l n).trans (linkSent_poison s l n)
@[simp] theorem linkPassN_refuse (s : State) (l n : Nat) : (linkPassN l n s).refuse = s.refuse := (linkRecv_refuse (linkSent l n s) l n).trans (linkSent_refuse s l n)
@[simp] theorem linkPassN_nextId (s : State) (l n : Nat) : (linkPassN l n s).nextId = s.nextId := (linkRecv_nextId (linkSent l n s) l n).trans (linkSent_nextId s l n)
@[simp] theorem linkPassN_lanes (s : State) (l n : Nat) : (linkPassN l n s).lanes = s.lanes := (linkRecv_lanes (linkSent l n s) l n).trans (linkSent_lanes s l n)
@[simp] theorem linkPassN_cyc (s : State) (l n : Nat) : (linkPassN l n s).cyc = s.cyc := (linkRecv_cyc (linkSent l n s) l n).trans (linkSent_cyc s l n)
@[simp] theorem linkPassN_reqs (s : State) (l n : Nat) : (linkPassN l n s).reqs = s.reqs := (linkRecv_reqs (linkSent l n s) l n).trans (linkSent_reqs s l n)
@[simp] theorem linkPassN_out (s : State) (l n : Nat) : (linkPassN l n s).out = s.out := (linkRecv_out (linkSent l n s) l n).trans (linkSent_out s l n)

/-! ## linkPass -/

@[simp] theorem linkPass_pending (s : State) (l : Nat) : (linkPass l s).pending = s.pending := linkPassN_pending s l 1
@[simp] theorem linkPass_variant (s : State) (l : Nat) : (linkPass l s).variant = s.variant := linkPassN_variant s l 1
@[simp] theorem linkPass_hc (s : State) (l : Nat) : (linkPass l s).hc = s.hc := linkPassN_hc s l 1
@[simp] theorem linkPass_tb (s : State) (l : Nat) : (linkPass l s).tb = s.tb := linkPassN_tb s l 1
@[simp] theorem linkPass_tbPhase (s : State) (l : Nat) : (linkPass l s).tbPhase = s.tbPhase := linkPassN_tbPhase s l 1
@[simp] theorem linkPass_fmhz (s : State) (l : Nat) : (linkPass l s).fmhz = s.fmhz := linkPassN_fmhz s l 1
@[simp] theorem linkPass_free (s : State) (l : Nat) : (linkPass l s).free = s.free := linkPassN_free s l 1
@[simp] theorem linkPass_regs (s : State) (l : Nat) : (linkPass l s).regs = s.regs := linkPassN_regs s l 1
@[simp] theorem linkPass_selHost (s : State) (l : Nat) : (linkPass l s).selHost = s.selHost := linkPassN_selHost s l 1
@[simp] theorem linkPass_selMgmt (s : State) (l : Nat) : (linkPass l s).selMgmt = s.selMgmt := linkPassN_selMgmt s l 1
@[simp] theorem linkPass_glb (s : State) (l : Nat) : (linkPass l s).glb = s.glb := linkPassN_glb s l 1
@[simp] theorem linkPass_en (s : State) (l : Nat) : (linkPass l s).en = s.en := linkPassN_en s l 1
@[simp] theorem linkPass_ctxs (s : State) (l : Nat) : (linkPass l s).ctxs = s.ctxs := linkPassN_ctxs s l 1
@[simp] theorem linkPass_templates (s : State) (l : Nat) : (linkPass l s).templates = s.templates := linkPassN_templates s l 1
@[simp] theorem linkPass_launches (s : State) (l : Nat) : (linkPass l s).launches = s.launches := linkPassN_launches s l 1
@[simp] theorem linkPass_heldLaunches (s : State) (l : Nat) : (linkPass l s).heldLaunches = s.heldLaunches := linkPassN_heldLaunches s l 1
@[simp] theorem linkPass_hub (s : State) (l : Nat) : (linkPass l s).hub = s.hub := linkPassN_hub s l 1
@[simp] theorem linkPass_disp (s : State) (l : Nat) : (linkPass l s).disp = s.disp := linkPassN_disp s l 1
@[simp] theorem linkPass_fold (s : State) (l : Nat) : (linkPass l s).fold = s.fold := linkPassN_fold s l 1
@[simp] theorem linkPass_rings (s : State) (l : Nat) : (linkPass l s).rings = s.rings := linkPassN_rings s l 1
@[simp] theorem linkPass_cbs (s : State) (l : Nat) : (linkPass l s).cbs = s.cbs := linkPassN_cbs s l 1
@[simp] theorem linkPass_dmas (s : State) (l : Nat) : (linkPass l s).dmas = s.dmas := linkPassN_dmas s l 1
@[simp] theorem linkPass_dlm (s : State) (l : Nat) : (linkPass l s).dlm = s.dlm := linkPassN_dlm s l 1
@[simp] theorem linkPass_ckpts (s : State) (l : Nat) : (linkPass l s).ckpts = s.ckpts := linkPassN_ckpts s l 1
@[simp] theorem linkPass_sync (s : State) (l : Nat) : (linkPass l s).sync = s.sync := linkPassN_sync s l 1
@[simp] theorem linkPass_queues (s : State) (l : Nat) : (linkPass l s).queues = s.queues := linkPassN_queues s l 1
@[simp] theorem linkPass_msgs (s : State) (l : Nat) : (linkPass l s).msgs = s.msgs := linkPassN_msgs s l 1
@[simp] theorem linkPass_fab (s : State) (l : Nat) : (linkPass l s).fab = s.fab := linkPassN_fab s l 1
@[simp] theorem linkPass_mem (s : State) (l : Nat) : (linkPass l s).mem = s.mem := linkPassN_mem s l 1
@[simp] theorem linkPass_poison (s : State) (l : Nat) : (linkPass l s).poison = s.poison := linkPassN_poison s l 1
@[simp] theorem linkPass_refuse (s : State) (l : Nat) : (linkPass l s).refuse = s.refuse := linkPassN_refuse s l 1
@[simp] theorem linkPass_nextId (s : State) (l : Nat) : (linkPass l s).nextId = s.nextId := linkPassN_nextId s l 1
@[simp] theorem linkPass_lanes (s : State) (l : Nat) : (linkPass l s).lanes = s.lanes := linkPassN_lanes s l 1
@[simp] theorem linkPass_cyc (s : State) (l : Nat) : (linkPass l s).cyc = s.cyc := linkPassN_cyc s l 1
@[simp] theorem linkPass_reqs (s : State) (l : Nat) : (linkPass l s).reqs = s.reqs := linkPassN_reqs s l 1
@[simp] theorem linkPass_out (s : State) (l : Nat) : (linkPass l s).out = s.out := linkPassN_out s l 1

/-! ## lateRecord -/

@[simp] theorem lateRecord_pending (s : State) (l kind : Nat) (ws : List Word) : (lateRecord l kind ws s).pending = s.pending := rfl
@[simp] theorem lateRecord_variant (s : State) (l kind : Nat) (ws : List Word) : (lateRecord l kind ws s).variant = s.variant := rfl
@[simp] theorem lateRecord_hc (s : State) (l kind : Nat) (ws : List Word) : (lateRecord l kind ws s).hc = s.hc := rfl
@[simp] theorem lateRecord_tb (s : State) (l kind : Nat) (ws : List Word) : (lateRecord l kind ws s).tb = s.tb := rfl
@[simp] theorem lateRecord_tbPhase (s : State) (l kind : Nat) (ws : List Word) : (lateRecord l kind ws s).tbPhase = s.tbPhase := rfl
@[simp] theorem lateRecord_fmhz (s : State) (l kind : Nat) (ws : List Word) : (lateRecord l kind ws s).fmhz = s.fmhz := rfl
@[simp] theorem lateRecord_free (s : State) (l kind : Nat) (ws : List Word) : (lateRecord l kind ws s).free = s.free := rfl
@[simp] theorem lateRecord_regs (s : State) (l kind : Nat) (ws : List Word) : (lateRecord l kind ws s).regs = s.regs := rfl
@[simp] theorem lateRecord_selHost (s : State) (l kind : Nat) (ws : List Word) : (lateRecord l kind ws s).selHost = s.selHost := rfl
@[simp] theorem lateRecord_selMgmt (s : State) (l kind : Nat) (ws : List Word) : (lateRecord l kind ws s).selMgmt = s.selMgmt := rfl
@[simp] theorem lateRecord_glb (s : State) (l kind : Nat) (ws : List Word) : (lateRecord l kind ws s).glb = s.glb := rfl
@[simp] theorem lateRecord_en (s : State) (l kind : Nat) (ws : List Word) : (lateRecord l kind ws s).en = s.en := rfl
@[simp] theorem lateRecord_ctxs (s : State) (l kind : Nat) (ws : List Word) : (lateRecord l kind ws s).ctxs = s.ctxs := rfl
@[simp] theorem lateRecord_templates (s : State) (l kind : Nat) (ws : List Word) : (lateRecord l kind ws s).templates = s.templates := rfl
@[simp] theorem lateRecord_launches (s : State) (l kind : Nat) (ws : List Word) : (lateRecord l kind ws s).launches = s.launches := rfl
@[simp] theorem lateRecord_heldLaunches (s : State) (l kind : Nat) (ws : List Word) : (lateRecord l kind ws s).heldLaunches = s.heldLaunches := rfl
@[simp] theorem lateRecord_hub (s : State) (l kind : Nat) (ws : List Word) : (lateRecord l kind ws s).hub = s.hub := rfl
@[simp] theorem lateRecord_disp (s : State) (l kind : Nat) (ws : List Word) : (lateRecord l kind ws s).disp = s.disp := rfl
@[simp] theorem lateRecord_fold (s : State) (l kind : Nat) (ws : List Word) : (lateRecord l kind ws s).fold = s.fold := rfl
@[simp] theorem lateRecord_rings (s : State) (l kind : Nat) (ws : List Word) : (lateRecord l kind ws s).rings = s.rings := rfl
@[simp] theorem lateRecord_cbs (s : State) (l kind : Nat) (ws : List Word) : (lateRecord l kind ws s).cbs = s.cbs := rfl
@[simp] theorem lateRecord_dmas (s : State) (l kind : Nat) (ws : List Word) : (lateRecord l kind ws s).dmas = s.dmas := rfl
@[simp] theorem lateRecord_dlm (s : State) (l kind : Nat) (ws : List Word) : (lateRecord l kind ws s).dlm = s.dlm := rfl
@[simp] theorem lateRecord_ckpts (s : State) (l kind : Nat) (ws : List Word) : (lateRecord l kind ws s).ckpts = s.ckpts := rfl
@[simp] theorem lateRecord_sync (s : State) (l kind : Nat) (ws : List Word) : (lateRecord l kind ws s).sync = s.sync := rfl
@[simp] theorem lateRecord_queues (s : State) (l kind : Nat) (ws : List Word) : (lateRecord l kind ws s).queues = s.queues := rfl
@[simp] theorem lateRecord_msgs (s : State) (l kind : Nat) (ws : List Word) : (lateRecord l kind ws s).msgs = s.msgs := rfl
@[simp] theorem lateRecord_fab (s : State) (l kind : Nat) (ws : List Word) : (lateRecord l kind ws s).fab = s.fab := rfl
@[simp] theorem lateRecord_mem (s : State) (l kind : Nat) (ws : List Word) : (lateRecord l kind ws s).mem = s.mem := rfl
@[simp] theorem lateRecord_poison (s : State) (l kind : Nat) (ws : List Word) : (lateRecord l kind ws s).poison = s.poison := rfl
@[simp] theorem lateRecord_refuse (s : State) (l kind : Nat) (ws : List Word) : (lateRecord l kind ws s).refuse = s.refuse := rfl
@[simp] theorem lateRecord_nextId (s : State) (l kind : Nat) (ws : List Word) : (lateRecord l kind ws s).nextId = s.nextId := rfl
@[simp] theorem lateRecord_lanes (s : State) (l kind : Nat) (ws : List Word) : (lateRecord l kind ws s).lanes = s.lanes := rfl
@[simp] theorem lateRecord_cyc (s : State) (l kind : Nat) (ws : List Word) : (lateRecord l kind ws s).cyc = s.cyc := rfl
@[simp] theorem lateRecord_reqs (s : State) (l kind : Nat) (ws : List Word) : (lateRecord l kind ws s).reqs = s.reqs := rfl
@[simp] theorem lateRecord_out (s : State) (l kind : Nat) (ws : List Word) : (lateRecord l kind ws s).out = s.out := rfl

/-! ## sendLane -/

@[simp] theorem sendLane_pending (s : State) (req ty : Nat) (r : Rec4) : (sendLane req ty r s).pending = s.pending := (emit_pending (linkPass (0x5000 + req) s) (.lane req ty r)).trans (linkPass_pending s _)
@[simp] theorem sendLane_variant (s : State) (req ty : Nat) (r : Rec4) : (sendLane req ty r s).variant = s.variant := (emit_variant (linkPass (0x5000 + req) s) (.lane req ty r)).trans (linkPass_variant s _)
@[simp] theorem sendLane_hc (s : State) (req ty : Nat) (r : Rec4) : (sendLane req ty r s).hc = s.hc := (emit_hc (linkPass (0x5000 + req) s) (.lane req ty r)).trans (linkPass_hc s _)
@[simp] theorem sendLane_tb (s : State) (req ty : Nat) (r : Rec4) : (sendLane req ty r s).tb = s.tb := (emit_tb (linkPass (0x5000 + req) s) (.lane req ty r)).trans (linkPass_tb s _)
@[simp] theorem sendLane_tbPhase (s : State) (req ty : Nat) (r : Rec4) : (sendLane req ty r s).tbPhase = s.tbPhase := (emit_tbPhase (linkPass (0x5000 + req) s) (.lane req ty r)).trans (linkPass_tbPhase s _)
@[simp] theorem sendLane_fmhz (s : State) (req ty : Nat) (r : Rec4) : (sendLane req ty r s).fmhz = s.fmhz := (emit_fmhz (linkPass (0x5000 + req) s) (.lane req ty r)).trans (linkPass_fmhz s _)
@[simp] theorem sendLane_free (s : State) (req ty : Nat) (r : Rec4) : (sendLane req ty r s).free = s.free := (emit_free (linkPass (0x5000 + req) s) (.lane req ty r)).trans (linkPass_free s _)
@[simp] theorem sendLane_regs (s : State) (req ty : Nat) (r : Rec4) : (sendLane req ty r s).regs = s.regs := (emit_regs (linkPass (0x5000 + req) s) (.lane req ty r)).trans (linkPass_regs s _)
@[simp] theorem sendLane_selHost (s : State) (req ty : Nat) (r : Rec4) : (sendLane req ty r s).selHost = s.selHost := (emit_selHost (linkPass (0x5000 + req) s) (.lane req ty r)).trans (linkPass_selHost s _)
@[simp] theorem sendLane_selMgmt (s : State) (req ty : Nat) (r : Rec4) : (sendLane req ty r s).selMgmt = s.selMgmt := (emit_selMgmt (linkPass (0x5000 + req) s) (.lane req ty r)).trans (linkPass_selMgmt s _)
@[simp] theorem sendLane_glb (s : State) (req ty : Nat) (r : Rec4) : (sendLane req ty r s).glb = s.glb := (emit_glb (linkPass (0x5000 + req) s) (.lane req ty r)).trans (linkPass_glb s _)
@[simp] theorem sendLane_en (s : State) (req ty : Nat) (r : Rec4) : (sendLane req ty r s).en = s.en := (emit_en (linkPass (0x5000 + req) s) (.lane req ty r)).trans (linkPass_en s _)
@[simp] theorem sendLane_ctxs (s : State) (req ty : Nat) (r : Rec4) : (sendLane req ty r s).ctxs = s.ctxs := (emit_ctxs (linkPass (0x5000 + req) s) (.lane req ty r)).trans (linkPass_ctxs s _)
@[simp] theorem sendLane_templates (s : State) (req ty : Nat) (r : Rec4) : (sendLane req ty r s).templates = s.templates := (emit_templates (linkPass (0x5000 + req) s) (.lane req ty r)).trans (linkPass_templates s _)
@[simp] theorem sendLane_launches (s : State) (req ty : Nat) (r : Rec4) : (sendLane req ty r s).launches = s.launches := (emit_launches (linkPass (0x5000 + req) s) (.lane req ty r)).trans (linkPass_launches s _)
@[simp] theorem sendLane_heldLaunches (s : State) (req ty : Nat) (r : Rec4) : (sendLane req ty r s).heldLaunches = s.heldLaunches := (emit_heldLaunches (linkPass (0x5000 + req) s) (.lane req ty r)).trans (linkPass_heldLaunches s _)
@[simp] theorem sendLane_hub (s : State) (req ty : Nat) (r : Rec4) : (sendLane req ty r s).hub = s.hub := (emit_hub (linkPass (0x5000 + req) s) (.lane req ty r)).trans (linkPass_hub s _)
@[simp] theorem sendLane_disp (s : State) (req ty : Nat) (r : Rec4) : (sendLane req ty r s).disp = s.disp := (emit_disp (linkPass (0x5000 + req) s) (.lane req ty r)).trans (linkPass_disp s _)
@[simp] theorem sendLane_fold (s : State) (req ty : Nat) (r : Rec4) : (sendLane req ty r s).fold = s.fold := (emit_fold (linkPass (0x5000 + req) s) (.lane req ty r)).trans (linkPass_fold s _)
@[simp] theorem sendLane_rings (s : State) (req ty : Nat) (r : Rec4) : (sendLane req ty r s).rings = s.rings := (emit_rings (linkPass (0x5000 + req) s) (.lane req ty r)).trans (linkPass_rings s _)
@[simp] theorem sendLane_cbs (s : State) (req ty : Nat) (r : Rec4) : (sendLane req ty r s).cbs = s.cbs := (emit_cbs (linkPass (0x5000 + req) s) (.lane req ty r)).trans (linkPass_cbs s _)
@[simp] theorem sendLane_dmas (s : State) (req ty : Nat) (r : Rec4) : (sendLane req ty r s).dmas = s.dmas := (emit_dmas (linkPass (0x5000 + req) s) (.lane req ty r)).trans (linkPass_dmas s _)
@[simp] theorem sendLane_dlm (s : State) (req ty : Nat) (r : Rec4) : (sendLane req ty r s).dlm = s.dlm := (emit_dlm (linkPass (0x5000 + req) s) (.lane req ty r)).trans (linkPass_dlm s _)
@[simp] theorem sendLane_ckpts (s : State) (req ty : Nat) (r : Rec4) : (sendLane req ty r s).ckpts = s.ckpts := (emit_ckpts (linkPass (0x5000 + req) s) (.lane req ty r)).trans (linkPass_ckpts s _)
@[simp] theorem sendLane_sync (s : State) (req ty : Nat) (r : Rec4) : (sendLane req ty r s).sync = s.sync := (emit_sync (linkPass (0x5000 + req) s) (.lane req ty r)).trans (linkPass_sync s _)
@[simp] theorem sendLane_queues (s : State) (req ty : Nat) (r : Rec4) : (sendLane req ty r s).queues = s.queues := (emit_queues (linkPass (0x5000 + req) s) (.lane req ty r)).trans (linkPass_queues s _)
@[simp] theorem sendLane_msgs (s : State) (req ty : Nat) (r : Rec4) : (sendLane req ty r s).msgs = s.msgs := (emit_msgs (linkPass (0x5000 + req) s) (.lane req ty r)).trans (linkPass_msgs s _)
@[simp] theorem sendLane_fab (s : State) (req ty : Nat) (r : Rec4) : (sendLane req ty r s).fab = s.fab := (emit_fab (linkPass (0x5000 + req) s) (.lane req ty r)).trans (linkPass_fab s _)
@[simp] theorem sendLane_mem (s : State) (req ty : Nat) (r : Rec4) : (sendLane req ty r s).mem = s.mem := (emit_mem (linkPass (0x5000 + req) s) (.lane req ty r)).trans (linkPass_mem s _)
@[simp] theorem sendLane_poison (s : State) (req ty : Nat) (r : Rec4) : (sendLane req ty r s).poison = s.poison := (emit_poison (linkPass (0x5000 + req) s) (.lane req ty r)).trans (linkPass_poison s _)
@[simp] theorem sendLane_refuse (s : State) (req ty : Nat) (r : Rec4) : (sendLane req ty r s).refuse = s.refuse := (emit_refuse (linkPass (0x5000 + req) s) (.lane req ty r)).trans (linkPass_refuse s _)
@[simp] theorem sendLane_nextId (s : State) (req ty : Nat) (r : Rec4) : (sendLane req ty r s).nextId = s.nextId := (emit_nextId (linkPass (0x5000 + req) s) (.lane req ty r)).trans (linkPass_nextId s _)
@[simp] theorem sendLane_lanes (s : State) (req ty : Nat) (r : Rec4) : (sendLane req ty r s).lanes = s.lanes := (emit_lanes (linkPass (0x5000 + req) s) (.lane req ty r)).trans (linkPass_lanes s _)
@[simp] theorem sendLane_cyc (s : State) (req ty : Nat) (r : Rec4) : (sendLane req ty r s).cyc = s.cyc := (emit_cyc (linkPass (0x5000 + req) s) (.lane req ty r)).trans (linkPass_cyc s _)
@[simp] theorem sendLane_reqs (s : State) (req ty : Nat) (r : Rec4) : (sendLane req ty r s).reqs = s.reqs := (emit_reqs (linkPass (0x5000 + req) s) (.lane req ty r)).trans (linkPass_reqs s _)

/-! ## noteCkpt -/

@[simp] theorem noteCkpt_pending (s : State) (ctx serial node src : Nat) : (noteCkpt ctx serial node src s).pending = s.pending := rfl
@[simp] theorem noteCkpt_variant (s : State) (ctx serial node src : Nat) : (noteCkpt ctx serial node src s).variant = s.variant := rfl
@[simp] theorem noteCkpt_hc (s : State) (ctx serial node src : Nat) : (noteCkpt ctx serial node src s).hc = s.hc := rfl
@[simp] theorem noteCkpt_tb (s : State) (ctx serial node src : Nat) : (noteCkpt ctx serial node src s).tb = s.tb := rfl
@[simp] theorem noteCkpt_tbPhase (s : State) (ctx serial node src : Nat) : (noteCkpt ctx serial node src s).tbPhase = s.tbPhase := rfl
@[simp] theorem noteCkpt_fmhz (s : State) (ctx serial node src : Nat) : (noteCkpt ctx serial node src s).fmhz = s.fmhz := rfl
@[simp] theorem noteCkpt_free (s : State) (ctx serial node src : Nat) : (noteCkpt ctx serial node src s).free = s.free := rfl
@[simp] theorem noteCkpt_regs (s : State) (ctx serial node src : Nat) : (noteCkpt ctx serial node src s).regs = s.regs := rfl
@[simp] theorem noteCkpt_selHost (s : State) (ctx serial node src : Nat) : (noteCkpt ctx serial node src s).selHost = s.selHost := rfl
@[simp] theorem noteCkpt_selMgmt (s : State) (ctx serial node src : Nat) : (noteCkpt ctx serial node src s).selMgmt = s.selMgmt := rfl
@[simp] theorem noteCkpt_glb (s : State) (ctx serial node src : Nat) : (noteCkpt ctx serial node src s).glb = s.glb := rfl
@[simp] theorem noteCkpt_en (s : State) (ctx serial node src : Nat) : (noteCkpt ctx serial node src s).en = s.en := rfl
@[simp] theorem noteCkpt_ctxs (s : State) (ctx serial node src : Nat) : (noteCkpt ctx serial node src s).ctxs = s.ctxs := rfl
@[simp] theorem noteCkpt_templates (s : State) (ctx serial node src : Nat) : (noteCkpt ctx serial node src s).templates = s.templates := rfl
@[simp] theorem noteCkpt_launches (s : State) (ctx serial node src : Nat) : (noteCkpt ctx serial node src s).launches = s.launches := rfl
@[simp] theorem noteCkpt_heldLaunches (s : State) (ctx serial node src : Nat) : (noteCkpt ctx serial node src s).heldLaunches = s.heldLaunches := rfl
@[simp] theorem noteCkpt_hub (s : State) (ctx serial node src : Nat) : (noteCkpt ctx serial node src s).hub = s.hub := rfl
@[simp] theorem noteCkpt_disp (s : State) (ctx serial node src : Nat) : (noteCkpt ctx serial node src s).disp = s.disp := rfl
@[simp] theorem noteCkpt_fold (s : State) (ctx serial node src : Nat) : (noteCkpt ctx serial node src s).fold = s.fold := rfl
@[simp] theorem noteCkpt_rings (s : State) (ctx serial node src : Nat) : (noteCkpt ctx serial node src s).rings = s.rings := rfl
@[simp] theorem noteCkpt_cbs (s : State) (ctx serial node src : Nat) : (noteCkpt ctx serial node src s).cbs = s.cbs := rfl
@[simp] theorem noteCkpt_dmas (s : State) (ctx serial node src : Nat) : (noteCkpt ctx serial node src s).dmas = s.dmas := rfl
@[simp] theorem noteCkpt_dlm (s : State) (ctx serial node src : Nat) : (noteCkpt ctx serial node src s).dlm = s.dlm := rfl
@[simp] theorem noteCkpt_sync (s : State) (ctx serial node src : Nat) : (noteCkpt ctx serial node src s).sync = s.sync := rfl
@[simp] theorem noteCkpt_queues (s : State) (ctx serial node src : Nat) : (noteCkpt ctx serial node src s).queues = s.queues := rfl
@[simp] theorem noteCkpt_msgs (s : State) (ctx serial node src : Nat) : (noteCkpt ctx serial node src s).msgs = s.msgs := rfl
@[simp] theorem noteCkpt_fab (s : State) (ctx serial node src : Nat) : (noteCkpt ctx serial node src s).fab = s.fab := rfl
@[simp] theorem noteCkpt_obs (s : State) (ctx serial node src : Nat) : (noteCkpt ctx serial node src s).obs = s.obs := rfl
@[simp] theorem noteCkpt_mem (s : State) (ctx serial node src : Nat) : (noteCkpt ctx serial node src s).mem = s.mem := rfl
@[simp] theorem noteCkpt_poison (s : State) (ctx serial node src : Nat) : (noteCkpt ctx serial node src s).poison = s.poison := rfl
@[simp] theorem noteCkpt_refuse (s : State) (ctx serial node src : Nat) : (noteCkpt ctx serial node src s).refuse = s.refuse := rfl
@[simp] theorem noteCkpt_nextId (s : State) (ctx serial node src : Nat) : (noteCkpt ctx serial node src s).nextId = s.nextId := rfl
@[simp] theorem noteCkpt_lanes (s : State) (ctx serial node src : Nat) : (noteCkpt ctx serial node src s).lanes = s.lanes := rfl
@[simp] theorem noteCkpt_cyc (s : State) (ctx serial node src : Nat) : (noteCkpt ctx serial node src s).cyc = s.cyc := rfl
@[simp] theorem noteCkpt_reqs (s : State) (ctx serial node src : Nat) : (noteCkpt ctx serial node src s).reqs = s.reqs := rfl
@[simp] theorem noteCkpt_out (s : State) (ctx serial node src : Nat) : (noteCkpt ctx serial node src s).out = s.out := rfl

/-! ## removeReady -/

@[simp] theorem removeReady_pending (s : State) (sh n : Nat) : (removeReady sh n s).pending = s.pending := rfl
@[simp] theorem removeReady_variant (s : State) (sh n : Nat) : (removeReady sh n s).variant = s.variant := rfl
@[simp] theorem removeReady_hc (s : State) (sh n : Nat) : (removeReady sh n s).hc = s.hc := rfl
@[simp] theorem removeReady_tb (s : State) (sh n : Nat) : (removeReady sh n s).tb = s.tb := rfl
@[simp] theorem removeReady_tbPhase (s : State) (sh n : Nat) : (removeReady sh n s).tbPhase = s.tbPhase := rfl
@[simp] theorem removeReady_fmhz (s : State) (sh n : Nat) : (removeReady sh n s).fmhz = s.fmhz := rfl
@[simp] theorem removeReady_free (s : State) (sh n : Nat) : (removeReady sh n s).free = s.free := rfl
@[simp] theorem removeReady_regs (s : State) (sh n : Nat) : (removeReady sh n s).regs = s.regs := rfl
@[simp] theorem removeReady_selHost (s : State) (sh n : Nat) : (removeReady sh n s).selHost = s.selHost := rfl
@[simp] theorem removeReady_selMgmt (s : State) (sh n : Nat) : (removeReady sh n s).selMgmt = s.selMgmt := rfl
@[simp] theorem removeReady_glb (s : State) (sh n : Nat) : (removeReady sh n s).glb = s.glb := rfl
@[simp] theorem removeReady_en (s : State) (sh n : Nat) : (removeReady sh n s).en = s.en := rfl
@[simp] theorem removeReady_ctxs (s : State) (sh n : Nat) : (removeReady sh n s).ctxs = s.ctxs := rfl
@[simp] theorem removeReady_templates (s : State) (sh n : Nat) : (removeReady sh n s).templates = s.templates := rfl
@[simp] theorem removeReady_launches (s : State) (sh n : Nat) : (removeReady sh n s).launches = s.launches := rfl
@[simp] theorem removeReady_heldLaunches (s : State) (sh n : Nat) : (removeReady sh n s).heldLaunches = s.heldLaunches := rfl
@[simp] theorem removeReady_disp (s : State) (sh n : Nat) : (removeReady sh n s).disp = s.disp := rfl
@[simp] theorem removeReady_fold (s : State) (sh n : Nat) : (removeReady sh n s).fold = s.fold := rfl
@[simp] theorem removeReady_rings (s : State) (sh n : Nat) : (removeReady sh n s).rings = s.rings := rfl
@[simp] theorem removeReady_cbs (s : State) (sh n : Nat) : (removeReady sh n s).cbs = s.cbs := rfl
@[simp] theorem removeReady_dmas (s : State) (sh n : Nat) : (removeReady sh n s).dmas = s.dmas := rfl
@[simp] theorem removeReady_dlm (s : State) (sh n : Nat) : (removeReady sh n s).dlm = s.dlm := rfl
@[simp] theorem removeReady_ckpts (s : State) (sh n : Nat) : (removeReady sh n s).ckpts = s.ckpts := rfl
@[simp] theorem removeReady_sync (s : State) (sh n : Nat) : (removeReady sh n s).sync = s.sync := rfl
@[simp] theorem removeReady_queues (s : State) (sh n : Nat) : (removeReady sh n s).queues = s.queues := rfl
@[simp] theorem removeReady_msgs (s : State) (sh n : Nat) : (removeReady sh n s).msgs = s.msgs := rfl
@[simp] theorem removeReady_fab (s : State) (sh n : Nat) : (removeReady sh n s).fab = s.fab := rfl
@[simp] theorem removeReady_obs (s : State) (sh n : Nat) : (removeReady sh n s).obs = s.obs := rfl
@[simp] theorem removeReady_mem (s : State) (sh n : Nat) : (removeReady sh n s).mem = s.mem := rfl
@[simp] theorem removeReady_poison (s : State) (sh n : Nat) : (removeReady sh n s).poison = s.poison := rfl
@[simp] theorem removeReady_refuse (s : State) (sh n : Nat) : (removeReady sh n s).refuse = s.refuse := rfl
@[simp] theorem removeReady_nextId (s : State) (sh n : Nat) : (removeReady sh n s).nextId = s.nextId := rfl
@[simp] theorem removeReady_lanes (s : State) (sh n : Nat) : (removeReady sh n s).lanes = s.lanes := rfl
@[simp] theorem removeReady_cyc (s : State) (sh n : Nat) : (removeReady sh n s).cyc = s.cyc := rfl
@[simp] theorem removeReady_reqs (s : State) (sh n : Nat) : (removeReady sh n s).reqs = s.reqs := rfl
@[simp] theorem removeReady_out (s : State) (sh n : Nat) : (removeReady sh n s).out = s.out := rfl

/-! ## endStages -/

@[simp] theorem endStages_pending (s : State) (sh n gen : Nat) : (endStages sh n gen s).pending = s.pending := rfl
@[simp] theorem endStages_variant (s : State) (sh n gen : Nat) : (endStages sh n gen s).variant = s.variant := rfl
@[simp] theorem endStages_hc (s : State) (sh n gen : Nat) : (endStages sh n gen s).hc = s.hc := rfl
@[simp] theorem endStages_tb (s : State) (sh n gen : Nat) : (endStages sh n gen s).tb = s.tb := rfl
@[simp] theorem endStages_tbPhase (s : State) (sh n gen : Nat) : (endStages sh n gen s).tbPhase = s.tbPhase := rfl
@[simp] theorem endStages_fmhz (s : State) (sh n gen : Nat) : (endStages sh n gen s).fmhz = s.fmhz := rfl
@[simp] theorem endStages_free (s : State) (sh n gen : Nat) : (endStages sh n gen s).free = s.free := rfl
@[simp] theorem endStages_regs (s : State) (sh n gen : Nat) : (endStages sh n gen s).regs = s.regs := rfl
@[simp] theorem endStages_selHost (s : State) (sh n gen : Nat) : (endStages sh n gen s).selHost = s.selHost := rfl
@[simp] theorem endStages_selMgmt (s : State) (sh n gen : Nat) : (endStages sh n gen s).selMgmt = s.selMgmt := rfl
@[simp] theorem endStages_glb (s : State) (sh n gen : Nat) : (endStages sh n gen s).glb = s.glb := rfl
@[simp] theorem endStages_en (s : State) (sh n gen : Nat) : (endStages sh n gen s).en = s.en := rfl
@[simp] theorem endStages_ctxs (s : State) (sh n gen : Nat) : (endStages sh n gen s).ctxs = s.ctxs := rfl
@[simp] theorem endStages_templates (s : State) (sh n gen : Nat) : (endStages sh n gen s).templates = s.templates := rfl
@[simp] theorem endStages_launches (s : State) (sh n gen : Nat) : (endStages sh n gen s).launches = s.launches := rfl
@[simp] theorem endStages_heldLaunches (s : State) (sh n gen : Nat) : (endStages sh n gen s).heldLaunches = s.heldLaunches := rfl
@[simp] theorem endStages_hub (s : State) (sh n gen : Nat) : (endStages sh n gen s).hub = s.hub := rfl
@[simp] theorem endStages_fold (s : State) (sh n gen : Nat) : (endStages sh n gen s).fold = s.fold := rfl
@[simp] theorem endStages_rings (s : State) (sh n gen : Nat) : (endStages sh n gen s).rings = s.rings := rfl
@[simp] theorem endStages_cbs (s : State) (sh n gen : Nat) : (endStages sh n gen s).cbs = s.cbs := rfl
@[simp] theorem endStages_dmas (s : State) (sh n gen : Nat) : (endStages sh n gen s).dmas = s.dmas := rfl
@[simp] theorem endStages_dlm (s : State) (sh n gen : Nat) : (endStages sh n gen s).dlm = s.dlm := rfl
@[simp] theorem endStages_ckpts (s : State) (sh n gen : Nat) : (endStages sh n gen s).ckpts = s.ckpts := rfl
@[simp] theorem endStages_sync (s : State) (sh n gen : Nat) : (endStages sh n gen s).sync = s.sync := rfl
@[simp] theorem endStages_queues (s : State) (sh n gen : Nat) : (endStages sh n gen s).queues = s.queues := rfl
@[simp] theorem endStages_msgs (s : State) (sh n gen : Nat) : (endStages sh n gen s).msgs = s.msgs := rfl
@[simp] theorem endStages_fab (s : State) (sh n gen : Nat) : (endStages sh n gen s).fab = s.fab := rfl
@[simp] theorem endStages_obs (s : State) (sh n gen : Nat) : (endStages sh n gen s).obs = s.obs := rfl
@[simp] theorem endStages_mem (s : State) (sh n gen : Nat) : (endStages sh n gen s).mem = s.mem := rfl
@[simp] theorem endStages_poison (s : State) (sh n gen : Nat) : (endStages sh n gen s).poison = s.poison := rfl
@[simp] theorem endStages_refuse (s : State) (sh n gen : Nat) : (endStages sh n gen s).refuse = s.refuse := rfl
@[simp] theorem endStages_nextId (s : State) (sh n gen : Nat) : (endStages sh n gen s).nextId = s.nextId := rfl
@[simp] theorem endStages_lanes (s : State) (sh n gen : Nat) : (endStages sh n gen s).lanes = s.lanes := rfl
@[simp] theorem endStages_cyc (s : State) (sh n gen : Nat) : (endStages sh n gen s).cyc = s.cyc := rfl
@[simp] theorem endStages_reqs (s : State) (sh n gen : Nat) : (endStages sh n gen s).reqs = s.reqs := rfl
@[simp] theorem endStages_out (s : State) (sh n gen : Nat) : (endStages sh n gen s).out = s.out := rfl

/-! ## dropSteep -/

@[simp] theorem dropSteep_pending (s : State) (sh n gen : Nat) : (dropSteep sh n gen s).pending = s.pending := rfl
@[simp] theorem dropSteep_variant (s : State) (sh n gen : Nat) : (dropSteep sh n gen s).variant = s.variant := rfl
@[simp] theorem dropSteep_hc (s : State) (sh n gen : Nat) : (dropSteep sh n gen s).hc = s.hc := rfl
@[simp] theorem dropSteep_tb (s : State) (sh n gen : Nat) : (dropSteep sh n gen s).tb = s.tb := rfl
@[simp] theorem dropSteep_tbPhase (s : State) (sh n gen : Nat) : (dropSteep sh n gen s).tbPhase = s.tbPhase := rfl
@[simp] theorem dropSteep_fmhz (s : State) (sh n gen : Nat) : (dropSteep sh n gen s).fmhz = s.fmhz := rfl
@[simp] theorem dropSteep_free (s : State) (sh n gen : Nat) : (dropSteep sh n gen s).free = s.free := rfl
@[simp] theorem dropSteep_regs (s : State) (sh n gen : Nat) : (dropSteep sh n gen s).regs = s.regs := rfl
@[simp] theorem dropSteep_selHost (s : State) (sh n gen : Nat) : (dropSteep sh n gen s).selHost = s.selHost := rfl
@[simp] theorem dropSteep_selMgmt (s : State) (sh n gen : Nat) : (dropSteep sh n gen s).selMgmt = s.selMgmt := rfl
@[simp] theorem dropSteep_glb (s : State) (sh n gen : Nat) : (dropSteep sh n gen s).glb = s.glb := rfl
@[simp] theorem dropSteep_en (s : State) (sh n gen : Nat) : (dropSteep sh n gen s).en = s.en := rfl
@[simp] theorem dropSteep_ctxs (s : State) (sh n gen : Nat) : (dropSteep sh n gen s).ctxs = s.ctxs := rfl
@[simp] theorem dropSteep_templates (s : State) (sh n gen : Nat) : (dropSteep sh n gen s).templates = s.templates := rfl
@[simp] theorem dropSteep_launches (s : State) (sh n gen : Nat) : (dropSteep sh n gen s).launches = s.launches := rfl
@[simp] theorem dropSteep_heldLaunches (s : State) (sh n gen : Nat) : (dropSteep sh n gen s).heldLaunches = s.heldLaunches := rfl
@[simp] theorem dropSteep_hub (s : State) (sh n gen : Nat) : (dropSteep sh n gen s).hub = s.hub := rfl
@[simp] theorem dropSteep_fold (s : State) (sh n gen : Nat) : (dropSteep sh n gen s).fold = s.fold := rfl
@[simp] theorem dropSteep_rings (s : State) (sh n gen : Nat) : (dropSteep sh n gen s).rings = s.rings := rfl
@[simp] theorem dropSteep_cbs (s : State) (sh n gen : Nat) : (dropSteep sh n gen s).cbs = s.cbs := rfl
@[simp] theorem dropSteep_dmas (s : State) (sh n gen : Nat) : (dropSteep sh n gen s).dmas = s.dmas := rfl
@[simp] theorem dropSteep_dlm (s : State) (sh n gen : Nat) : (dropSteep sh n gen s).dlm = s.dlm := rfl
@[simp] theorem dropSteep_ckpts (s : State) (sh n gen : Nat) : (dropSteep sh n gen s).ckpts = s.ckpts := rfl
@[simp] theorem dropSteep_sync (s : State) (sh n gen : Nat) : (dropSteep sh n gen s).sync = s.sync := rfl
@[simp] theorem dropSteep_queues (s : State) (sh n gen : Nat) : (dropSteep sh n gen s).queues = s.queues := rfl
@[simp] theorem dropSteep_msgs (s : State) (sh n gen : Nat) : (dropSteep sh n gen s).msgs = s.msgs := rfl
@[simp] theorem dropSteep_fab (s : State) (sh n gen : Nat) : (dropSteep sh n gen s).fab = s.fab := rfl
@[simp] theorem dropSteep_obs (s : State) (sh n gen : Nat) : (dropSteep sh n gen s).obs = s.obs := rfl
@[simp] theorem dropSteep_mem (s : State) (sh n gen : Nat) : (dropSteep sh n gen s).mem = s.mem := rfl
@[simp] theorem dropSteep_poison (s : State) (sh n gen : Nat) : (dropSteep sh n gen s).poison = s.poison := rfl
@[simp] theorem dropSteep_refuse (s : State) (sh n gen : Nat) : (dropSteep sh n gen s).refuse = s.refuse := rfl
@[simp] theorem dropSteep_nextId (s : State) (sh n gen : Nat) : (dropSteep sh n gen s).nextId = s.nextId := rfl
@[simp] theorem dropSteep_lanes (s : State) (sh n gen : Nat) : (dropSteep sh n gen s).lanes = s.lanes := rfl
@[simp] theorem dropSteep_cyc (s : State) (sh n gen : Nat) : (dropSteep sh n gen s).cyc = s.cyc := rfl
@[simp] theorem dropSteep_reqs (s : State) (sh n gen : Nat) : (dropSteep sh n gen s).reqs = s.reqs := rfl
@[simp] theorem dropSteep_out (s : State) (sh n gen : Nat) : (dropSteep sh n gen s).out = s.out := rfl

/-! ## freeSlot -/

@[simp] theorem freeSlot_pending (s : State) (sh n : Nat) : (freeSlot sh n s).pending = s.pending := rfl
@[simp] theorem freeSlot_variant (s : State) (sh n : Nat) : (freeSlot sh n s).variant = s.variant := rfl
@[simp] theorem freeSlot_hc (s : State) (sh n : Nat) : (freeSlot sh n s).hc = s.hc := rfl
@[simp] theorem freeSlot_tb (s : State) (sh n : Nat) : (freeSlot sh n s).tb = s.tb := rfl
@[simp] theorem freeSlot_tbPhase (s : State) (sh n : Nat) : (freeSlot sh n s).tbPhase = s.tbPhase := rfl
@[simp] theorem freeSlot_fmhz (s : State) (sh n : Nat) : (freeSlot sh n s).fmhz = s.fmhz := rfl
@[simp] theorem freeSlot_free (s : State) (sh n : Nat) : (freeSlot sh n s).free = s.free := rfl
@[simp] theorem freeSlot_regs (s : State) (sh n : Nat) : (freeSlot sh n s).regs = s.regs := rfl
@[simp] theorem freeSlot_selHost (s : State) (sh n : Nat) : (freeSlot sh n s).selHost = s.selHost := rfl
@[simp] theorem freeSlot_selMgmt (s : State) (sh n : Nat) : (freeSlot sh n s).selMgmt = s.selMgmt := rfl
@[simp] theorem freeSlot_glb (s : State) (sh n : Nat) : (freeSlot sh n s).glb = s.glb := rfl
@[simp] theorem freeSlot_en (s : State) (sh n : Nat) : (freeSlot sh n s).en = s.en := rfl
@[simp] theorem freeSlot_ctxs (s : State) (sh n : Nat) : (freeSlot sh n s).ctxs = s.ctxs := rfl
@[simp] theorem freeSlot_templates (s : State) (sh n : Nat) : (freeSlot sh n s).templates = s.templates := rfl
@[simp] theorem freeSlot_launches (s : State) (sh n : Nat) : (freeSlot sh n s).launches = s.launches := rfl
@[simp] theorem freeSlot_heldLaunches (s : State) (sh n : Nat) : (freeSlot sh n s).heldLaunches = s.heldLaunches := rfl
@[simp] theorem freeSlot_disp (s : State) (sh n : Nat) : (freeSlot sh n s).disp = s.disp := rfl
@[simp] theorem freeSlot_fold (s : State) (sh n : Nat) : (freeSlot sh n s).fold = s.fold := rfl
@[simp] theorem freeSlot_rings (s : State) (sh n : Nat) : (freeSlot sh n s).rings = s.rings := rfl
@[simp] theorem freeSlot_cbs (s : State) (sh n : Nat) : (freeSlot sh n s).cbs = s.cbs := rfl
@[simp] theorem freeSlot_dmas (s : State) (sh n : Nat) : (freeSlot sh n s).dmas = s.dmas := rfl
@[simp] theorem freeSlot_dlm (s : State) (sh n : Nat) : (freeSlot sh n s).dlm = s.dlm := rfl
@[simp] theorem freeSlot_ckpts (s : State) (sh n : Nat) : (freeSlot sh n s).ckpts = s.ckpts := rfl
@[simp] theorem freeSlot_sync (s : State) (sh n : Nat) : (freeSlot sh n s).sync = s.sync := rfl
@[simp] theorem freeSlot_queues (s : State) (sh n : Nat) : (freeSlot sh n s).queues = s.queues := rfl
@[simp] theorem freeSlot_msgs (s : State) (sh n : Nat) : (freeSlot sh n s).msgs = s.msgs := rfl
@[simp] theorem freeSlot_fab (s : State) (sh n : Nat) : (freeSlot sh n s).fab = s.fab := rfl
@[simp] theorem freeSlot_obs (s : State) (sh n : Nat) : (freeSlot sh n s).obs = s.obs := rfl
@[simp] theorem freeSlot_mem (s : State) (sh n : Nat) : (freeSlot sh n s).mem = s.mem := rfl
@[simp] theorem freeSlot_poison (s : State) (sh n : Nat) : (freeSlot sh n s).poison = s.poison := rfl
@[simp] theorem freeSlot_refuse (s : State) (sh n : Nat) : (freeSlot sh n s).refuse = s.refuse := rfl
@[simp] theorem freeSlot_nextId (s : State) (sh n : Nat) : (freeSlot sh n s).nextId = s.nextId := rfl
@[simp] theorem freeSlot_lanes (s : State) (sh n : Nat) : (freeSlot sh n s).lanes = s.lanes := rfl
@[simp] theorem freeSlot_cyc (s : State) (sh n : Nat) : (freeSlot sh n s).cyc = s.cyc := rfl
@[simp] theorem freeSlot_reqs (s : State) (sh n : Nat) : (freeSlot sh n s).reqs = s.reqs := rfl
@[simp] theorem freeSlot_out (s : State) (sh n : Nat) : (freeSlot sh n s).out = s.out := rfl

/-! ## endSteep -/

@[simp] theorem endSteep_pending (s : State) (sh n gen : Nat) : (endSteep sh n gen s).pending = s.pending := rfl
@[simp] theorem endSteep_variant (s : State) (sh n gen : Nat) : (endSteep sh n gen s).variant = s.variant := rfl
@[simp] theorem endSteep_hc (s : State) (sh n gen : Nat) : (endSteep sh n gen s).hc = s.hc := rfl
@[simp] theorem endSteep_tb (s : State) (sh n gen : Nat) : (endSteep sh n gen s).tb = s.tb := rfl
@[simp] theorem endSteep_tbPhase (s : State) (sh n gen : Nat) : (endSteep sh n gen s).tbPhase = s.tbPhase := rfl
@[simp] theorem endSteep_fmhz (s : State) (sh n gen : Nat) : (endSteep sh n gen s).fmhz = s.fmhz := rfl
@[simp] theorem endSteep_free (s : State) (sh n gen : Nat) : (endSteep sh n gen s).free = s.free := rfl
@[simp] theorem endSteep_regs (s : State) (sh n gen : Nat) : (endSteep sh n gen s).regs = s.regs := rfl
@[simp] theorem endSteep_selHost (s : State) (sh n gen : Nat) : (endSteep sh n gen s).selHost = s.selHost := rfl
@[simp] theorem endSteep_selMgmt (s : State) (sh n gen : Nat) : (endSteep sh n gen s).selMgmt = s.selMgmt := rfl
@[simp] theorem endSteep_glb (s : State) (sh n gen : Nat) : (endSteep sh n gen s).glb = s.glb := rfl
@[simp] theorem endSteep_en (s : State) (sh n gen : Nat) : (endSteep sh n gen s).en = s.en := rfl
@[simp] theorem endSteep_ctxs (s : State) (sh n gen : Nat) : (endSteep sh n gen s).ctxs = s.ctxs := rfl
@[simp] theorem endSteep_templates (s : State) (sh n gen : Nat) : (endSteep sh n gen s).templates = s.templates := rfl
@[simp] theorem endSteep_launches (s : State) (sh n gen : Nat) : (endSteep sh n gen s).launches = s.launches := rfl
@[simp] theorem endSteep_heldLaunches (s : State) (sh n gen : Nat) : (endSteep sh n gen s).heldLaunches = s.heldLaunches := rfl
@[simp] theorem endSteep_hub (s : State) (sh n gen : Nat) : (endSteep sh n gen s).hub = s.hub := rfl
@[simp] theorem endSteep_fold (s : State) (sh n gen : Nat) : (endSteep sh n gen s).fold = s.fold := rfl
@[simp] theorem endSteep_rings (s : State) (sh n gen : Nat) : (endSteep sh n gen s).rings = s.rings := rfl
@[simp] theorem endSteep_cbs (s : State) (sh n gen : Nat) : (endSteep sh n gen s).cbs = s.cbs := rfl
@[simp] theorem endSteep_dmas (s : State) (sh n gen : Nat) : (endSteep sh n gen s).dmas = s.dmas := rfl
@[simp] theorem endSteep_dlm (s : State) (sh n gen : Nat) : (endSteep sh n gen s).dlm = s.dlm := rfl
@[simp] theorem endSteep_ckpts (s : State) (sh n gen : Nat) : (endSteep sh n gen s).ckpts = s.ckpts := rfl
@[simp] theorem endSteep_sync (s : State) (sh n gen : Nat) : (endSteep sh n gen s).sync = s.sync := rfl
@[simp] theorem endSteep_queues (s : State) (sh n gen : Nat) : (endSteep sh n gen s).queues = s.queues := rfl
@[simp] theorem endSteep_msgs (s : State) (sh n gen : Nat) : (endSteep sh n gen s).msgs = s.msgs := rfl
@[simp] theorem endSteep_fab (s : State) (sh n gen : Nat) : (endSteep sh n gen s).fab = s.fab := rfl
@[simp] theorem endSteep_obs (s : State) (sh n gen : Nat) : (endSteep sh n gen s).obs = s.obs := rfl
@[simp] theorem endSteep_mem (s : State) (sh n gen : Nat) : (endSteep sh n gen s).mem = s.mem := rfl
@[simp] theorem endSteep_poison (s : State) (sh n gen : Nat) : (endSteep sh n gen s).poison = s.poison := rfl
@[simp] theorem endSteep_refuse (s : State) (sh n gen : Nat) : (endSteep sh n gen s).refuse = s.refuse := rfl
@[simp] theorem endSteep_nextId (s : State) (sh n gen : Nat) : (endSteep sh n gen s).nextId = s.nextId := rfl
@[simp] theorem endSteep_lanes (s : State) (sh n gen : Nat) : (endSteep sh n gen s).lanes = s.lanes := rfl
@[simp] theorem endSteep_cyc (s : State) (sh n gen : Nat) : (endSteep sh n gen s).cyc = s.cyc := rfl
@[simp] theorem endSteep_reqs (s : State) (sh n gen : Nat) : (endSteep sh n gen s).reqs = s.reqs := rfl
@[simp] theorem endSteep_out (s : State) (sh n gen : Nat) : (endSteep sh n gen s).out = s.out := rfl

/-! ## noteFreed -/

@[simp] theorem noteFreed_pending (s : State) (eng : Nat) (preempted : Bool) : (noteFreed eng preempted s).pending = s.pending := rfl
@[simp] theorem noteFreed_variant (s : State) (eng : Nat) (preempted : Bool) : (noteFreed eng preempted s).variant = s.variant := rfl
@[simp] theorem noteFreed_hc (s : State) (eng : Nat) (preempted : Bool) : (noteFreed eng preempted s).hc = s.hc := rfl
@[simp] theorem noteFreed_tb (s : State) (eng : Nat) (preempted : Bool) : (noteFreed eng preempted s).tb = s.tb := rfl
@[simp] theorem noteFreed_tbPhase (s : State) (eng : Nat) (preempted : Bool) : (noteFreed eng preempted s).tbPhase = s.tbPhase := rfl
@[simp] theorem noteFreed_fmhz (s : State) (eng : Nat) (preempted : Bool) : (noteFreed eng preempted s).fmhz = s.fmhz := rfl
@[simp] theorem noteFreed_free (s : State) (eng : Nat) (preempted : Bool) : (noteFreed eng preempted s).free = s.free := rfl
@[simp] theorem noteFreed_regs (s : State) (eng : Nat) (preempted : Bool) : (noteFreed eng preempted s).regs = s.regs := rfl
@[simp] theorem noteFreed_selHost (s : State) (eng : Nat) (preempted : Bool) : (noteFreed eng preempted s).selHost = s.selHost := rfl
@[simp] theorem noteFreed_selMgmt (s : State) (eng : Nat) (preempted : Bool) : (noteFreed eng preempted s).selMgmt = s.selMgmt := rfl
@[simp] theorem noteFreed_glb (s : State) (eng : Nat) (preempted : Bool) : (noteFreed eng preempted s).glb = s.glb := rfl
@[simp] theorem noteFreed_en (s : State) (eng : Nat) (preempted : Bool) : (noteFreed eng preempted s).en = s.en := rfl
@[simp] theorem noteFreed_ctxs (s : State) (eng : Nat) (preempted : Bool) : (noteFreed eng preempted s).ctxs = s.ctxs := rfl
@[simp] theorem noteFreed_templates (s : State) (eng : Nat) (preempted : Bool) : (noteFreed eng preempted s).templates = s.templates := rfl
@[simp] theorem noteFreed_launches (s : State) (eng : Nat) (preempted : Bool) : (noteFreed eng preempted s).launches = s.launches := rfl
@[simp] theorem noteFreed_heldLaunches (s : State) (eng : Nat) (preempted : Bool) : (noteFreed eng preempted s).heldLaunches = s.heldLaunches := rfl
@[simp] theorem noteFreed_hub (s : State) (eng : Nat) (preempted : Bool) : (noteFreed eng preempted s).hub = s.hub := rfl
@[simp] theorem noteFreed_fold (s : State) (eng : Nat) (preempted : Bool) : (noteFreed eng preempted s).fold = s.fold := rfl
@[simp] theorem noteFreed_rings (s : State) (eng : Nat) (preempted : Bool) : (noteFreed eng preempted s).rings = s.rings := rfl
@[simp] theorem noteFreed_cbs (s : State) (eng : Nat) (preempted : Bool) : (noteFreed eng preempted s).cbs = s.cbs := rfl
@[simp] theorem noteFreed_dmas (s : State) (eng : Nat) (preempted : Bool) : (noteFreed eng preempted s).dmas = s.dmas := rfl
@[simp] theorem noteFreed_dlm (s : State) (eng : Nat) (preempted : Bool) : (noteFreed eng preempted s).dlm = s.dlm := rfl
@[simp] theorem noteFreed_ckpts (s : State) (eng : Nat) (preempted : Bool) : (noteFreed eng preempted s).ckpts = s.ckpts := rfl
@[simp] theorem noteFreed_sync (s : State) (eng : Nat) (preempted : Bool) : (noteFreed eng preempted s).sync = s.sync := rfl
@[simp] theorem noteFreed_queues (s : State) (eng : Nat) (preempted : Bool) : (noteFreed eng preempted s).queues = s.queues := rfl
@[simp] theorem noteFreed_msgs (s : State) (eng : Nat) (preempted : Bool) : (noteFreed eng preempted s).msgs = s.msgs := rfl
@[simp] theorem noteFreed_fab (s : State) (eng : Nat) (preempted : Bool) : (noteFreed eng preempted s).fab = s.fab := rfl
@[simp] theorem noteFreed_obs (s : State) (eng : Nat) (preempted : Bool) : (noteFreed eng preempted s).obs = s.obs := rfl
@[simp] theorem noteFreed_mem (s : State) (eng : Nat) (preempted : Bool) : (noteFreed eng preempted s).mem = s.mem := rfl
@[simp] theorem noteFreed_poison (s : State) (eng : Nat) (preempted : Bool) : (noteFreed eng preempted s).poison = s.poison := rfl
@[simp] theorem noteFreed_refuse (s : State) (eng : Nat) (preempted : Bool) : (noteFreed eng preempted s).refuse = s.refuse := rfl
@[simp] theorem noteFreed_nextId (s : State) (eng : Nat) (preempted : Bool) : (noteFreed eng preempted s).nextId = s.nextId := rfl
@[simp] theorem noteFreed_lanes (s : State) (eng : Nat) (preempted : Bool) : (noteFreed eng preempted s).lanes = s.lanes := rfl
@[simp] theorem noteFreed_cyc (s : State) (eng : Nat) (preempted : Bool) : (noteFreed eng preempted s).cyc = s.cyc := rfl
@[simp] theorem noteFreed_reqs (s : State) (eng : Nat) (preempted : Bool) : (noteFreed eng preempted s).reqs = s.reqs := rfl
@[simp] theorem noteFreed_out (s : State) (eng : Nat) (preempted : Bool) : (noteFreed eng preempted s).out = s.out := rfl

/-! ## dropWait -/

@[simp] theorem dropWait_pending (s : State) (ring idx pos : Nat) : (dropWait ring idx pos s).pending = s.pending := rfl
@[simp] theorem dropWait_variant (s : State) (ring idx pos : Nat) : (dropWait ring idx pos s).variant = s.variant := rfl
@[simp] theorem dropWait_hc (s : State) (ring idx pos : Nat) : (dropWait ring idx pos s).hc = s.hc := rfl
@[simp] theorem dropWait_tb (s : State) (ring idx pos : Nat) : (dropWait ring idx pos s).tb = s.tb := rfl
@[simp] theorem dropWait_tbPhase (s : State) (ring idx pos : Nat) : (dropWait ring idx pos s).tbPhase = s.tbPhase := rfl
@[simp] theorem dropWait_fmhz (s : State) (ring idx pos : Nat) : (dropWait ring idx pos s).fmhz = s.fmhz := rfl
@[simp] theorem dropWait_free (s : State) (ring idx pos : Nat) : (dropWait ring idx pos s).free = s.free := rfl
@[simp] theorem dropWait_regs (s : State) (ring idx pos : Nat) : (dropWait ring idx pos s).regs = s.regs := rfl
@[simp] theorem dropWait_selHost (s : State) (ring idx pos : Nat) : (dropWait ring idx pos s).selHost = s.selHost := rfl
@[simp] theorem dropWait_selMgmt (s : State) (ring idx pos : Nat) : (dropWait ring idx pos s).selMgmt = s.selMgmt := rfl
@[simp] theorem dropWait_glb (s : State) (ring idx pos : Nat) : (dropWait ring idx pos s).glb = s.glb := rfl
@[simp] theorem dropWait_en (s : State) (ring idx pos : Nat) : (dropWait ring idx pos s).en = s.en := rfl
@[simp] theorem dropWait_templates (s : State) (ring idx pos : Nat) : (dropWait ring idx pos s).templates = s.templates := rfl
@[simp] theorem dropWait_launches (s : State) (ring idx pos : Nat) : (dropWait ring idx pos s).launches = s.launches := rfl
@[simp] theorem dropWait_heldLaunches (s : State) (ring idx pos : Nat) : (dropWait ring idx pos s).heldLaunches = s.heldLaunches := rfl
@[simp] theorem dropWait_hub (s : State) (ring idx pos : Nat) : (dropWait ring idx pos s).hub = s.hub := rfl
@[simp] theorem dropWait_disp (s : State) (ring idx pos : Nat) : (dropWait ring idx pos s).disp = s.disp := rfl
@[simp] theorem dropWait_fold (s : State) (ring idx pos : Nat) : (dropWait ring idx pos s).fold = s.fold := rfl
@[simp] theorem dropWait_rings (s : State) (ring idx pos : Nat) : (dropWait ring idx pos s).rings = s.rings := rfl
@[simp] theorem dropWait_cbs (s : State) (ring idx pos : Nat) : (dropWait ring idx pos s).cbs = s.cbs := rfl
@[simp] theorem dropWait_dmas (s : State) (ring idx pos : Nat) : (dropWait ring idx pos s).dmas = s.dmas := rfl
@[simp] theorem dropWait_dlm (s : State) (ring idx pos : Nat) : (dropWait ring idx pos s).dlm = s.dlm := rfl
@[simp] theorem dropWait_ckpts (s : State) (ring idx pos : Nat) : (dropWait ring idx pos s).ckpts = s.ckpts := rfl
@[simp] theorem dropWait_queues (s : State) (ring idx pos : Nat) : (dropWait ring idx pos s).queues = s.queues := rfl
@[simp] theorem dropWait_msgs (s : State) (ring idx pos : Nat) : (dropWait ring idx pos s).msgs = s.msgs := rfl
@[simp] theorem dropWait_fab (s : State) (ring idx pos : Nat) : (dropWait ring idx pos s).fab = s.fab := rfl
@[simp] theorem dropWait_obs (s : State) (ring idx pos : Nat) : (dropWait ring idx pos s).obs = s.obs := rfl
@[simp] theorem dropWait_mem (s : State) (ring idx pos : Nat) : (dropWait ring idx pos s).mem = s.mem := rfl
@[simp] theorem dropWait_poison (s : State) (ring idx pos : Nat) : (dropWait ring idx pos s).poison = s.poison := rfl
@[simp] theorem dropWait_refuse (s : State) (ring idx pos : Nat) : (dropWait ring idx pos s).refuse = s.refuse := rfl
@[simp] theorem dropWait_nextId (s : State) (ring idx pos : Nat) : (dropWait ring idx pos s).nextId = s.nextId := rfl
@[simp] theorem dropWait_lanes (s : State) (ring idx pos : Nat) : (dropWait ring idx pos s).lanes = s.lanes := rfl
@[simp] theorem dropWait_cyc (s : State) (ring idx pos : Nat) : (dropWait ring idx pos s).cyc = s.cyc := rfl
@[simp] theorem dropWait_reqs (s : State) (ring idx pos : Nat) : (dropWait ring idx pos s).reqs = s.reqs := rfl
@[simp] theorem dropWait_out (s : State) (ring idx pos : Nat) : (dropWait ring idx pos s).out = s.out := rfl

/-! ## cancelDrop -/

@[simp] theorem cancelDrop_pending (s : State) (sh : Nat) : (cancelDrop sh s).pending = s.pending := rfl
@[simp] theorem cancelDrop_variant (s : State) (sh : Nat) : (cancelDrop sh s).variant = s.variant := rfl
@[simp] theorem cancelDrop_hc (s : State) (sh : Nat) : (cancelDrop sh s).hc = s.hc := rfl
@[simp] theorem cancelDrop_tb (s : State) (sh : Nat) : (cancelDrop sh s).tb = s.tb := rfl
@[simp] theorem cancelDrop_tbPhase (s : State) (sh : Nat) : (cancelDrop sh s).tbPhase = s.tbPhase := rfl
@[simp] theorem cancelDrop_fmhz (s : State) (sh : Nat) : (cancelDrop sh s).fmhz = s.fmhz := rfl
@[simp] theorem cancelDrop_free (s : State) (sh : Nat) : (cancelDrop sh s).free = s.free := rfl
@[simp] theorem cancelDrop_selHost (s : State) (sh : Nat) : (cancelDrop sh s).selHost = s.selHost := rfl
@[simp] theorem cancelDrop_selMgmt (s : State) (sh : Nat) : (cancelDrop sh s).selMgmt = s.selMgmt := rfl
@[simp] theorem cancelDrop_glb (s : State) (sh : Nat) : (cancelDrop sh s).glb = s.glb := rfl
@[simp] theorem cancelDrop_en (s : State) (sh : Nat) : (cancelDrop sh s).en = s.en := rfl
@[simp] theorem cancelDrop_ctxs (s : State) (sh : Nat) : (cancelDrop sh s).ctxs = s.ctxs := rfl
@[simp] theorem cancelDrop_templates (s : State) (sh : Nat) : (cancelDrop sh s).templates = s.templates := rfl
@[simp] theorem cancelDrop_launches (s : State) (sh : Nat) : (cancelDrop sh s).launches = s.launches := rfl
@[simp] theorem cancelDrop_heldLaunches (s : State) (sh : Nat) : (cancelDrop sh s).heldLaunches = s.heldLaunches := rfl
@[simp] theorem cancelDrop_hub (s : State) (sh : Nat) : (cancelDrop sh s).hub = s.hub := rfl
@[simp] theorem cancelDrop_disp (s : State) (sh : Nat) : (cancelDrop sh s).disp = s.disp := rfl
@[simp] theorem cancelDrop_fold (s : State) (sh : Nat) : (cancelDrop sh s).fold = s.fold := rfl
@[simp] theorem cancelDrop_rings (s : State) (sh : Nat) : (cancelDrop sh s).rings = s.rings := rfl
@[simp] theorem cancelDrop_cbs (s : State) (sh : Nat) : (cancelDrop sh s).cbs = s.cbs := rfl
@[simp] theorem cancelDrop_dmas (s : State) (sh : Nat) : (cancelDrop sh s).dmas = s.dmas := rfl
@[simp] theorem cancelDrop_dlm (s : State) (sh : Nat) : (cancelDrop sh s).dlm = s.dlm := rfl
@[simp] theorem cancelDrop_ckpts (s : State) (sh : Nat) : (cancelDrop sh s).ckpts = s.ckpts := rfl
@[simp] theorem cancelDrop_sync (s : State) (sh : Nat) : (cancelDrop sh s).sync = s.sync := rfl
@[simp] theorem cancelDrop_queues (s : State) (sh : Nat) : (cancelDrop sh s).queues = s.queues := rfl
@[simp] theorem cancelDrop_msgs (s : State) (sh : Nat) : (cancelDrop sh s).msgs = s.msgs := rfl
@[simp] theorem cancelDrop_fab (s : State) (sh : Nat) : (cancelDrop sh s).fab = s.fab := rfl
@[simp] theorem cancelDrop_obs (s : State) (sh : Nat) : (cancelDrop sh s).obs = s.obs := rfl
@[simp] theorem cancelDrop_mem (s : State) (sh : Nat) : (cancelDrop sh s).mem = s.mem := rfl
@[simp] theorem cancelDrop_poison (s : State) (sh : Nat) : (cancelDrop sh s).poison = s.poison := rfl
@[simp] theorem cancelDrop_refuse (s : State) (sh : Nat) : (cancelDrop sh s).refuse = s.refuse := rfl
@[simp] theorem cancelDrop_nextId (s : State) (sh : Nat) : (cancelDrop sh s).nextId = s.nextId := rfl
@[simp] theorem cancelDrop_lanes (s : State) (sh : Nat) : (cancelDrop sh s).lanes = s.lanes := rfl
@[simp] theorem cancelDrop_reqs (s : State) (sh : Nat) : (cancelDrop sh s).reqs = s.reqs := rfl
@[simp] theorem cancelDrop_out (s : State) (sh : Nat) : (cancelDrop sh s).out = s.out := rfl

/-! ## Reading after an update -/

@[simp] theorem State.reg_setReg_same (s : State) (k : RegKey) (v : W32) : (s.setReg k v).reg k = v := by
  simp [State.reg, State.setReg]

theorem State.reg_setReg_other (s : State) {k j : RegKey} (v : W32) (h : k ≠ j) : (s.setReg k v).reg j = s.reg j := by
  simp [State.reg, State.setReg, Tab.get_put_other _ _ _ h]

/-- A register reads the same in states with the same bank. -/
theorem State.reg_congr {s t : State} (h : t.regs = s.regs) (k : RegKey) : t.reg k = s.reg k := by
  simp [State.reg, h]

@[simp] theorem State.slot_setSlot_same (s : State) (sh n : Nat) (v : Slot) : (s.setSlot sh n v).slot sh n = v := by
  simp [State.slot, State.setSlot]

theorem State.slot_setSlot_other (s : State) {sh n sh' n' : Nat} (v : Slot) (h : (sh, n) ≠ (sh', n')) :
    (s.setSlot sh n v).slot sh' n' = s.slot sh' n' := by
  simp [State.slot, State.setSlot, Tab.get_put_other _ _ _ h]

@[simp] theorem State.unit_setUnit_same (s : State) (u : UnitId) (e : UnitEn) : (s.setUnit u e).unit u = e := by
  simp [State.unit, State.setUnit]

theorem State.unit_setUnit_other (s : State) {u v : UnitId} (e : UnitEn) (h : u ≠ v) : (s.setUnit u e).unit v = s.unit v := by
  simp [State.unit, State.setUnit, Tab.get_put_other _ _ _ h]

@[simp] theorem State.ctx_setCtx_same (s : State) (n : Nat) (c : Ctx) : (s.setCtx n c).ctx n = c := by
  simp [State.ctx, State.setCtx]

theorem State.ctx_setCtx_other (s : State) {n m : Nat} (c : Ctx) (h : n ≠ m) : (s.setCtx n c).ctx m = s.ctx m := by
  simp [State.ctx, State.setCtx, Tab.get_put_other _ _ _ h]

@[simp] theorem State.template_setTemplate_same (s : State) (ctx tid : Nat) (t : Template) :
    (s.setTemplate ctx tid t).template ctx tid = t := by
  simp [State.template, State.setTemplate]

@[simp] theorem State.engine_setEngine_same (s : State) (e : Nat) (v : Eng) : (s.setEngine e v).engine e = v := by
  simp [State.engine, State.setEngine]

@[simp] theorem State.foldUnit_setFoldUnit_same (s : State) (u : Nat) (v : FoldUnit) : (s.setFoldUnit u v).foldUnit u = v := by
  simp [State.foldUnit, State.setFoldUnit]

@[simp] theorem State.ring_setRing_same (s : State) (r : Nat) (v : Ring) : (s.setRing r v).ring r = v := by
  simp [State.ring, State.setRing]

@[simp] theorem State.queue_setQueue_same (s : State) (i : Nat) (q : Queue) : (s.setQueue i q).queue i = q := by
  simp [State.queue, State.setQueue]

@[simp] theorem State.bar_setBar_same (s : State) (u : Nat) (b : Bar) : (s.setBar u b).bar u = b := by
  simp [State.bar, State.setBar]

@[simp] theorem State.grp_setGrp_same (s : State) (g : Nat) (v : Grp) : (s.setGrp g v).grp g = v := by
  simp [State.grp, State.setGrp]

@[simp] theorem emit_out (o : Out) (s : State) : (emit o s).out = s.out ++ [o] := rfl

@[simp] theorem sendLane_out (req ty : Nat) (r : Rec4) (s : State) : (sendLane req ty r s).out = s.out ++ [.lane req ty r] :=
  congrArg (· ++ [Out.lane req ty r]) (linkPass_out s _)

/-! ## Conditional updates -/

@[simp] theorem ifThen_true (f : State → State) (s : State) : ifThen true f s = f s := rfl

@[simp] theorem ifThen_false (f : State → State) (s : State) : ifThen false f s = s := rfl

@[simp] theorem withSome_some {α : Type} (a : α) (s : State) (f : α → State) : withSome (some a) s f = f a := rfl

@[simp] theorem withSome_none {α : Type} (s : State) (f : α → State) : withSome none s f = s := rfl

/-- A unit's event takes place while the block runs. -/
theorem whenRunning_of_running {s : State} (f : State → State) (h : s.running = true) : whenRunning f s = f s := by
  simp [whenRunning, h]

/-- It leaves the state as it is otherwise. -/
theorem whenRunning_of_not_running {s : State} (f : State → State) (h : s.running = false) : whenRunning f s = s := by
  simp [whenRunning, h]

end Sys2Proof.Machine
end

