-- ==== Sys2Proof/Laws/Ops.lean ====
section
/-! SUPPORT. What each shared operation can change: one lemma `<operation>_only` says it, and the lemmas of single fields follow from
it. A proof about a command cites these and never unfolds the operation. -/

namespace Sys2Proof.Machine

-- One declaration after another: many that wait for each other at once take the memory of as many stacks.
set_option Elab.async false

/-! ## Changes to a list of fields only -/

/-- The fields of the state. -/
inductive SField where
  | pending | variant | hc | tb | tbPhase | fmhz | free | regs | selHost | selMgmt | glb | en
  | ctxs | templates | launches | heldLaunches | hub | disp | fold | rings | cbs | dmas | dlm | ckpts
  | sync | queues | msgs | fab | obs | mem | poison | refuse | nextId | lanes | cyc | reqs
  | out
  deriving DecidableEq

/-- `t` differs from `s` in the fields of `m` at most. -/
structure Only (m : List SField) (s t : State) : Prop where
  pending : SField.pending ∉ m → t.pending = s.pending
  variant : SField.variant ∉ m → t.variant = s.variant
  hc : SField.hc ∉ m → t.hc = s.hc
  tb : SField.tb ∉ m → t.tb = s.tb
  tbPhase : SField.tbPhase ∉ m → t.tbPhase = s.tbPhase
  fmhz : SField.fmhz ∉ m → t.fmhz = s.fmhz
  free : SField.free ∉ m → t.free = s.free
  regs : SField.regs ∉ m → t.regs = s.regs
  selHost : SField.selHost ∉ m → t.selHost = s.selHost
  selMgmt : SField.selMgmt ∉ m → t.selMgmt = s.selMgmt
  glb : SField.glb ∉ m → t.glb = s.glb
  en : SField.en ∉ m → t.en = s.en
  ctxs : SField.ctxs ∉ m → t.ctxs = s.ctxs
  templates : SField.templates ∉ m → t.templates = s.templates
  launches : SField.launches ∉ m → t.launches = s.launches
  heldLaunches : SField.heldLaunches ∉ m → t.heldLaunches = s.heldLaunches
  hub : SField.hub ∉ m → t.hub = s.hub
  disp : SField.disp ∉ m → t.disp = s.disp
  fold : SField.fold ∉ m → t.fold = s.fold
  rings : SField.rings ∉ m → t.rings = s.rings
  cbs : SField.cbs ∉ m → t.cbs = s.cbs
  dmas : SField.dmas ∉ m → t.dmas = s.dmas
  dlm : SField.dlm ∉ m → t.dlm = s.dlm
  ckpts : SField.ckpts ∉ m → t.ckpts = s.ckpts
  sync : SField.sync ∉ m → t.sync = s.sync
  queues : SField.queues ∉ m → t.queues = s.queues
  msgs : SField.msgs ∉ m → t.msgs = s.msgs
  fab : SField.fab ∉ m → t.fab = s.fab
  obs : SField.obs ∉ m → t.obs = s.obs
  mem : SField.mem ∉ m → t.mem = s.mem
  poison : SField.poison ∉ m → t.poison = s.poison
  refuse : SField.refuse ∉ m → t.refuse = s.refuse
  nextId : SField.nextId ∉ m → t.nextId = s.nextId
  lanes : SField.lanes ∉ m → t.lanes = s.lanes
  cyc : SField.cyc ∉ m → t.cyc = s.cyc
  reqs : SField.reqs ∉ m → t.reqs = s.reqs
  out : SField.out ∉ m → t.out = s.out

theorem Only.refl (m : List SField) (s : State) : Only m s s :=
  ⟨fun _ => rfl, fun _ => rfl, fun _ => rfl, fun _ => rfl, fun _ => rfl, fun _ => rfl, fun _ => rfl, fun _ => rfl, fun _ => rfl, fun _ => rfl, fun _ => rfl, fun _ => rfl, fun _ => rfl, fun _ => rfl, fun _ => rfl, fun _ => rfl, fun _ => rfl, fun _ => rfl, fun _ => rfl, fun _ => rfl, fun _ => rfl, fun _ => rfl, fun _ => rfl, fun _ => rfl, fun _ => rfl, fun _ => rfl, fun _ => rfl, fun _ => rfl, fun _ => rfl, fun _ => rfl, fun _ => rfl, fun _ => rfl, fun _ => rfl, fun _ => rfl, fun _ => rfl, fun _ => rfl, fun _ => rfl⟩

theorem Only.trans {m : List SField} {s t u : State} (a : Only m s t) (b : Only m t u) : Only m s u :=
  ⟨fun h => (b.pending h).trans (a.pending h), fun h => (b.variant h).trans (a.variant h), fun h => (b.hc h).trans (a.hc h),
   fun h => (b.tb h).trans (a.tb h), fun h => (b.tbPhase h).trans (a.tbPhase h), fun h => (b.fmhz h).trans (a.fmhz h),
   fun h => (b.free h).trans (a.free h), fun h => (b.regs h).trans (a.regs h), fun h => (b.selHost h).trans (a.selHost h),
   fun h => (b.selMgmt h).trans (a.selMgmt h), fun h => (b.glb h).trans (a.glb h), fun h => (b.en h).trans (a.en h),
   fun h => (b.ctxs h).trans (a.ctxs h), fun h => (b.templates h).trans (a.templates h), fun h => (b.launches h).trans (a.launches h),
   fun h => (b.heldLaunches h).trans (a.heldLaunches h), fun h => (b.hub h).trans (a.hub h), fun h => (b.disp h).trans (a.disp h),
   fun h => (b.fold h).trans (a.fold h), fun h => (b.rings h).trans (a.rings h), fun h => (b.cbs h).trans (a.cbs h),
   fun h => (b.dmas h).trans (a.dmas h), fun h => (b.dlm h).trans (a.dlm h), fun h => (b.ckpts h).trans (a.ckpts h),
   fun h => (b.sync h).trans (a.sync h), fun h => (b.queues h).trans (a.queues h), fun h => (b.msgs h).trans (a.msgs h),
   fun h => (b.fab h).trans (a.fab h), fun h => (b.obs h).trans (a.obs h), fun h => (b.mem h).trans (a.mem h),
   fun h => (b.poison h).trans (a.poison h), fun h => (b.refuse h).trans (a.refuse h), fun h => (b.nextId h).trans (a.nextId h),
   fun h => (b.lanes h).trans (a.lanes h), fun h => (b.cyc h).trans (a.cyc h), fun h => (b.reqs h).trans (a.reqs h),
   fun h => (b.out h).trans (a.out h)⟩

/-- A longer list says less. -/
theorem Only.mono {m m' : List SField} {s t : State} (a : Only m s t) (h : ∀ f ∈ m, f ∈ m' := by decide) : Only m' s t :=
  ⟨fun k => a.pending fun i => k (h _ i), fun k => a.variant fun i => k (h _ i), fun k => a.hc fun i => k (h _ i),
   fun k => a.tb fun i => k (h _ i), fun k => a.tbPhase fun i => k (h _ i), fun k => a.fmhz fun i => k (h _ i),
   fun k => a.free fun i => k (h _ i), fun k => a.regs fun i => k (h _ i), fun k => a.selHost fun i => k (h _ i),
   fun k => a.selMgmt fun i => k (h _ i), fun k => a.glb fun i => k (h _ i), fun k => a.en fun i => k (h _ i),
   fun k => a.ctxs fun i => k (h _ i), fun k => a.templates fun i => k (h _ i), fun k => a.launches fun i => k (h _ i),
   fun k => a.heldLaunches fun i => k (h _ i), fun k => a.hub fun i => k (h _ i), fun k => a.disp fun i => k (h _ i),
   fun k => a.fold fun i => k (h _ i), fun k => a.rings fun i => k (h _ i), fun k => a.cbs fun i => k (h _ i),
   fun k => a.dmas fun i => k (h _ i), fun k => a.dlm fun i => k (h _ i), fun k => a.ckpts fun i => k (h _ i),
   fun k => a.sync fun i => k (h _ i), fun k => a.queues fun i => k (h _ i), fun k => a.msgs fun i => k (h _ i),
   fun k => a.fab fun i => k (h _ i), fun k => a.obs fun i => k (h _ i), fun k => a.mem fun i => k (h _ i),
   fun k => a.poison fun i => k (h _ i), fun k => a.refuse fun i => k (h _ i), fun k => a.nextId fun i => k (h _ i),
   fun k => a.lanes fun i => k (h _ i), fun k => a.cyc fun i => k (h _ i), fun k => a.reqs fun i => k (h _ i),
   fun k => a.out fun i => k (h _ i)⟩

theorem Only.ifThen {m : List SField} {s : State} (c : Bool) {f : State → State} (h : Only m s (f s)) : Only m s (ifThen c f s) := by
  cases c
  · exact Only.refl m s
  · exact h

theorem Only.foldl {α : Type} {m : List SField} (f : State → α → State) (h : ∀ s a, Only m s (f s a)) (l : List α) (s : State) :
    Only m s (l.foldl f s) := by
  induction l generalizing s with
  | nil => exact Only.refl m s
  | cons a t ih => exact (h s a).trans (ih (f s a))

theorem ifThen_field {α : Type} (g : State → α) (c : Bool) (f : State → State) (s : State) (h : g (f s) = g s) :
    g (Machine.ifThen c f s) = g s := by
  cases c <;> simp [Machine.ifThen, h]

/-! ## State.setReg -/

theorem State.setReg_only (s : State) (k : RegKey) (v : W32) : Only [.regs] s (s.setReg k v) :=
    ⟨fun _ => rfl, fun _ => rfl, fun _ => rfl, fun _ => rfl, fun _ => rfl, fun _ => rfl, fun _ => rfl, fun h => absurd (by decide) h, fun _ => rfl, fun _ => rfl, fun _ => rfl, fun _ => rfl, fun _ => rfl, fun _ => rfl, fun _ => rfl, fun _ => rfl, fun _ => rfl, fun _ => rfl, fun _ => rfl, fun _ => rfl, fun _ => rfl, fun _ => rfl, fun _ => rfl, fun _ => rfl, fun _ => rfl, fun _ => rfl, fun _ => rfl, fun _ => rfl, fun _ => rfl, fun _ => rfl, fun _ => rfl, fun _ => rfl, fun _ => rfl, fun _ => rfl, fun _ => rfl, fun _ => rfl, fun _ => rfl⟩

/-! ## noteUpdOf -/

theorem noteUpdOf_only (s : State) (k : RegKey) (was : W32) (f : W32 → W32) : Only [.cyc] s (noteUpdOf k was f s) :=
    ⟨fun _ => rfl, fun _ => rfl, fun _ => rfl, fun _ => rfl, fun _ => rfl, fun _ => rfl, fun _ => rfl, fun _ => rfl, fun _ => rfl, fun _ => rfl, fun _ => rfl, fun _ => rfl, fun _ => rfl, fun _ => rfl, fun _ => rfl, fun _ => rfl, fun _ => rfl, fun _ => rfl, fun _ => rfl, fun _ => rfl, fun _ => rfl, fun _ => rfl, fun _ => rfl, fun _ => rfl, fun _ => rfl, fun _ => rfl, fun _ => rfl, fun _ => rfl, fun _ => rfl, fun _ => rfl, fun _ => rfl, fun _ => rfl, fun _ => rfl, fun _ => rfl, fun h => absurd (by decide) h, fun _ => rfl, fun _ => rfl⟩

/-! ## noteSet -/

theorem noteSet_only (s : State) (k : RegKey) (m : Nat) : Only [.cyc] s (noteSet k m s) :=
    ⟨fun _ => rfl, fun _ => rfl, fun _ => rfl, fun _ => rfl, fun _ => rfl, fun _ => rfl, fun _ => rfl, fun _ => rfl, fun _ => rfl, fun _ => rfl, fun _ => rfl, fun _ => rfl, fun _ => rfl, fun _ => rfl, fun _ => rfl, fun _ => rfl, fun _ => rfl, fun _ => rfl, fun _ => rfl, fun _ => rfl, fun _ => rfl, fun _ => rfl, fun _ => rfl, fun _ => rfl, fun _ => rfl, fun _ => rfl, fun _ => rfl, fun _ => rfl, fun _ => rfl, fun _ => rfl, fun _ => rfl, fun _ => rfl, fun _ => rfl, fun _ => rfl, fun h => absurd (by decide) h, fun _ => rfl, fun _ => rfl⟩

/-! ## noteAcc -/

theorem noteAcc_only (s : State) (a : Access) : Only [.cyc] s (noteAcc a s) :=
    ⟨fun _ => rfl, fun _ => rfl, fun _ => rfl, fun _ => rfl, fun _ => rfl, fun _ => rfl, fun _ => rfl, fun _ => rfl, fun _ => rfl, fun _ => rfl, fun _ => rfl, fun _ => rfl, fun _ => rfl, fun _ => rfl, fun _ => rfl, fun _ => rfl, fun _ => rfl, fun _ => rfl, fun _ => rfl, fun _ => rfl, fun _ => rfl, fun _ => rfl, fun _ => rfl, fun _ => rfl, fun _ => rfl, fun _ => rfl, fun _ => rfl, fun _ => rfl, fun _ => rfl, fun _ => rfl, fun _ => rfl, fun _ => rfl, fun _ => rfl, fun _ => rfl, fun h => absurd (by decide) h, fun _ => rfl, fun _ => rfl⟩

/-! ## bump -/

theorem bump_only (s : State) (k : RegKey) (n : Nat) : Only [.regs, .cyc] s (bump k n s) :=
    ⟨fun _ => rfl, fun _ => rfl, fun _ => rfl, fun _ => rfl, fun _ => rfl, fun _ => rfl, fun _ => rfl, fun h => absurd (by decide) h, fun _ => rfl, fun _ => rfl, fun _ => rfl, fun _ => rfl, fun _ => rfl, fun _ => rfl, fun _ => rfl, fun _ => rfl, fun _ => rfl, fun _ => rfl, fun _ => rfl, fun _ => rfl, fun _ => rfl, fun _ => rfl, fun _ => rfl, fun _ => rfl, fun _ => rfl, fun _ => rfl, fun _ => rfl, fun _ => rfl, fun _ => rfl, fun _ => rfl, fun _ => rfl, fun _ => rfl, fun _ => rfl, fun _ => rfl, fun h => absurd (by decide) h, fun _ => rfl, fun _ => rfl⟩

/-! ## bumpFld -/

theorem bumpFld_only (s : State) (k : RegKey) (hi lo n : Nat) : Only [.regs, .cyc] s (bumpFld k hi lo n s) :=
    ⟨fun _ => rfl, fun _ => rfl, fun _ => rfl, fun _ => rfl, fun _ => rfl, fun _ => rfl, fun _ => rfl, fun h => absurd (by decide) h, fun _ => rfl, fun _ => rfl, fun _ => rfl, fun _ => rfl, fun _ => rfl, fun _ => rfl, fun _ => rfl, fun _ => rfl, fun _ => rfl, fun _ => rfl, fun _ => rfl, fun _ => rfl, fun _ => rfl, fun _ => rfl, fun _ => rfl, fun _ => rfl, fun _ => rfl, fun _ => rfl, fun _ => rfl, fun _ => rfl, fun _ => rfl, fun _ => rfl, fun _ => rfl, fun _ => rfl, fun _ => rfl, fun _ => rfl, fun h => absurd (by decide) h, fun _ => rfl, fun _ => rfl⟩

/-! ## bumpWrap -/

theorem bumpWrap_only (s : State) (k : RegKey) (n : Nat) : Only [.regs, .cyc] s (bumpWrap k n s) :=
    ⟨fun _ => rfl, fun _ => rfl, fun _ => rfl, fun _ => rfl, fun _ => rfl, fun _ => rfl, fun _ => rfl, fun h => absurd (by decide) h, fun _ => rfl, fun _ => rfl, fun _ => rfl, fun _ => rfl, fun _ => rfl, fun _ => rfl, fun _ => rfl, fun _ => rfl, fun _ => rfl, fun _ => rfl, fun _ => rfl, fun _ => rfl, fun _ => rfl, fun _ => rfl, fun _ => rfl, fun _ => rfl, fun _ => rfl, fun _ => rfl, fun _ => rfl, fun _ => rfl, fun _ => rfl, fun _ => rfl, fun _ => rfl, fun _ => rfl, fun _ => rfl, fun _ => rfl, fun h => absurd (by decide) h, fun _ => rfl, fun _ => rfl⟩

/-! ## setBits -/

theorem setBits_only (s : State) (k : RegKey) (m : Nat) : Only [.regs, .cyc] s (setBits k m s) :=
    ⟨fun _ => rfl, fun _ => rfl, fun _ => rfl, fun _ => rfl, fun _ => rfl, fun _ => rfl, fun _ => rfl, fun h => absurd (by decide) h, fun _ => rfl, fun _ => rfl, fun _ => rfl, fun _ => rfl, fun _ => rfl, fun _ => rfl, fun _ => rfl, fun _ => rfl, fun _ => rfl, fun _ => rfl, fun _ => rfl, fun _ => rfl, fun _ => rfl, fun _ => rfl, fun _ => rfl, fun _ => rfl, fun _ => rfl, fun _ => rfl, fun _ => rfl, fun _ => rfl, fun _ => rfl, fun _ => rfl, fun _ => rfl, fun _ => rfl, fun _ => rfl, fun _ => rfl, fun h => absurd (by decide) h, fun _ => rfl, fun _ => rfl⟩

/-! ## emit -/

theorem emit_only (s : State) (o : Out) : Only [.out] s (emit o s) :=
    ⟨fun _ => rfl, fun _ => rfl, fun _ => rfl, fun _ => rfl, fun _ => rfl, fun _ => rfl, fun _ => rfl, fun _ => rfl, fun _ => rfl, fun _ => rfl, fun _ => rfl, fun _ => rfl, fun _ => rfl, fun _ => rfl, fun _ => rfl, fun _ => rfl, fun _ => rfl, fun _ => rfl, fun _ => rfl, fun _ => rfl, fun _ => rfl, fun _ => rfl, fun _ => rfl, fun _ => rfl, fun _ => rfl, fun _ => rfl, fun _ => rfl, fun _ => rfl, fun _ => rfl, fun _ => rfl, fun _ => rfl, fun _ => rfl, fun _ => rfl, fun _ => rfl, fun _ => rfl, fun _ => rfl, fun h => absurd (by decide) h⟩

/-! ## pmc -/

theorem pmc_only (s : State) (unit code : Nat) (ctx : Option Nat) (n : Nat) : Only [.obs] s (pmc unit code ctx n s) :=
    ⟨fun _ => rfl, fun _ => rfl, fun _ => rfl, fun _ => rfl, fun _ => rfl, fun _ => rfl, fun _ => rfl, fun _ => rfl, fun _ => rfl, fun _ => rfl, fun _ => rfl, fun _ => rfl, fun _ => rfl, fun _ => rfl, fun _ => rfl, fun _ => rfl, fun _ => rfl, fun _ => rfl, fun _ => rfl, fun _ => rfl, fun _ => rfl, fun _ => rfl, fun _ => rfl, fun _ => rfl, fun _ => rfl, fun _ => rfl, fun _ => rfl, fun _ => rfl, fun h => absurd (by decide) h, fun _ => rfl, fun _ => rfl, fun _ => rfl, fun _ => rfl, fun _ => rfl, fun _ => rfl, fun _ => rfl, fun _ => rfl⟩

/-! ## linkSent -/

theorem linkSent_only (s : State) (l n : Nat) : Only [.obs] s (linkSent l n s) :=
    ⟨fun _ => rfl, fun _ => rfl, fun _ => rfl, fun _ => rfl, fun _ => rfl, fun _ => rfl, fun _ => rfl, fun _ => rfl, fun _ => rfl, fun _ => rfl, fun _ => rfl, fun _ => rfl, fun _ => rfl, fun _ => rfl, fun _ => rfl, fun _ => rfl, fun _ => rfl, fun _ => rfl, fun _ => rfl, fun _ => rfl, fun _ => rfl, fun _ => rfl, fun _ => rfl, fun _ => rfl, fun _ => rfl, fun _ => rfl, fun _ => rfl, fun _ => rfl, fun h => absurd (by decide) h, fun _ => rfl, fun _ => rfl, fun _ => rfl, fun _ => rfl, fun _ => rfl, fun _ => rfl, fun _ => rfl, fun _ => rfl⟩

/-! ## linkRecv -/

theorem linkRecv_only (s : State) (l n : Nat) : Only [.obs] s (linkRecv l n s) :=
    ⟨fun _ => rfl, fun _ => rfl, fun _ => rfl, fun _ => rfl, fun _ => rfl, fun _ => rfl, fun _ => rfl, fun _ => rfl, fun _ => rfl, fun _ => rfl, fun _ => rfl, fun _ => rfl, fun _ => rfl, fun _ => rfl, fun _ => rfl, fun _ => rfl, fun _ => rfl, fun _ => rfl, fun _ => rfl, fun _ => rfl, fun _ => rfl, fun _ => rfl, fun _ => rfl, fun _ => rfl, fun _ => rfl, fun _ => rfl, fun _ => rfl, fun _ => rfl, fun h => absurd (by decide) h, fun _ => rfl, fun _ => rfl, fun _ => rfl, fun _ => rfl, fun _ => rfl, fun _ => rfl, fun _ => rfl, fun _ => rfl⟩

/-! ## linkPassN -/

theorem linkPassN_only (s : State) (l n : Nat) : Only [.obs] s (linkPassN l n s) :=
    (linkSent_only s l n).trans (linkRecv_only _ l n)

/-! ## linkPass -/

theorem linkPass_only (s : State) (l : Nat) : Only [.obs] s (linkPass l s) :=
    linkPassN_only s l 1

/-! ## sendLane -/

theorem sendLane_only (s : State) (req ty : Nat) (r : Rec4) : Only [.obs, .out] s (sendLane req ty r s) :=
    (linkPass_only s _).mono.trans (emit_only _ _).mono

/-! ## light -/

theorem light_only (s : State) (ctx k n : Nat) : Only [.obs] s (light ctx k n s) := by
  unfold light; split
  · exact ⟨fun _ => rfl, fun _ => rfl, fun _ => rfl, fun _ => rfl, fun _ => rfl, fun _ => rfl, fun _ => rfl, fun _ => rfl, fun _ => rfl, fun _ => rfl, fun _ => rfl, fun _ => rfl, fun _ => rfl, fun _ => rfl, fun _ => rfl, fun _ => rfl, fun _ => rfl, fun _ => rfl, fun _ => rfl, fun _ => rfl, fun _ => rfl, fun _ => rfl, fun _ => rfl, fun _ => rfl, fun _ => rfl, fun _ => rfl, fun _ => rfl, fun _ => rfl, fun h => absurd (by decide) h, fun _ => rfl, fun _ => rfl, fun _ => rfl, fun _ => rfl, fun _ => rfl, fun _ => rfl, fun _ => rfl, fun _ => rfl⟩
  · exact Only.refl _ s

@[simp] theorem light_pending (s : State) (ctx k n : Nat) : (light ctx k n s).pending = s.pending := (light_only s ctx k n).pending (by decide)
@[simp] theorem light_variant (s : State) (ctx k n : Nat) : (light ctx k n s).variant = s.variant := (light_only s ctx k n).variant (by decide)
@[simp] theorem light_hc (s : State) (ctx k n : Nat) : (light ctx k n s).hc = s.hc := (light_only s ctx k n).hc (by decide)
@[simp] theorem light_tb (s : State) (ctx k n : Nat) : (light ctx k n s).tb = s.tb := (light_only s ctx k n).tb (by decide)
@[simp] theorem light_tbPhase (s : State) (ctx k n : Nat) : (light ctx k n s).tbPhase = s.tbPhase := (light_only s ctx k n).tbPhase (by decide)
@[simp] theorem light_fmhz (s : State) (ctx k n : Nat) : (light ctx k n s).fmhz = s.fmhz := (light_only s ctx k n).fmhz (by decide)
@[simp] theorem light_free (s : State) (ctx k n : Nat) : (light ctx k n s).free = s.free := (light_only s ctx k n).free (by decide)
@[simp] theorem light_regs (s : State) (ctx k n : Nat) : (light ctx k n s).regs = s.regs := (light_only s ctx k n).regs (by decide)
@[simp] theorem light_selHost (s : State) (ctx k n : Nat) : (light ctx k n s).selHost = s.selHost := (light_only s ctx k n).selHost (by decide)
@[simp] theorem light_selMgmt (s : State) (ctx k n : Nat) : (light ctx k n s).selMgmt = s.selMgmt := (light_only s ctx k n).selMgmt (by decide)
@[simp] theorem light_glb (s : State) (ctx k n : Nat) : (light ctx k n s).glb = s.glb := (light_only s ctx k n).glb (by decide)
@[simp] theorem light_en (s : State) (ctx k n : Nat) : (light ctx k n s).en = s.en := (light_only s ctx k n).en (by decide)
@[simp] theorem light_ctxs (s : State) (ctx k n : Nat) : (light ctx k n s).ctxs = s.ctxs := (light_only s ctx k n).ctxs (by decide)
@[simp] theorem light_templates (s : State) (ctx k n : Nat) : (light ctx k n s).templates = s.templates := (light_only s ctx k n).templates (by decide)
@[simp] theorem light_launches (s : State) (ctx k n : Nat) : (light ctx k n s).launches = s.launches := (light_only s ctx k n).launches (by decide)
@[simp] theorem light_heldLaunches (s : State) (ctx k n : Nat) : (light ctx k n s).heldLaunches = s.heldLaunches := (light_only s ctx k n).heldLaunches (by decide)
@[simp] theorem light_hub (s : State) (ctx k n : Nat) : (light ctx k n s).hub = s.hub := (light_only s ctx k n).hub (by decide)
@[simp] theorem light_disp (s : State) (ctx k n : Nat) : (light ctx k n s).disp = s.disp := (light_only s ctx k n).disp (by decide)
@[simp] theorem light_fold (s : State) (ctx k n : Nat) : (light ctx k n s).fold = s.fold := (light_only s ctx k n).fold (by decide)
@[simp] theorem light_rings (s : State) (ctx k n : Nat) : (light ctx k n s).rings = s.rings := (light_only s ctx k n).rings (by decide)
@[simp] theorem light_cbs (s : State) (ctx k n : Nat) : (light ctx k n s).cbs = s.cbs := (light_only s ctx k n).cbs (by decide)
@[simp] theorem light_dmas (s : State) (ctx k n : Nat) : (light ctx k n s).dmas = s.dmas := (light_only s ctx k n).dmas (by decide)
@[simp] theorem light_dlm (s : State) (ctx k n : Nat) : (light ctx k n s).dlm = s.dlm := (light_only s ctx k n).dlm (by decide)
@[simp] theorem light_ckpts (s : State) (ctx k n : Nat) : (light ctx k n s).ckpts = s.ckpts := (light_only s ctx k n).ckpts (by decide)
@[simp] theorem light_sync (s : State) (ctx k n : Nat) : (light ctx k n s).sync = s.sync := (light_only s ctx k n).sync (by decide)
@[simp] theorem light_queues (s : State) (ctx k n : Nat) : (light ctx k n s).queues = s.queues := (light_only s ctx k n).queues (by decide)
@[simp] theorem light_msgs (s : State) (ctx k n : Nat) : (light ctx k n s).msgs = s.msgs := (light_only s ctx k n).msgs (by decide)
@[simp] theorem light_fab (s : State) (ctx k n : Nat) : (light ctx k n s).fab = s.fab := (light_only s ctx k n).fab (by decide)
@[simp] theorem light_mem (s : State) (ctx k n : Nat) : (light ctx k n s).mem = s.mem := (light_only s ctx k n).mem (by decide)
@[simp] theorem light_poison (s : State) (ctx k n : Nat) : (light ctx k n s).poison = s.poison := (light_only s ctx k n).poison (by decide)
@[simp] theorem light_refuse (s : State) (ctx k n : Nat) : (light ctx k n s).refuse = s.refuse := (light_only s ctx k n).refuse (by decide)
@[simp] theorem light_nextId (s : State) (ctx k n : Nat) : (light ctx k n s).nextId = s.nextId := (light_only s ctx k n).nextId (by decide)
@[simp] theorem light_lanes (s : State) (ctx k n : Nat) : (light ctx k n s).lanes = s.lanes := (light_only s ctx k n).lanes (by decide)
@[simp] theorem light_cyc (s : State) (ctx k n : Nat) : (light ctx k n s).cyc = s.cyc := (light_only s ctx k n).cyc (by decide)
@[simp] theorem light_reqs (s : State) (ctx k n : Nat) : (light ctx k n s).reqs = s.reqs := (light_only s ctx k n).reqs (by decide)
@[simp] theorem light_out (s : State) (ctx k n : Nat) : (light ctx k n s).out = s.out := (light_only s ctx k n).out (by decide)

/-! ## sendMsix -/

theorem sendMsix_only (s : State) (v : Nat) : Only [.out, .cyc] s (sendMsix v s) := by
  unfold sendMsix; split
  · exact Only.refl _ s
  · exact ⟨fun _ => rfl, fun _ => rfl, fun _ => rfl, fun _ => rfl, fun _ => rfl, fun _ => rfl, fun _ => rfl, fun _ => rfl, fun _ => rfl, fun _ => rfl, fun _ => rfl, fun _ => rfl, fun _ => rfl, fun _ => rfl, fun _ => rfl, fun _ => rfl, fun _ => rfl, fun _ => rfl, fun _ => rfl, fun _ => rfl, fun _ => rfl, fun _ => rfl, fun _ => rfl, fun _ => rfl, fun _ => rfl, fun _ => rfl, fun _ => rfl, fun _ => rfl, fun _ => rfl, fun _ => rfl, fun _ => rfl, fun _ => rfl, fun _ => rfl, fun _ => rfl, fun h => absurd (by decide) h, fun _ => rfl, fun h => absurd (by decide) h⟩

@[simp] theorem sendMsix_pending (s : State) (v : Nat) : (sendMsix v s).pending = s.pending := (sendMsix_only s v).pending (by decide)
@[simp] theorem sendMsix_variant (s : State) (v : Nat) : (sendMsix v s).variant = s.variant := (sendMsix_only s v).variant (by decide)
@[simp] theorem sendMsix_hc (s : State) (v : Nat) : (sendMsix v s).hc = s.hc := (sendMsix_only s v).hc (by decide)
@[simp] theorem sendMsix_tb (s : State) (v : Nat) : (sendMsix v s).tb = s.tb := (sendMsix_only s v).tb (by decide)
@[simp] theorem sendMsix_tbPhase (s : State) (v : Nat) : (sendMsix v s).tbPhase = s.tbPhase := (sendMsix_only s v).tbPhase (by decide)
@[simp] theorem sendMsix_fmhz (s : State) (v : Nat) : (sendMsix v s).fmhz = s.fmhz := (sendMsix_only s v).fmhz (by decide)
@[simp] theorem sendMsix_free (s : State) (v : Nat) : (sendMsix v s).free = s.free := (sendMsix_only s v).free (by decide)
@[simp] theorem sendMsix_regs (s : State) (v : Nat) : (sendMsix v s).regs = s.regs := (sendMsix_only s v).regs (by decide)
@[simp] theorem sendMsix_selHost (s : State) (v : Nat) : (sendMsix v s).selHost = s.selHost := (sendMsix_only s v).selHost (by decide)
@[simp] theorem sendMsix_selMgmt (s : State) (v : Nat) : (sendMsix v s).selMgmt = s.selMgmt := (sendMsix_only s v).selMgmt (by decide)
@[simp] theorem sendMsix_glb (s : State) (v : Nat) : (sendMsix v s).glb = s.glb := (sendMsix_only s v).glb (by decide)
@[simp] theorem sendMsix_en (s : State) (v : Nat) : (sendMsix v s).en = s.en := (sendMsix_only s v).en (by decide)
@[simp] theorem sendMsix_ctxs (s : State) (v : Nat) : (sendMsix v s).ctxs = s.ctxs := (sendMsix_only s v).ctxs (by decide)
@[simp] theorem sendMsix_templates (s : State) (v : Nat) : (sendMsix v s).templates = s.templates := (sendMsix_only s v).templates (by decide)
@[simp] theorem sendMsix_launches (s : State) (v : Nat) : (sendMsix v s).launches = s.launches := (sendMsix_only s v).launches (by decide)
@[simp] theorem sendMsix_heldLaunches (s : State) (v : Nat) : (sendMsix v s).heldLaunches = s.heldLaunches := (sendMsix_only s v).heldLaunches (by decide)
@[simp] theorem sendMsix_hub (s : State) (v : Nat) : (sendMsix v s).hub = s.hub := (sendMsix_only s v).hub (by decide)
@[simp] theorem sendMsix_disp (s : State) (v : Nat) : (sendMsix v s).disp = s.disp := (sendMsix_only s v).disp (by decide)
@[simp] theorem sendMsix_fold (s : State) (v : Nat) : (sendMsix v s).fold = s.fold := (sendMsix_only s v).fold (by decide)
@[simp] theorem sendMsix_rings (s : State) (v : Nat) : (sendMsix v s).rings = s.rings := (sendMsix_only s v).rings (by decide)
@[simp] theorem sendMsix_cbs (s : State) (v : Nat) : (sendMsix v s).cbs = s.cbs := (sendMsix_only s v).cbs (by decide)
@[simp] theorem sendMsix_dmas (s : State) (v : Nat) : (sendMsix v s).dmas = s.dmas := (sendMsix_only s v).dmas (by decide)
@[simp] theorem sendMsix_dlm (s : State) (v : Nat) : (sendMsix v s).dlm = s.dlm := (sendMsix_only s v).dlm (by decide)
@[simp] theorem sendMsix_ckpts (s : State) (v : Nat) : (sendMsix v s).ckpts = s.ckpts := (sendMsix_only s v).ckpts (by decide)
@[simp] theorem sendMsix_sync (s : State) (v : Nat) : (sendMsix v s).sync = s.sync := (sendMsix_only s v).sync (by decide)
@[simp] theorem sendMsix_queues (s : State) (v : Nat) : (sendMsix v s).queues = s.queues := (sendMsix_only s v).queues (by decide)
@[simp] theorem sendMsix_msgs (s : State) (v : Nat) : (sendMsix v s).msgs = s.msgs := (sendMsix_only s v).msgs (by decide)
@[simp] theorem sendMsix_fab (s : State) (v : Nat) : (sendMsix v s).fab = s.fab := (sendMsix_only s v).fab (by decide)
@[simp] theorem sendMsix_obs (s : State) (v : Nat) : (sendMsix v s).obs = s.obs := (sendMsix_only s v).obs (by decide)
@[simp] theorem sendMsix_mem (s : State) (v : Nat) : (sendMsix v s).mem = s.mem := (sendMsix_only s v).mem (by decide)
@[simp] theorem sendMsix_poison (s : State) (v : Nat) : (sendMsix v s).poison = s.poison := (sendMsix_only s v).poison (by decide)
@[simp] theorem sendMsix_refuse (s : State) (v : Nat) : (sendMsix v s).refuse = s.refuse := (sendMsix_only s v).refuse (by decide)
@[simp] theorem sendMsix_nextId (s : State) (v : Nat) : (sendMsix v s).nextId = s.nextId := (sendMsix_only s v).nextId (by decide)
@[simp] theorem sendMsix_lanes (s : State) (v : Nat) : (sendMsix v s).lanes = s.lanes := (sendMsix_only s v).lanes (by decide)
@[simp] theorem sendMsix_reqs (s : State) (v : Nat) : (sendMsix v s).reqs = s.reqs := (sendMsix_only s v).reqs (by decide)

/-! ## msix -/

theorem msix_only (s : State) (v : Nat) : Only [.out, .cyc] s (msix v s) := by
  unfold msix; split
  · exact sendMsix_only s v
  · exact Only.refl _ s

@[simp] theorem msix_pending (s : State) (v : Nat) : (msix v s).pending = s.pending := (msix_only s v).pending (by decide)
@[simp] theorem msix_variant (s : State) (v : Nat) : (msix v s).variant = s.variant := (msix_only s v).variant (by decide)
@[simp] theorem msix_hc (s : State) (v : Nat) : (msix v s).hc = s.hc := (msix_only s v).hc (by decide)
@[simp] theorem msix_tb (s : State) (v : Nat) : (msix v s).tb = s.tb := (msix_only s v).tb (by decide)
@[simp] theorem msix_tbPhase (s : State) (v : Nat) : (msix v s).tbPhase = s.tbPhase := (msix_only s v).tbPhase (by decide)
@[simp] theorem msix_fmhz (s : State) (v : Nat) : (msix v s).fmhz = s.fmhz := (msix_only s v).fmhz (by decide)
@[simp] theorem msix_free (s : State) (v : Nat) : (msix v s).free = s.free := (msix_only s v).free (by decide)
@[simp] theorem msix_regs (s : State) (v : Nat) : (msix v s).regs = s.regs := (msix_only s v).regs (by decide)
@[simp] theorem msix_selHost (s : State) (v : Nat) : (msix v s).selHost = s.selHost := (msix_only s v).selHost (by decide)
@[simp] theorem msix_selMgmt (s : State) (v : Nat) : (msix v s).selMgmt = s.selMgmt := (msix_only s v).selMgmt (by decide)
@[simp] theorem msix_glb (s : State) (v : Nat) : (msix v s).glb = s.glb := (msix_only s v).glb (by decide)
@[simp] theorem msix_en (s : State) (v : Nat) : (msix v s).en = s.en := (msix_only s v).en (by decide)
@[simp] theorem msix_ctxs (s : State) (v : Nat) : (msix v s).ctxs = s.ctxs := (msix_only s v).ctxs (by decide)
@[simp] theorem msix_templates (s : State) (v : Nat) : (msix v s).templates = s.templates := (msix_only s v).templates (by decide)
@[simp] theorem msix_launches (s : State) (v : Nat) : (msix v s).launches = s.launches := (msix_only s v).launches (by decide)
@[simp] theorem msix_heldLaunches (s : State) (v : Nat) : (msix v s).heldLaunches = s.heldLaunches := (msix_only s v).heldLaunches (by decide)
@[simp] theorem msix_hub (s : State) (v : Nat) : (msix v s).hub = s.hub := (msix_only s v).hub (by decide)
@[simp] theorem msix_disp (s : State) (v : Nat) : (msix v s).disp = s.disp := (msix_only s v).disp (by decide)
@[simp] theorem msix_fold (s : State) (v : Nat) : (msix v s).fold = s.fold := (msix_only s v).fold (by decide)
@[simp] theorem msix_rings (s : State) (v : Nat) : (msix v s).rings = s.rings := (msix_only s v).rings (by decide)
@[simp] theorem msix_cbs (s : State) (v : Nat) : (msix v s).cbs = s.cbs := (msix_only s v).cbs (by decide)
@[simp] theorem msix_dmas (s : State) (v : Nat) : (msix v s).dmas = s.dmas := (msix_only s v).dmas (by decide)
@[simp] theorem msix_dlm (s : State) (v : Nat) : (msix v s).dlm = s.dlm := (msix_only s v).dlm (by decide)
@[simp] theorem msix_ckpts (s : State) (v : Nat) : (msix v s).ckpts = s.ckpts := (msix_only s v).ckpts (by decide)
@[simp] theorem msix_sync (s : State) (v : Nat) : (msix v s).sync = s.sync := (msix_only s v).sync (by decide)
@[simp] theorem msix_queues (s : State) (v : Nat) : (msix v s).queues = s.queues := (msix_only s v).queues (by decide)
@[simp] theorem msix_msgs (s : State) (v : Nat) : (msix v s).msgs = s.msgs := (msix_only s v).msgs (by decide)
@[simp] theorem msix_fab (s : State) (v : Nat) : (msix v s).fab = s.fab := (msix_only s v).fab (by decide)
@[simp] theorem msix_obs (s : State) (v : Nat) : (msix v s).obs = s.obs := (msix_only s v).obs (by decide)
@[simp] theorem msix_mem (s : State) (v : Nat) : (msix v s).mem = s.mem := (msix_only s v).mem (by decide)
@[simp] theorem msix_poison (s : State) (v : Nat) : (msix v s).poison = s.poison := (msix_only s v).poison (by decide)
@[simp] theorem msix_refuse (s : State) (v : Nat) : (msix v s).refuse = s.refuse := (msix_only s v).refuse (by decide)
@[simp] theorem msix_nextId (s : State) (v : Nat) : (msix v s).nextId = s.nextId := (msix_only s v).nextId (by decide)
@[simp] theorem msix_lanes (s : State) (v : Nat) : (msix v s).lanes = s.lanes := (msix_only s v).lanes (by decide)
@[simp] theorem msix_reqs (s : State) (v : Nat) : (msix v s).reqs = s.reqs := (msix_only s v).reqs (by decide)

/-! ## errVector -/

theorem errVector_only (s : State) : Only [.out, .glb, .cyc] s (errVector s) := by
  have hold : ∀ g : Glb, Only [.out, .glb, .cyc] s { s with glb := g } := fun g =>
    ⟨fun _ => rfl, fun _ => rfl, fun _ => rfl, fun _ => rfl, fun _ => rfl, fun _ => rfl, fun _ => rfl, fun _ => rfl, fun _ => rfl, fun _ => rfl, fun h => absurd (by decide) h, fun _ => rfl, fun _ => rfl, fun _ => rfl, fun _ => rfl, fun _ => rfl, fun _ => rfl, fun _ => rfl, fun _ => rfl, fun _ => rfl, fun _ => rfl, fun _ => rfl, fun _ => rfl, fun _ => rfl, fun _ => rfl, fun _ => rfl, fun _ => rfl, fun _ => rfl, fun _ => rfl, fun _ => rfl, fun _ => rfl, fun _ => rfl, fun _ => rfl, fun _ => rfl, fun h => absurd (by decide) h, fun _ => rfl, fun h => absurd (by decide) h⟩
  unfold errVector; repeat' split
  · exact (hold _).trans (sendMsix_only _ _).mono
  · exact hold _
  · exact Only.refl _ s

@[simp] theorem errVector_pending (s : State) : (errVector s).pending = s.pending := (errVector_only s).pending (by decide)
@[simp] theorem errVector_variant (s : State) : (errVector s).variant = s.variant := (errVector_only s).variant (by decide)
@[simp] theorem errVector_hc (s : State) : (errVector s).hc = s.hc := (errVector_only s).hc (by decide)
@[simp] theorem errVector_tb (s : State) : (errVector s).tb = s.tb := (errVector_only s).tb (by decide)
@[simp] theorem errVector_tbPhase (s : State) : (errVector s).tbPhase = s.tbPhase := (errVector_only s).tbPhase (by decide)
@[simp] theorem errVector_fmhz (s : State) : (errVector s).fmhz = s.fmhz := (errVector_only s).fmhz (by decide)
@[simp] theorem errVector_free (s : State) : (errVector s).free = s.free := (errVector_only s).free (by decide)
@[simp] theorem errVector_regs (s : State) : (errVector s).regs = s.regs := (errVector_only s).regs (by decide)
@[simp] theorem errVector_selHost (s : State) : (errVector s).selHost = s.selHost := (errVector_only s).selHost (by decide)
@[simp] theorem errVector_selMgmt (s : State) : (errVector s).selMgmt = s.selMgmt := (errVector_only s).selMgmt (by decide)
@[simp] theorem errVector_en (s : State) : (errVector s).en = s.en := (errVector_only s).en (by decide)
@[simp] theorem errVector_ctxs (s : State) : (errVector s).ctxs = s.ctxs := (errVector_only s).ctxs (by decide)
@[simp] theorem errVector_templates (s : State) : (errVector s).templates = s.templates := (errVector_only s).templates (by decide)
@[simp] theorem errVector_launches (s : State) : (errVector s).launches = s.launches := (errVector_only s).launches (by decide)
@[simp] theorem errVector_heldLaunches (s : State) : (errVector s).heldLaunches = s.heldLaunches := (errVector_only s).heldLaunches (by decide)
@[simp] theorem errVector_hub (s : State) : (errVector s).hub = s.hub := (errVector_only s).hub (by decide)
@[simp] theorem errVector_disp (s : State) : (errVector s).disp = s.disp := (errVector_only s).disp (by decide)
@[simp] theorem errVector_fold (s : State) : (errVector s).fold = s.fold := (errVector_only s).fold (by decide)
@[simp] theorem errVector_rings (s : State) : (errVector s).rings = s.rings := (errVector_only s).rings (by decide)
@[simp] theorem errVector_cbs (s : State) : (errVector s).cbs = s.cbs := (errVector_only s).cbs (by decide)
@[simp] theorem errVector_dmas (s : State) : (errVector s).dmas = s.dmas := (errVector_only s).dmas (by decide)
@[simp] theorem errVector_dlm (s : State) : (errVector s).dlm = s.dlm := (errVector_only s).dlm (by decide)
@[simp] theorem errVector_ckpts (s : State) : (errVector s).ckpts = s.ckpts := (errVector_only s).ckpts (by decide)
@[simp] theorem errVector_sync (s : State) : (errVector s).sync = s.sync := (errVector_only s).sync (by decide)
@[simp] theorem errVector_queues (s : State) : (errVector s).queues = s.queues := (errVector_only s).queues (by decide)
@[simp] theorem errVector_msgs (s : State) : (errVector s).msgs = s.msgs := (errVector_only s).msgs (by decide)
@[simp] theorem errVector_fab (s : State) : (errVector s).fab = s.fab := (errVector_only s).fab (by decide)
@[simp] theorem errVector_obs (s : State) : (errVector s).obs = s.obs := (errVector_only s).obs (by decide)
@[simp] theorem errVector_mem (s : State) : (errVector s).mem = s.mem := (errVector_only s).mem (by decide)
@[simp] theorem errVector_poison (s : State) : (errVector s).poison = s.poison := (errVector_only s).poison (by decide)
@[simp] theorem errVector_refuse (s : State) : (errVector s).refuse = s.refuse := (errVector_only s).refuse (by decide)
@[simp] theorem errVector_nextId (s : State) : (errVector s).nextId = s.nextId := (errVector_only s).nextId (by decide)
@[simp] theorem errVector_lanes (s : State) : (errVector s).lanes = s.lanes := (errVector_only s).lanes (by decide)
@[simp] theorem errVector_reqs (s : State) : (errVector s).reqs = s.reqs := (errVector_only s).reqs (by decide)

/-! ## irqCause -/

theorem irqCause_only (s : State) (c : Nat) : Only [.regs, .out, .glb, .cyc] s (irqCause c s) := by
  have h : Only [.regs, .out, .glb, .cyc] s (setBits K.IRQ_CAUSE (2 ^ c) s) := (setBits_only s _ _).mono
  unfold irqCause; dsimp only
  split
  · split
    · exact h.trans (errVector_only _).mono
    · exact h.trans (msix_only _ _).mono
  · exact h

@[simp] theorem irqCause_pending (s : State) (c : Nat) : (irqCause c s).pending = s.pending := (irqCause_only s c).pending (by decide)
@[simp] theorem irqCause_variant (s : State) (c : Nat) : (irqCause c s).variant = s.variant := (irqCause_only s c).variant (by decide)
@[simp] theorem irqCause_hc (s : State) (c : Nat) : (irqCause c s).hc = s.hc := (irqCause_only s c).hc (by decide)
@[simp] theorem irqCause_tb (s : State) (c : Nat) : (irqCause c s).tb = s.tb := (irqCause_only s c).tb (by decide)
@[simp] theorem irqCause_tbPhase (s : State) (c : Nat) : (irqCause c s).tbPhase = s.tbPhase := (irqCause_only s c).tbPhase (by decide)
@[simp] theorem irqCause_fmhz (s : State) (c : Nat) : (irqCause c s).fmhz = s.fmhz := (irqCause_only s c).fmhz (by decide)
@[simp] theorem irqCause_free (s : State) (c : Nat) : (irqCause c s).free = s.free := (irqCause_only s c).free (by decide)
@[simp] theorem irqCause_selHost (s : State) (c : Nat) : (irqCause c s).selHost = s.selHost := (irqCause_only s c).selHost (by decide)
@[simp] theorem irqCause_selMgmt (s : State) (c : Nat) : (irqCause c s).selMgmt = s.selMgmt := (irqCause_only s c).selMgmt (by decide)
@[simp] theorem irqCause_en (s : State) (c : Nat) : (irqCause c s).en = s.en := (irqCause_only s c).en (by decide)
@[simp] theorem irqCause_ctxs (s : State) (c : Nat) : (irqCause c s).ctxs = s.ctxs := (irqCause_only s c).ctxs (by decide)
@[simp] theorem irqCause_templates (s : State) (c : Nat) : (irqCause c s).templates = s.templates := (irqCause_only s c).templates (by decide)
@[simp] theorem irqCause_launches (s : State) (c : Nat) : (irqCause c s).launches = s.launches := (irqCause_only s c).launches (by decide)
@[simp] theorem irqCause_heldLaunches (s : State) (c : Nat) : (irqCause c s).heldLaunches = s.heldLaunches := (irqCause_only s c).heldLaunches (by decide)
@[simp] theorem irqCause_hub (s : State) (c : Nat) : (irqCause c s).hub = s.hub := (irqCause_only s c).hub (by decide)
@[simp] theorem irqCause_disp (s : State) (c : Nat) : (irqCause c s).disp = s.disp := (irqCause_only s c).disp (by decide)
@[simp] theorem irqCause_fold (s : State) (c : Nat) : (irqCause c s).fold = s.fold := (irqCause_only s c).fold (by decide)
@[simp] theorem irqCause_rings (s : State) (c : Nat) : (irqCause c s).rings = s.rings := (irqCause_only s c).rings (by decide)
@[simp] theorem irqCause_cbs (s : State) (c : Nat) : (irqCause c s).cbs = s.cbs := (irqCause_only s c).cbs (by decide)
@[simp] theorem irqCause_dmas (s : State) (c : Nat) : (irqCause c s).dmas = s.dmas := (irqCause_only s c).dmas (by decide)
@[simp] theorem irqCause_dlm (s : State) (c : Nat) : (irqCause c s).dlm = s.dlm := (irqCause_only s c).dlm (by decide)
@[simp] theorem irqCause_ckpts (s : State) (c : Nat) : (irqCause c s).ckpts = s.ckpts := (irqCause_only s c).ckpts (by decide)
@[simp] theorem irqCause_sync (s : State) (c : Nat) : (irqCause c s).sync = s.sync := (irqCause_only s c).sync (by decide)
@[simp] theorem irqCause_queues (s : State) (c : Nat) : (irqCause c s).queues = s.queues := (irqCause_only s c).queues (by decide)
@[simp] theorem irqCause_msgs (s : State) (c : Nat) : (irqCause c s).msgs = s.msgs := (irqCause_only s c).msgs (by decide)
@[simp] theorem irqCause_fab (s : State) (c : Nat) : (irqCause c s).fab = s.fab := (irqCause_only s c).fab (by decide)
@[simp] theorem irqCause_obs (s : State) (c : Nat) : (irqCause c s).obs = s.obs := (irqCause_only s c).obs (by decide)
@[simp] theorem irqCause_mem (s : State) (c : Nat) : (irqCause c s).mem = s.mem := (irqCause_only s c).mem (by decide)
@[simp] theorem irqCause_poison (s : State) (c : Nat) : (irqCause c s).poison = s.poison := (irqCause_only s c).poison (by decide)
@[simp] theorem irqCause_refuse (s : State) (c : Nat) : (irqCause c s).refuse = s.refuse := (irqCause_only s c).refuse (by decide)
@[simp] theorem irqCause_nextId (s : State) (c : Nat) : (irqCause c s).nextId = s.nextId := (irqCause_only s c).nextId (by decide)
@[simp] theorem irqCause_lanes (s : State) (c : Nat) : (irqCause c s).lanes = s.lanes := (irqCause_only s c).lanes (by decide)
@[simp] theorem irqCause_reqs (s : State) (c : Nat) : (irqCause c s).reqs = s.reqs := (irqCause_only s c).reqs (by decide)

/-! ## logPush -/

theorem logPush_only (s : State) (r : Rec4) : Only [.regs, .glb, .cyc] s (logPush r s) := by
  have hold : ∀ g : Glb, ∀ c : Cyc, Only [.regs, .glb, .cyc] s { s with glb := g, cyc := c } := fun g c =>
    ⟨fun _ => rfl, fun _ => rfl, fun _ => rfl, fun _ => rfl, fun _ => rfl, fun _ => rfl, fun _ => rfl, fun h => absurd (by decide) h, fun _ => rfl, fun _ => rfl, fun h => absurd (by decide) h, fun _ => rfl, fun _ => rfl, fun _ => rfl, fun _ => rfl, fun _ => rfl, fun _ => rfl, fun _ => rfl, fun _ => rfl, fun _ => rfl, fun _ => rfl, fun _ => rfl, fun _ => rfl, fun _ => rfl, fun _ => rfl, fun _ => rfl, fun _ => rfl, fun _ => rfl, fun _ => rfl, fun _ => rfl, fun _ => rfl, fun _ => rfl, fun _ => rfl, fun _ => rfl, fun h => absurd (by decide) h, fun _ => rfl, fun _ => rfl⟩
  unfold logPush; dsimp only
  split
  · exact hold _ _
  · exact (hold _ _).trans (bump_only _ _ _).mono

@[simp] theorem logPush_pending (s : State) (r : Rec4) : (logPush r s).pending = s.pending := (logPush_only s r).pending (by decide)
@[simp] theorem logPush_variant (s : State) (r : Rec4) : (logPush r s).variant = s.variant := (logPush_only s r).variant (by decide)
@[simp] theorem logPush_hc (s : State) (r : Rec4) : (logPush r s).hc = s.hc := (logPush_only s r).hc (by decide)
@[simp] theorem logPush_tb (s : State) (r : Rec4) : (logPush r s).tb = s.tb := (logPush_only s r).tb (by decide)
@[simp] theorem logPush_tbPhase (s : State) (r : Rec4) : (logPush r s).tbPhase = s.tbPhase := (logPush_only s r).tbPhase (by decide)
@[simp] theorem logPush_fmhz (s : State) (r : Rec4) : (logPush r s).fmhz = s.fmhz := (logPush_only s r).fmhz (by decide)
@[simp] theorem logPush_free (s : State) (r : Rec4) : (logPush r s).free = s.free := (logPush_only s r).free (by decide)
@[simp] theorem logPush_selHost (s : State) (r : Rec4) : (logPush r s).selHost = s.selHost := (logPush_only s r).selHost (by decide)
@[simp] theorem logPush_selMgmt (s : State) (r : Rec4) : (logPush r s).selMgmt = s.selMgmt := (logPush_only s r).selMgmt (by decide)
@[simp] theorem logPush_en (s : State) (r : Rec4) : (logPush r s).en = s.en := (logPush_only s r).en (by decide)
@[simp] theorem logPush_ctxs (s : State) (r : Rec4) : (logPush r s).ctxs = s.ctxs := (logPush_only s r).ctxs (by decide)
@[simp] theorem logPush_templates (s : State) (r : Rec4) : (logPush r s).templates = s.templates := (logPush_only s r).templates (by decide)
@[simp] theorem logPush_launches (s : State) (r : Rec4) : (logPush r s).launches = s.launches := (logPush_only s r).launches (by decide)
@[simp] theorem logPush_heldLaunches (s : State) (r : Rec4) : (logPush r s).heldLaunches = s.heldLaunches := (logPush_only s r).heldLaunches (by decide)
@[simp] theorem logPush_hub (s : State) (r : Rec4) : (logPush r s).hub = s.hub := (logPush_only s r).hub (by decide)
@[simp] theorem logPush_disp (s : State) (r : Rec4) : (logPush r s).disp = s.disp := (logPush_only s r).disp (by decide)
@[simp] theorem logPush_fold (s : State) (r : Rec4) : (logPush r s).fold = s.fold := (logPush_only s r).fold (by decide)
@[simp] theorem logPush_rings (s : State) (r : Rec4) : (logPush r s).rings = s.rings := (logPush_only s r).rings (by decide)
@[simp] theorem logPush_cbs (s : State) (r : Rec4) : (logPush r s).cbs = s.cbs := (logPush_only s r).cbs (by decide)
@[simp] theorem logPush_dmas (s : State) (r : Rec4) : (logPush r s).dmas = s.dmas := (logPush_only s r).dmas (by decide)
@[simp] theorem logPush_dlm (s : State) (r : Rec4) : (logPush r s).dlm = s.dlm := (logPush_only s r).dlm (by decide)
@[simp] theorem logPush_ckpts (s : State) (r : Rec4) : (logPush r s).ckpts = s.ckpts := (logPush_only s r).ckpts (by decide)
@[simp] theorem logPush_sync (s : State) (r : Rec4) : (logPush r s).sync = s.sync := (logPush_only s r).sync (by decide)
@[simp] theorem logPush_queues (s : State) (r : Rec4) : (logPush r s).queues = s.queues := (logPush_only s r).queues (by decide)
@[simp] theorem logPush_msgs (s : State) (r : Rec4) : (logPush r s).msgs = s.msgs := (logPush_only s r).msgs (by decide)
@[simp] theorem logPush_fab (s : State) (r : Rec4) : (logPush r s).fab = s.fab := (logPush_only s r).fab (by decide)
@[simp] theorem logPush_obs (s : State) (r : Rec4) : (logPush r s).obs = s.obs := (logPush_only s r).obs (by decide)
@[simp] theorem logPush_mem (s : State) (r : Rec4) : (logPush r s).mem = s.mem := (logPush_only s r).mem (by decide)
@[simp] theorem logPush_poison (s : State) (r : Rec4) : (logPush r s).poison = s.poison := (logPush_only s r).poison (by decide)
@[simp] theorem logPush_refuse (s : State) (r : Rec4) : (logPush r s).refuse = s.refuse := (logPush_only s r).refuse (by decide)
@[simp] theorem logPush_nextId (s : State) (r : Rec4) : (logPush r s).nextId = s.nextId := (logPush_only s r).nextId (by decide)
@[simp] theorem logPush_lanes (s : State) (r : Rec4) : (logPush r s).lanes = s.lanes := (logPush_only s r).lanes (by decide)
@[simp] theorem logPush_reqs (s : State) (r : Rec4) : (logPush r s).reqs = s.reqs := (logPush_only s r).reqs (by decide)
@[simp] theorem logPush_out (s : State) (r : Rec4) : (logPush r s).out = s.out := (logPush_only s r).out (by decide)

/-! ## errContained -/

theorem errContained_only (s : State) (unit code : Nat) (ctx serial : Option Nat) (d : Word) : Only [.regs, .out, .glb, .cyc] s (errContained unit code ctx serial d s) :=
    (bump_only s K.ERR_CONT 1).mono.trans ((logPush_only _ _).mono.trans (irqCause_only _ 0))

@[simp] theorem errContained_pending (s : State) (unit code : Nat) (ctx serial : Option Nat) (d : Word) : (errContained unit code ctx serial d s).pending = s.pending := (errContained_only s unit code ctx serial d).pending (by decide)
@[simp] theorem errContained_variant (s : State) (unit code : Nat) (ctx serial : Option Nat) (d : Word) : (errContained unit code ctx serial d s).variant = s.variant := (errContained_only s unit code ctx serial d).variant (by decide)
@[simp] theorem errContained_hc (s : State) (unit code : Nat) (ctx serial : Option Nat) (d : Word) : (errContained unit code ctx serial d s).hc = s.hc := (errContained_only s unit code ctx serial d).hc (by decide)
@[simp] theorem errContained_tb (s : State) (unit code : Nat) (ctx serial : Option Nat) (d : Word) : (errContained unit code ctx serial d s).tb = s.tb := (errContained_only s unit code ctx serial d).tb (by decide)
@[simp] theorem errContained_tbPhase (s : State) (unit code : Nat) (ctx serial : Option Nat) (d : Word) : (errContained unit code ctx serial d s).tbPhase = s.tbPhase := (errContained_only s unit code ctx serial d).tbPhase (by decide)
@[simp] theorem errContained_fmhz (s : State) (unit code : Nat) (ctx serial : Option Nat) (d : Word) : (errContained unit code ctx serial d s).fmhz = s.fmhz := (errContained_only s unit code ctx serial d).fmhz (by decide)
@[simp] theorem errContained_free (s : State) (unit code : Nat) (ctx serial : Option Nat) (d : Word) : (errContained unit code ctx serial d s).free = s.free := (errContained_only s unit code ctx serial d).free (by decide)
@[simp] theorem errContained_selHost (s : State) (unit code : Nat) (ctx serial : Option Nat) (d : Word) : (errContained unit code ctx serial d s).selHost = s.selHost := (errContained_only s unit code ctx serial d).selHost (by decide)
@[simp] theorem errContained_selMgmt (s : State) (unit code : Nat) (ctx serial : Option Nat) (d : Word) : (errContained unit code ctx serial d s).selMgmt = s.selMgmt := (errContained_only s unit code ctx serial d).selMgmt (by decide)
@[simp] theorem errContained_en (s : State) (unit code : Nat) (ctx serial : Option Nat) (d : Word) : (errContained unit code ctx serial d s).en = s.en := (errContained_only s unit code ctx serial d).en (by decide)
@[simp] theorem errContained_ctxs (s : State) (unit code : Nat) (ctx serial : Option Nat) (d : Word) : (errContained unit code ctx serial d s).ctxs = s.ctxs := (errContained_only s unit code ctx serial d).ctxs (by decide)
@[simp] theorem errContained_templates (s : State) (unit code : Nat) (ctx serial : Option Nat) (d : Word) : (errContained unit code ctx serial d s).templates = s.templates := (errContained_only s unit code ctx serial d).templates (by decide)
@[simp] theorem errContained_launches (s : State) (unit code : Nat) (ctx serial : Option Nat) (d : Word) : (errContained unit code ctx serial d s).launches = s.launches := (errContained_only s unit code ctx serial d).launches (by decide)
@[simp] theorem errContained_heldLaunches (s : State) (unit code : Nat) (ctx serial : Option Nat) (d : Word) : (errContained unit code ctx serial d s).heldLaunches = s.heldLaunches := (errContained_only s unit code ctx serial d).heldLaunches (by decide)
@[simp] theorem errContained_hub (s : State) (unit code : Nat) (ctx serial : Option Nat) (d : Word) : (errContained unit code ctx serial d s).hub = s.hub := (errContained_only s unit code ctx serial d).hub (by decide)
@[simp] theorem errContained_disp (s : State) (unit code : Nat) (ctx serial : Option Nat) (d : Word) : (errContained unit code ctx serial d s).disp = s.disp := (errContained_only s unit code ctx serial d).disp (by decide)
@[simp] theorem errContained_fold (s : State) (unit code : Nat) (ctx serial : Option Nat) (d : Word) : (errContained unit code ctx serial d s).fold = s.fold := (errContained_only s unit code ctx serial d).fold (by decide)
@[simp] theorem errContained_rings (s : State) (unit code : Nat) (ctx serial : Option Nat) (d : Word) : (errContained unit code ctx serial d s).rings = s.rings := (errContained_only s unit code ctx serial d).rings (by decide)
@[simp] theorem errContained_cbs (s : State) (unit code : Nat) (ctx serial : Option Nat) (d : Word) : (errContained unit code ctx serial d s).cbs = s.cbs := (errContained_only s unit code ctx serial d).cbs (by decide)
@[simp] theorem errContained_dmas (s : State) (unit code : Nat) (ctx serial : Option Nat) (d : Word) : (errContained unit code ctx serial d s).dmas = s.dmas := (errContained_only s unit code ctx serial d).dmas (by decide)
@[simp] theorem errContained_dlm (s : State) (unit code : Nat) (ctx serial : Option Nat) (d : Word) : (errContained unit code ctx serial d s).dlm = s.dlm := (errContained_only s unit code ctx serial d).dlm (by decide)
@[simp] theorem errContained_ckpts (s : State) (unit code : Nat) (ctx serial : Option Nat) (d : Word) : (errContained unit code ctx serial d s).ckpts = s.ckpts := (errContained_only s unit code ctx serial d).ckpts (by decide)
@[simp] theorem errContained_sync (s : State) (unit code : Nat) (ctx serial : Option Nat) (d : Word) : (errContained unit code ctx serial d s).sync = s.sync := (errContained_only s unit code ctx serial d).sync (by decide)
@[simp] theorem errContained_queues (s : State) (unit code : Nat) (ctx serial : Option Nat) (d : Word) : (errContained unit code ctx serial d s).queues = s.queues := (errContained_only s unit code ctx serial d).queues (by decide)
@[simp] theorem errContained_msgs (s : State) (unit code : Nat) (ctx serial : Option Nat) (d : Word) : (errContained unit code ctx serial d s).msgs = s.msgs := (errContained_only s unit code ctx serial d).msgs (by decide)
@[simp] theorem errContained_fab (s : State) (unit code : Nat) (ctx serial : Option Nat) (d : Word) : (errContained unit code ctx serial d s).fab = s.fab := (errContained_only s unit code ctx serial d).fab (by decide)
@[simp] theorem errContained_obs (s : State) (unit code : Nat) (ctx serial : Option Nat) (d : Word) : (errContained unit code ctx serial d s).obs = s.obs := (errContained_only s unit code ctx serial d).obs (by decide)
@[simp] theorem errContained_mem (s : State) (unit code : Nat) (ctx serial : Option Nat) (d : Word) : (errContained unit code ctx serial d s).mem = s.mem := (errContained_only s unit code ctx serial d).mem (by decide)
@[simp] theorem errContained_poison (s : State) (unit code : Nat) (ctx serial : Option Nat) (d : Word) : (errContained unit code ctx serial d s).poison = s.poison := (errContained_only s unit code ctx serial d).poison (by decide)
@[simp] theorem errContained_refuse (s : State) (unit code : Nat) (ctx serial : Option Nat) (d : Word) : (errContained unit code ctx serial d s).refuse = s.refuse := (errContained_only s unit code ctx serial d).refuse (by decide)
@[simp] theorem errContained_nextId (s : State) (unit code : Nat) (ctx serial : Option Nat) (d : Word) : (errContained unit code ctx serial d s).nextId = s.nextId := (errContained_only s unit code ctx serial d).nextId (by decide)
@[simp] theorem errContained_lanes (s : State) (unit code : Nat) (ctx serial : Option Nat) (d : Word) : (errContained unit code ctx serial d s).lanes = s.lanes := (errContained_only s unit code ctx serial d).lanes (by decide)
@[simp] theorem errContained_reqs (s : State) (unit code : Nat) (ctx serial : Option Nat) (d : Word) : (errContained unit code ctx serial d s).reqs = s.reqs := (errContained_only s unit code ctx serial d).reqs (by decide)

/-! ## errCorrected -/

theorem errCorrected_only (s : State) (unit : Nat) (d : Word) : Only [.regs, .glb, .cyc] s (errCorrected unit d s) := by
  have h : Only [.regs, .glb, .cyc] s (bump K.ERR_CORR 1 s) := (bump_only s _ _).mono
  unfold errCorrected; dsimp only
  split
  · exact h.trans (logPush_only _ _)
  · exact h

@[simp] theorem errCorrected_pending (s : State) (unit : Nat) (d : Word) : (errCorrected unit d s).pending = s.pending := (errCorrected_only s unit d).pending (by decide)
@[simp] theorem errCorrected_variant (s : State) (unit : Nat) (d : Word) : (errCorrected unit d s).variant = s.variant := (errCorrected_only s unit d).variant (by decide)
@[simp] theorem errCorrected_hc (s : State) (unit : Nat) (d : Word) : (errCorrected unit d s).hc = s.hc := (errCorrected_only s unit d).hc (by decide)
@[simp] theorem errCorrected_tb (s : State) (unit : Nat) (d : Word) : (errCorrected unit d s).tb = s.tb := (errCorrected_only s unit d).tb (by decide)
@[simp] theorem errCorrected_tbPhase (s : State) (unit : Nat) (d : Word) : (errCorrected unit d s).tbPhase = s.tbPhase := (errCorrected_only s unit d).tbPhase (by decide)
@[simp] theorem errCorrected_fmhz (s : State) (unit : Nat) (d : Word) : (errCorrected unit d s).fmhz = s.fmhz := (errCorrected_only s unit d).fmhz (by decide)
@[simp] theorem errCorrected_free (s : State) (unit : Nat) (d : Word) : (errCorrected unit d s).free = s.free := (errCorrected_only s unit d).free (by decide)
@[simp] theorem errCorrected_selHost (s : State) (unit : Nat) (d : Word) : (errCorrected unit d s).selHost = s.selHost := (errCorrected_only s unit d).selHost (by decide)
@[simp] theorem errCorrected_selMgmt (s : State) (unit : Nat) (d : Word) : (errCorrected unit d s).selMgmt = s.selMgmt := (errCorrected_only s unit d).selMgmt (by decide)
@[simp] theorem errCorrected_en (s : State) (unit : Nat) (d : Word) : (errCorrected unit d s).en = s.en := (errCorrected_only s unit d).en (by decide)
@[simp] theorem errCorrected_ctxs (s : State) (unit : Nat) (d : Word) : (errCorrected unit d s).ctxs = s.ctxs := (errCorrected_only s unit d).ctxs (by decide)
@[simp] theorem errCorrected_templates (s : State) (unit : Nat) (d : Word) : (errCorrected unit d s).templates = s.templates := (errCorrected_only s unit d).templates (by decide)
@[simp] theorem errCorrected_launches (s : State) (unit : Nat) (d : Word) : (errCorrected unit d s).launches = s.launches := (errCorrected_only s unit d).launches (by decide)
@[simp] theorem errCorrected_heldLaunches (s : State) (unit : Nat) (d : Word) : (errCorrected unit d s).heldLaunches = s.heldLaunches := (errCorrected_only s unit d).heldLaunches (by decide)
@[simp] theorem errCorrected_hub (s : State) (unit : Nat) (d : Word) : (errCorrected unit d s).hub = s.hub := (errCorrected_only s unit d).hub (by decide)
@[simp] theorem errCorrected_disp (s : State) (unit : Nat) (d : Word) : (errCorrected unit d s).disp = s.disp := (errCorrected_only s unit d).disp (by decide)
@[simp] theorem errCorrected_fold (s : State) (unit : Nat) (d : Word) : (errCorrected unit d s).fold = s.fold := (errCorrected_only s unit d).fold (by decide)
@[simp] theorem errCorrected_rings (s : State) (unit : Nat) (d : Word) : (errCorrected unit d s).rings = s.rings := (errCorrected_only s unit d).rings (by decide)
@[simp] theorem errCorrected_cbs (s : State) (unit : Nat) (d : Word) : (errCorrected unit d s).cbs = s.cbs := (errCorrected_only s unit d).cbs (by decide)
@[simp] theorem errCorrected_dmas (s : State) (unit : Nat) (d : Word) : (errCorrected unit d s).dmas = s.dmas := (errCorrected_only s unit d).dmas (by decide)
@[simp] theorem errCorrected_dlm (s : State) (unit : Nat) (d : Word) : (errCorrected unit d s).dlm = s.dlm := (errCorrected_only s unit d).dlm (by decide)
@[simp] theorem errCorrected_ckpts (s : State) (unit : Nat) (d : Word) : (errCorrected unit d s).ckpts = s.ckpts := (errCorrected_only s unit d).ckpts (by decide)
@[simp] theorem errCorrected_sync (s : State) (unit : Nat) (d : Word) : (errCorrected unit d s).sync = s.sync := (errCorrected_only s unit d).sync (by decide)
@[simp] theorem errCorrected_queues (s : State) (unit : Nat) (d : Word) : (errCorrected unit d s).queues = s.queues := (errCorrected_only s unit d).queues (by decide)
@[simp] theorem errCorrected_msgs (s : State) (unit : Nat) (d : Word) : (errCorrected unit d s).msgs = s.msgs := (errCorrected_only s unit d).msgs (by decide)
@[simp] theorem errCorrected_fab (s : State) (unit : Nat) (d : Word) : (errCorrected unit d s).fab = s.fab := (errCorrected_only s unit d).fab (by decide)
@[simp] theorem errCorrected_obs (s : State) (unit : Nat) (d : Word) : (errCorrected unit d s).obs = s.obs := (errCorrected_only s unit d).obs (by decide)
@[simp] theorem errCorrected_mem (s : State) (unit : Nat) (d : Word) : (errCorrected unit d s).mem = s.mem := (errCorrected_only s unit d).mem (by decide)
@[simp] theorem errCorrected_poison (s : State) (unit : Nat) (d : Word) : (errCorrected unit d s).poison = s.poison := (errCorrected_only s unit d).poison (by decide)
@[simp] theorem errCorrected_refuse (s : State) (unit : Nat) (d : Word) : (errCorrected unit d s).refuse = s.refuse := (errCorrected_only s unit d).refuse (by decide)
@[simp] theorem errCorrected_nextId (s : State) (unit : Nat) (d : Word) : (errCorrected unit d s).nextId = s.nextId := (errCorrected_only s unit d).nextId (by decide)
@[simp] theorem errCorrected_lanes (s : State) (unit : Nat) (d : Word) : (errCorrected unit d s).lanes = s.lanes := (errCorrected_only s unit d).lanes (by decide)
@[simp] theorem errCorrected_reqs (s : State) (unit : Nat) (d : Word) : (errCorrected unit d s).reqs = s.reqs := (errCorrected_only s unit d).reqs (by decide)
@[simp] theorem errCorrected_out (s : State) (unit : Nat) (d : Word) : (errCorrected unit d s).out = s.out := (errCorrected_only s unit d).out (by decide)

/-! ## auditMark -/

theorem auditMark_only (s : State) (classes ctxs code : Nat) : Only [.regs, .cyc] s (auditMark classes ctxs code s) := by
  have h := (setBits_only s K.AUD_UNC classes).trans ((setBits_only _ K.AUD_CTX_LO (ctxs % 2 ^ 32)).trans
    (setBits_only _ K.AUD_CTX_HI (ctxs / 2 ^ 32 % 2 ^ 32)))
  unfold auditMark; dsimp only
  split
  · exact h.trans (State.setReg_only _ _ _).mono
  · exact h

@[simp] theorem auditMark_pending (s : State) (classes ctxs code : Nat) : (auditMark classes ctxs code s).pending = s.pending := (auditMark_only s classes ctxs code).pending (by decide)
@[simp] theorem auditMark_variant (s : State) (classes ctxs code : Nat) : (auditMark classes ctxs code s).variant = s.variant := (auditMark_only s classes ctxs code).variant (by decide)
@[simp] theorem auditMark_hc (s : State) (classes ctxs code : Nat) : (auditMark classes ctxs code s).hc = s.hc := (auditMark_only s classes ctxs code).hc (by decide)
@[simp] theorem auditMark_tb (s : State) (classes ctxs code : Nat) : (auditMark classes ctxs code s).tb = s.tb := (auditMark_only s classes ctxs code).tb (by decide)
@[simp] theorem auditMark_tbPhase (s : State) (classes ctxs code : Nat) : (auditMark classes ctxs code s).tbPhase = s.tbPhase := (auditMark_only s classes ctxs code).tbPhase (by decide)
@[simp] theorem auditMark_fmhz (s : State) (classes ctxs code : Nat) : (auditMark classes ctxs code s).fmhz = s.fmhz := (auditMark_only s classes ctxs code).fmhz (by decide)
@[simp] theorem auditMark_free (s : State) (classes ctxs code : Nat) : (auditMark classes ctxs code s).free = s.free := (auditMark_only s classes ctxs code).free (by decide)
@[simp] theorem auditMark_selHost (s : State) (classes ctxs code : Nat) : (auditMark classes ctxs code s).selHost = s.selHost := (auditMark_only s classes ctxs code).selHost (by decide)
@[simp] theorem auditMark_selMgmt (s : State) (classes ctxs code : Nat) : (auditMark classes ctxs code s).selMgmt = s.selMgmt := (auditMark_only s classes ctxs code).selMgmt (by decide)
@[simp] theorem auditMark_glb (s : State) (classes ctxs code : Nat) : (auditMark classes ctxs code s).glb = s.glb := (auditMark_only s classes ctxs code).glb (by decide)
@[simp] theorem auditMark_en (s : State) (classes ctxs code : Nat) : (auditMark classes ctxs code s).en = s.en := (auditMark_only s classes ctxs code).en (by decide)
@[simp] theorem auditMark_ctxs (s : State) (classes ctxs code : Nat) : (auditMark classes ctxs code s).ctxs = s.ctxs := (auditMark_only s classes ctxs code).ctxs (by decide)
@[simp] theorem auditMark_templates (s : State) (classes ctxs code : Nat) : (auditMark classes ctxs code s).templates = s.templates := (auditMark_only s classes ctxs code).templates (by decide)
@[simp] theorem auditMark_launches (s : State) (classes ctxs code : Nat) : (auditMark classes ctxs code s).launches = s.launches := (auditMark_only s classes ctxs code).launches (by decide)
@[simp] theorem auditMark_heldLaunches (s : State) (classes ctxs code : Nat) : (auditMark classes ctxs code s).heldLaunches = s.heldLaunches := (auditMark_only s classes ctxs code).heldLaunches (by decide)
@[simp] theorem auditMark_hub (s : State) (classes ctxs code : Nat) : (auditMark classes ctxs code s).hub = s.hub := (auditMark_only s classes ctxs code).hub (by decide)
@[simp] theorem auditMark_disp (s : State) (classes ctxs code : Nat) : (auditMark classes ctxs code s).disp = s.disp := (auditMark_only s classes ctxs code).disp (by decide)
@[simp] theorem auditMark_fold (s : State) (classes ctxs code : Nat) : (auditMark classes ctxs code s).fold = s.fold := (auditMark_only s classes ctxs code).fold (by decide)
@[simp] theorem auditMark_rings (s : State) (classes ctxs code : Nat) : (auditMark classes ctxs code s).rings = s.rings := (auditMark_only s classes ctxs code).rings (by decide)
@[simp] theorem auditMark_cbs (s : State) (classes ctxs code : Nat) : (auditMark classes ctxs code s).cbs = s.cbs := (auditMark_only s classes ctxs code).cbs (by decide)
@[simp] theorem auditMark_dmas (s : State) (classes ctxs code : Nat) : (auditMark classes ctxs code s).dmas = s.dmas := (auditMark_only s classes ctxs code).dmas (by decide)
@[simp] theorem auditMark_dlm (s : State) (classes ctxs code : Nat) : (auditMark classes ctxs code s).dlm = s.dlm := (auditMark_only s classes ctxs code).dlm (by decide)
@[simp] theorem auditMark_ckpts (s : State) (classes ctxs code : Nat) : (auditMark classes ctxs code s).ckpts = s.ckpts := (auditMark_only s classes ctxs code).ckpts (by decide)
@[simp] theorem auditMark_sync (s : State) (classes ctxs code : Nat) : (auditMark classes ctxs code s).sync = s.sync := (auditMark_only s classes ctxs code).sync (by decide)
@[simp] theorem auditMark_queues (s : State) (classes ctxs code : Nat) : (auditMark classes ctxs code s).queues = s.queues := (auditMark_only s classes ctxs code).queues (by decide)
@[simp] theorem auditMark_msgs (s : State) (classes ctxs code : Nat) : (auditMark classes ctxs code s).msgs = s.msgs := (auditMark_only s classes ctxs code).msgs (by decide)
@[simp] theorem auditMark_fab (s : State) (classes ctxs code : Nat) : (auditMark classes ctxs code s).fab = s.fab := (auditMark_only s classes ctxs code).fab (by decide)
@[simp] theorem auditMark_obs (s : State) (classes ctxs code : Nat) : (auditMark classes ctxs code s).obs = s.obs := (auditMark_only s classes ctxs code).obs (by decide)
@[simp] theorem auditMark_mem (s : State) (classes ctxs code : Nat) : (auditMark classes ctxs code s).mem = s.mem := (auditMark_only s classes ctxs code).mem (by decide)
@[simp] theorem auditMark_poison (s : State) (classes ctxs code : Nat) : (auditMark classes ctxs code s).poison = s.poison := (auditMark_only s classes ctxs code).poison (by decide)
@[simp] theorem auditMark_refuse (s : State) (classes ctxs code : Nat) : (auditMark classes ctxs code s).refuse = s.refuse := (auditMark_only s classes ctxs code).refuse (by decide)
@[simp] theorem auditMark_nextId (s : State) (classes ctxs code : Nat) : (auditMark classes ctxs code s).nextId = s.nextId := (auditMark_only s classes ctxs code).nextId (by decide)
@[simp] theorem auditMark_lanes (s : State) (classes ctxs code : Nat) : (auditMark classes ctxs code s).lanes = s.lanes := (auditMark_only s classes ctxs code).lanes (by decide)
@[simp] theorem auditMark_reqs (s : State) (classes ctxs code : Nat) : (auditMark classes ctxs code s).reqs = s.reqs := (auditMark_only s classes ctxs code).reqs (by decide)
@[simp] theorem auditMark_out (s : State) (classes ctxs code : Nat) : (auditMark classes ctxs code s).out = s.out := (auditMark_only s classes ctxs code).out (by decide)

/-! ## tracePush -/

theorem tracePush_only (s : State) (u ty : Nat) (ctx : Option Nat) (src : Nat) (p0 p1 : Word) : Only [.regs, .obs, .cyc] s (tracePush u ty ctx src p0 p1 s) := by
  have hold : ∀ x : Obs, ∀ c : Cyc, Only [.regs, .obs, .cyc] s { s with obs := x, cyc := c } := fun x c =>
    ⟨fun _ => rfl, fun _ => rfl, fun _ => rfl, fun _ => rfl, fun _ => rfl, fun _ => rfl, fun _ => rfl, fun h => absurd (by decide) h, fun _ => rfl, fun _ => rfl, fun _ => rfl, fun _ => rfl, fun _ => rfl, fun _ => rfl, fun _ => rfl, fun _ => rfl, fun _ => rfl, fun _ => rfl, fun _ => rfl, fun _ => rfl, fun _ => rfl, fun _ => rfl, fun _ => rfl, fun _ => rfl, fun _ => rfl, fun _ => rfl, fun _ => rfl, fun _ => rfl, fun h => absurd (by decide) h, fun _ => rfl, fun _ => rfl, fun _ => rfl, fun _ => rfl, fun _ => rfl, fun h => absurd (by decide) h, fun _ => rfl, fun _ => rfl⟩
  unfold tracePush; dsimp only
  split
  · exact (hold _ _).trans (pmc_only _ _ _ _ _).mono
  · exact ((hold _ _).trans (bump_only _ _ _).mono).trans ((pmc_only _ _ _ _ _).trans (pmc_only _ _ _ _ _)).mono

@[simp] theorem tracePush_pending (s : State) (u ty : Nat) (ctx : Option Nat) (src : Nat) (p0 p1 : Word) : (tracePush u ty ctx src p0 p1 s).pending = s.pending := (tracePush_only s u ty ctx src p0 p1).pending (by decide)
@[simp] theorem tracePush_variant (s : State) (u ty : Nat) (ctx : Option Nat) (src : Nat) (p0 p1 : Word) : (tracePush u ty ctx src p0 p1 s).variant = s.variant := (tracePush_only s u ty ctx src p0 p1).variant (by decide)
@[simp] theorem tracePush_hc (s : State) (u ty : Nat) (ctx : Option Nat) (src : Nat) (p0 p1 : Word) : (tracePush u ty ctx src p0 p1 s).hc = s.hc := (tracePush_only s u ty ctx src p0 p1).hc (by decide)
@[simp] theorem tracePush_tb (s : State) (u ty : Nat) (ctx : Option Nat) (src : Nat) (p0 p1 : Word) : (tracePush u ty ctx src p0 p1 s).tb = s.tb := (tracePush_only s u ty ctx src p0 p1).tb (by decide)
@[simp] theorem tracePush_tbPhase (s : State) (u ty : Nat) (ctx : Option Nat) (src : Nat) (p0 p1 : Word) : (tracePush u ty ctx src p0 p1 s).tbPhase = s.tbPhase := (tracePush_only s u ty ctx src p0 p1).tbPhase (by decide)
@[simp] theorem tracePush_fmhz (s : State) (u ty : Nat) (ctx : Option Nat) (src : Nat) (p0 p1 : Word) : (tracePush u ty ctx src p0 p1 s).fmhz = s.fmhz := (tracePush_only s u ty ctx src p0 p1).fmhz (by decide)
@[simp] theorem tracePush_free (s : State) (u ty : Nat) (ctx : Option Nat) (src : Nat) (p0 p1 : Word) : (tracePush u ty ctx src p0 p1 s).free = s.free := (tracePush_only s u ty ctx src p0 p1).free (by decide)
@[simp] theorem tracePush_selHost (s : State) (u ty : Nat) (ctx : Option Nat) (src : Nat) (p0 p1 : Word) : (tracePush u ty ctx src p0 p1 s).selHost = s.selHost := (tracePush_only s u ty ctx src p0 p1).selHost (by decide)
@[simp] theorem tracePush_selMgmt (s : State) (u ty : Nat) (ctx : Option Nat) (src : Nat) (p0 p1 : Word) : (tracePush u ty ctx src p0 p1 s).selMgmt = s.selMgmt := (tracePush_only s u ty ctx src p0 p1).selMgmt (by decide)
@[simp] theorem tracePush_glb (s : State) (u ty : Nat) (ctx : Option Nat) (src : Nat) (p0 p1 : Word) : (tracePush u ty ctx src p0 p1 s).glb = s.glb := (tracePush_only s u ty ctx src p0 p1).glb (by decide)
@[simp] theorem tracePush_en (s : State) (u ty : Nat) (ctx : Option Nat) (src : Nat) (p0 p1 : Word) : (tracePush u ty ctx src p0 p1 s).en = s.en := (tracePush_only s u ty ctx src p0 p1).en (by decide)
@[simp] theorem tracePush_ctxs (s : State) (u ty : Nat) (ctx : Option Nat) (src : Nat) (p0 p1 : Word) : (tracePush u ty ctx src p0 p1 s).ctxs = s.ctxs := (tracePush_only s u ty ctx src p0 p1).ctxs (by decide)
@[simp] theorem tracePush_templates (s : State) (u ty : Nat) (ctx : Option Nat) (src : Nat) (p0 p1 : Word) : (tracePush u ty ctx src p0 p1 s).templates = s.templates := (tracePush_only s u ty ctx src p0 p1).templates (by decide)
@[simp] theorem tracePush_launches (s : State) (u ty : Nat) (ctx : Option Nat) (src : Nat) (p0 p1 : Word) : (tracePush u ty ctx src p0 p1 s).launches = s.launches := (tracePush_only s u ty ctx src p0 p1).launches (by decide)
@[simp] theorem tracePush_heldLaunches (s : State) (u ty : Nat) (ctx : Option Nat) (src : Nat) (p0 p1 : Word) : (tracePush u ty ctx src p0 p1 s).heldLaunches = s.heldLaunches := (tracePush_only s u ty ctx src p0 p1).heldLaunches (by decide)
@[simp] theorem tracePush_hub (s : State) (u ty : Nat) (ctx : Option Nat) (src : Nat) (p0 p1 : Word) : (tracePush u ty ctx src p0 p1 s).hub = s.hub := (tracePush_only s u ty ctx src p0 p1).hub (by decide)
@[simp] theorem tracePush_disp (s : State) (u ty : Nat) (ctx : Option Nat) (src : Nat) (p0 p1 : Word) : (tracePush u ty ctx src p0 p1 s).disp = s.disp := (tracePush_only s u ty ctx src p0 p1).disp (by decide)
@[simp] theorem tracePush_fold (s : State) (u ty : Nat) (ctx : Option Nat) (src : Nat) (p0 p1 : Word) : (tracePush u ty ctx src p0 p1 s).fold = s.fold := (tracePush_only s u ty ctx src p0 p1).fold (by decide)
@[simp] theorem tracePush_rings (s : State) (u ty : Nat) (ctx : Option Nat) (src : Nat) (p0 p1 : Word) : (tracePush u ty ctx src p0 p1 s).rings = s.rings := (tracePush_only s u ty ctx src p0 p1).rings (by decide)
@[simp] theorem tracePush_cbs (s : State) (u ty : Nat) (ctx : Option Nat) (src : Nat) (p0 p1 : Word) : (tracePush u ty ctx src p0 p1 s).cbs = s.cbs := (tracePush_only s u ty ctx src p0 p1).cbs (by decide)
@[simp] theorem tracePush_dmas (s : State) (u ty : Nat) (ctx : Option Nat) (src : Nat) (p0 p1 : Word) : (tracePush u ty ctx src p0 p1 s).dmas = s.dmas := (tracePush_only s u ty ctx src p0 p1).dmas (by decide)
@[simp] theorem tracePush_dlm (s : State) (u ty : Nat) (ctx : Option Nat) (src : Nat) (p0 p1 : Word) : (tracePush u ty ctx src p0 p1 s).dlm = s.dlm := (tracePush_only s u ty ctx src p0 p1).dlm (by decide)
@[simp] theorem tracePush_ckpts (s : State) (u ty : Nat) (ctx : Option Nat) (src : Nat) (p0 p1 : Word) : (tracePush u ty ctx src p0 p1 s).ckpts = s.ckpts := (tracePush_only s u ty ctx src p0 p1).ckpts (by decide)
@[simp] theorem tracePush_sync (s : State) (u ty : Nat) (ctx : Option Nat) (src : Nat) (p0 p1 : Word) : (tracePush u ty ctx src p0 p1 s).sync = s.sync := (tracePush_only s u ty ctx src p0 p1).sync (by decide)
@[simp] theorem tracePush_queues (s : State) (u ty : Nat) (ctx : Option Nat) (src : Nat) (p0 p1 : Word) : (tracePush u ty ctx src p0 p1 s).queues = s.queues := (tracePush_only s u ty ctx src p0 p1).queues (by decide)
@[simp] theorem tracePush_msgs (s : State) (u ty : Nat) (ctx : Option Nat) (src : Nat) (p0 p1 : Word) : (tracePush u ty ctx src p0 p1 s).msgs = s.msgs := (tracePush_only s u ty ctx src p0 p1).msgs (by decide)
@[simp] theorem tracePush_fab (s : State) (u ty : Nat) (ctx : Option Nat) (src : Nat) (p0 p1 : Word) : (tracePush u ty ctx src p0 p1 s).fab = s.fab := (tracePush_only s u ty ctx src p0 p1).fab (by decide)
@[simp] theorem tracePush_mem (s : State) (u ty : Nat) (ctx : Option Nat) (src : Nat) (p0 p1 : Word) : (tracePush u ty ctx src p0 p1 s).mem = s.mem := (tracePush_only s u ty ctx src p0 p1).mem (by decide)
@[simp] theorem tracePush_poison (s : State) (u ty : Nat) (ctx : Option Nat) (src : Nat) (p0 p1 : Word) : (tracePush u ty ctx src p0 p1 s).poison = s.poison := (tracePush_only s u ty ctx src p0 p1).poison (by decide)
@[simp] theorem tracePush_refuse (s : State) (u ty : Nat) (ctx : Option Nat) (src : Nat) (p0 p1 : Word) : (tracePush u ty ctx src p0 p1 s).refuse = s.refuse := (tracePush_only s u ty ctx src p0 p1).refuse (by decide)
@[simp] theorem tracePush_nextId (s : State) (u ty : Nat) (ctx : Option Nat) (src : Nat) (p0 p1 : Word) : (tracePush u ty ctx src p0 p1 s).nextId = s.nextId := (tracePush_only s u ty ctx src p0 p1).nextId (by decide)
@[simp] theorem tracePush_lanes (s : State) (u ty : Nat) (ctx : Option Nat) (src : Nat) (p0 p1 : Word) : (tracePush u ty ctx src p0 p1 s).lanes = s.lanes := (tracePush_only s u ty ctx src p0 p1).lanes (by decide)
@[simp] theorem tracePush_reqs (s : State) (u ty : Nat) (ctx : Option Nat) (src : Nat) (p0 p1 : Word) : (tracePush u ty ctx src p0 p1 s).reqs = s.reqs := (tracePush_only s u ty ctx src p0 p1).reqs (by decide)
@[simp] theorem tracePush_out (s : State) (u ty : Nat) (ctx : Option Nat) (src : Nat) (p0 p1 : Word) : (tracePush u ty ctx src p0 p1 s).out = s.out := (tracePush_only s u ty ctx src p0 p1).out (by decide)

/-! ## traceLose -/

theorem traceLose_only (s : State) : Only [.regs, .obs, .cyc] s (traceLose s) := by
  have h : ∀ x : Obs, Only [.regs, .obs, .cyc] s { s with obs := x } := fun x =>
    ⟨fun _ => rfl, fun _ => rfl, fun _ => rfl, fun _ => rfl, fun _ => rfl, fun _ => rfl, fun _ => rfl, fun h => absurd (by decide) h, fun _ => rfl, fun _ => rfl, fun _ => rfl, fun _ => rfl, fun _ => rfl, fun _ => rfl, fun _ => rfl, fun _ => rfl, fun _ => rfl, fun _ => rfl, fun _ => rfl, fun _ => rfl, fun _ => rfl, fun _ => rfl, fun _ => rfl, fun _ => rfl, fun _ => rfl, fun _ => rfl, fun _ => rfl, fun _ => rfl, fun h => absurd (by decide) h, fun _ => rfl, fun _ => rfl, fun _ => rfl, fun _ => rfl, fun _ => rfl, fun h => absurd (by decide) h, fun _ => rfl, fun _ => rfl⟩
  exact ((h _).trans (bump_only _ _ _).mono).trans (pmc_only _ _ _ _ _).mono

@[simp] theorem traceLose_pending (s : State) : (traceLose s).pending = s.pending := (traceLose_only s).pending (by decide)
@[simp] theorem traceLose_variant (s : State) : (traceLose s).variant = s.variant := (traceLose_only s).variant (by decide)
@[simp] theorem traceLose_hc (s : State) : (traceLose s).hc = s.hc := (traceLose_only s).hc (by decide)
@[simp] theorem traceLose_tb (s : State) : (traceLose s).tb = s.tb := (traceLose_only s).tb (by decide)
@[simp] theorem traceLose_tbPhase (s : State) : (traceLose s).tbPhase = s.tbPhase := (traceLose_only s).tbPhase (by decide)
@[simp] theorem traceLose_fmhz (s : State) : (traceLose s).fmhz = s.fmhz := (traceLose_only s).fmhz (by decide)
@[simp] theorem traceLose_free (s : State) : (traceLose s).free = s.free := (traceLose_only s).free (by decide)
@[simp] theorem traceLose_selHost (s : State) : (traceLose s).selHost = s.selHost := (traceLose_only s).selHost (by decide)
@[simp] theorem traceLose_selMgmt (s : State) : (traceLose s).selMgmt = s.selMgmt := (traceLose_only s).selMgmt (by decide)
@[simp] theorem traceLose_glb (s : State) : (traceLose s).glb = s.glb := (traceLose_only s).glb (by decide)
@[simp] theorem traceLose_en (s : State) : (traceLose s).en = s.en := (traceLose_only s).en (by decide)
@[simp] theorem traceLose_ctxs (s : State) : (traceLose s).ctxs = s.ctxs := (traceLose_only s).ctxs (by decide)
@[simp] theorem traceLose_templates (s : State) : (traceLose s).templates = s.templates := (traceLose_only s).templates (by decide)
@[simp] theorem traceLose_launches (s : State) : (traceLose s).launches = s.launches := (traceLose_only s).launches (by decide)
@[simp] theorem traceLose_heldLaunches (s : State) : (traceLose s).heldLaunches = s.heldLaunches := (traceLose_only s).heldLaunches (by decide)
@[simp] theorem traceLose_hub (s : State) : (traceLose s).hub = s.hub := (traceLose_only s).hub (by decide)
@[simp] theorem traceLose_disp (s : State) : (traceLose s).disp = s.disp := (traceLose_only s).disp (by decide)
@[simp] theorem traceLose_fold (s : State) : (traceLose s).fold = s.fold := (traceLose_only s).fold (by decide)
@[simp] theorem traceLose_rings (s : State) : (traceLose s).rings = s.rings := (traceLose_only s).rings (by decide)
@[simp] theorem traceLose_cbs (s : State) : (traceLose s).cbs = s.cbs := (traceLose_only s).cbs (by decide)
@[simp] theorem traceLose_dmas (s : State) : (traceLose s).dmas = s.dmas := (traceLose_only s).dmas (by decide)
@[simp] theorem traceLose_dlm (s : State) : (traceLose s).dlm = s.dlm := (traceLose_only s).dlm (by decide)
@[simp] theorem traceLose_ckpts (s : State) : (traceLose s).ckpts = s.ckpts := (traceLose_only s).ckpts (by decide)
@[simp] theorem traceLose_sync (s : State) : (traceLose s).sync = s.sync := (traceLose_only s).sync (by decide)
@[simp] theorem traceLose_queues (s : State) : (traceLose s).queues = s.queues := (traceLose_only s).queues (by decide)
@[simp] theorem traceLose_msgs (s : State) : (traceLose s).msgs = s.msgs := (traceLose_only s).msgs (by decide)
@[simp] theorem traceLose_fab (s : State) : (traceLose s).fab = s.fab := (traceLose_only s).fab (by decide)
@[simp] theorem traceLose_mem (s : State) : (traceLose s).mem = s.mem := (traceLose_only s).mem (by decide)
@[simp] theorem traceLose_poison (s : State) : (traceLose s).poison = s.poison := (traceLose_only s).poison (by decide)
@[simp] theorem traceLose_refuse (s : State) : (traceLose s).refuse = s.refuse := (traceLose_only s).refuse (by decide)
@[simp] theorem traceLose_nextId (s : State) : (traceLose s).nextId = s.nextId := (traceLose_only s).nextId (by decide)
@[simp] theorem traceLose_lanes (s : State) : (traceLose s).lanes = s.lanes := (traceLose_only s).lanes (by decide)
@[simp] theorem traceLose_reqs (s : State) : (traceLose s).reqs = s.reqs := (traceLose_only s).reqs (by decide)
@[simp] theorem traceLose_out (s : State) : (traceLose s).out = s.out := (traceLose_only s).out (by decide)

/-! ## trace1 -/

theorem trace1_only (s : State) (u ty : Nat) (ctx : Option Nat) (src : Nat) (p0 p1 : Word) : Only [.regs, .obs, .cyc] s (trace1 u ty ctx src p0 p1 s) := by
  have h : ∀ x : Obs, Only [.regs, .obs, .cyc] s { s with obs := x } := fun x =>
    ⟨fun _ => rfl, fun _ => rfl, fun _ => rfl, fun _ => rfl, fun _ => rfl, fun _ => rfl, fun _ => rfl, fun h => absurd (by decide) h, fun _ => rfl, fun _ => rfl, fun _ => rfl, fun _ => rfl, fun _ => rfl, fun _ => rfl, fun _ => rfl, fun _ => rfl, fun _ => rfl, fun _ => rfl, fun _ => rfl, fun _ => rfl, fun _ => rfl, fun _ => rfl, fun _ => rfl, fun _ => rfl, fun _ => rfl, fun _ => rfl, fun _ => rfl, fun _ => rfl, fun h => absurd (by decide) h, fun _ => rfl, fun _ => rfl, fun _ => rfl, fun _ => rfl, fun _ => rfl, fun h => absurd (by decide) h, fun _ => rfl, fun _ => rfl⟩
  unfold trace1; repeat' split
  · exact (h _).trans (tracePush_only _ _ _ _ _ _ _)
  · exact traceLose_only s
  · exact Only.refl _ s

@[simp] theorem trace1_pending (s : State) (u ty : Nat) (ctx : Option Nat) (src : Nat) (p0 p1 : Word) : (trace1 u ty ctx src p0 p1 s).pending = s.pending := (trace1_only s u ty ctx src p0 p1).pending (by decide)
@[simp] theorem trace1_variant (s : State) (u ty : Nat) (ctx : Option Nat) (src : Nat) (p0 p1 : Word) : (trace1 u ty ctx src p0 p1 s).variant = s.variant := (trace1_only s u ty ctx src p0 p1).variant (by decide)
@[simp] theorem trace1_hc (s : State) (u ty : Nat) (ctx : Option Nat) (src : Nat) (p0 p1 : Word) : (trace1 u ty ctx src p0 p1 s).hc = s.hc := (trace1_only s u ty ctx src p0 p1).hc (by decide)
@[simp] theorem trace1_tb (s : State) (u ty : Nat) (ctx : Option Nat) (src : Nat) (p0 p1 : Word) : (trace1 u ty ctx src p0 p1 s).tb = s.tb := (trace1_only s u ty ctx src p0 p1).tb (by decide)
@[simp] theorem trace1_tbPhase (s : State) (u ty : Nat) (ctx : Option Nat) (src : Nat) (p0 p1 : Word) : (trace1 u ty ctx src p0 p1 s).tbPhase = s.tbPhase := (trace1_only s u ty ctx src p0 p1).tbPhase (by decide)
@[simp] theorem trace1_fmhz (s : State) (u ty : Nat) (ctx : Option Nat) (src : Nat) (p0 p1 : Word) : (trace1 u ty ctx src p0 p1 s).fmhz = s.fmhz := (trace1_only s u ty ctx src p0 p1).fmhz (by decide)
@[simp] theorem trace1_free (s : State) (u ty : Nat) (ctx : Option Nat) (src : Nat) (p0 p1 : Word) : (trace1 u ty ctx src p0 p1 s).free = s.free := (trace1_only s u ty ctx src p0 p1).free (by decide)
@[simp] theorem trace1_selHost (s : State) (u ty : Nat) (ctx : Option Nat) (src : Nat) (p0 p1 : Word) : (trace1 u ty ctx src p0 p1 s).selHost = s.selHost := (trace1_only s u ty ctx src p0 p1).selHost (by decide)
@[simp] theorem trace1_selMgmt (s : State) (u ty : Nat) (ctx : Option Nat) (src : Nat) (p0 p1 : Word) : (trace1 u ty ctx src p0 p1 s).selMgmt = s.selMgmt := (trace1_only s u ty ctx src p0 p1).selMgmt (by decide)
@[simp] theorem trace1_glb (s : State) (u ty : Nat) (ctx : Option Nat) (src : Nat) (p0 p1 : Word) : (trace1 u ty ctx src p0 p1 s).glb = s.glb := (trace1_only s u ty ctx src p0 p1).glb (by decide)
@[simp] theorem trace1_en (s : State) (u ty : Nat) (ctx : Option Nat) (src : Nat) (p0 p1 : Word) : (trace1 u ty ctx src p0 p1 s).en = s.en := (trace1_only s u ty ctx src p0 p1).en (by decide)
@[simp] theorem trace1_ctxs (s : State) (u ty : Nat) (ctx : Option Nat) (src : Nat) (p0 p1 : Word) : (trace1 u ty ctx src p0 p1 s).ctxs = s.ctxs := (trace1_only s u ty ctx src p0 p1).ctxs (by decide)
@[simp] theorem trace1_templates (s : State) (u ty : Nat) (ctx : Option Nat) (src : Nat) (p0 p1 : Word) : (trace1 u ty ctx src p0 p1 s).templates = s.templates := (trace1_only s u ty ctx src p0 p1).templates (by decide)
@[simp] theorem trace1_launches (s : State) (u ty : Nat) (ctx : Option Nat) (src : Nat) (p0 p1 : Word) : (trace1 u ty ctx src p0 p1 s).launches = s.launches := (trace1_only s u ty ctx src p0 p1).launches (by decide)
@[simp] theorem trace1_heldLaunches (s : State) (u ty : Nat) (ctx : Option Nat) (src : Nat) (p0 p1 : Word) : (trace1 u ty ctx src p0 p1 s).heldLaunches = s.heldLaunches := (trace1_only s u ty ctx src p0 p1).heldLaunches (by decide)
@[simp] theorem trace1_hub (s : State) (u ty : Nat) (ctx : Option Nat) (src : Nat) (p0 p1 : Word) : (trace1 u ty ctx src p0 p1 s).hub = s.hub := (trace1_only s u ty ctx src p0 p1).hub (by decide)
@[simp] theorem trace1_disp (s : State) (u ty : Nat) (ctx : Option Nat) (src : Nat) (p0 p1 : Word) : (trace1 u ty ctx src p0 p1 s).disp = s.disp := (trace1_only s u ty ctx src p0 p1).disp (by decide)
@[simp] theorem trace1_fold (s : State) (u ty : Nat) (ctx : Option Nat) (src : Nat) (p0 p1 : Word) : (trace1 u ty ctx src p0 p1 s).fold = s.fold := (trace1_only s u ty ctx src p0 p1).fold (by decide)
@[simp] theorem trace1_rings (s : State) (u ty : Nat) (ctx : Option Nat) (src : Nat) (p0 p1 : Word) : (trace1 u ty ctx src p0 p1 s).rings = s.rings := (trace1_only s u ty ctx src p0 p1).rings (by decide)
@[simp] theorem trace1_cbs (s : State) (u ty : Nat) (ctx : Option Nat) (src : Nat) (p0 p1 : Word) : (trace1 u ty ctx src p0 p1 s).cbs = s.cbs := (trace1_only s u ty ctx src p0 p1).cbs (by decide)
@[simp] theorem trace1_dmas (s : State) (u ty : Nat) (ctx : Option Nat) (src : Nat) (p0 p1 : Word) : (trace1 u ty ctx src p0 p1 s).dmas = s.dmas := (trace1_only s u ty ctx src p0 p1).dmas (by decide)
@[simp] theorem trace1_dlm (s : State) (u ty : Nat) (ctx : Option Nat) (src : Nat) (p0 p1 : Word) : (trace1 u ty ctx src p0 p1 s).dlm = s.dlm := (trace1_only s u ty ctx src p0 p1).dlm (by decide)
@[simp] theorem trace1_ckpts (s : State) (u ty : Nat) (ctx : Option Nat) (src : Nat) (p0 p1 : Word) : (trace1 u ty ctx src p0 p1 s).ckpts = s.ckpts := (trace1_only s u ty ctx src p0 p1).ckpts (by decide)
@[simp] theorem trace1_sync (s : State) (u ty : Nat) (ctx : Option Nat) (src : Nat) (p0 p1 : Word) : (trace1 u ty ctx src p0 p1 s).sync = s.sync := (trace1_only s u ty ctx src p0 p1).sync (by decide)
@[simp] theorem trace1_queues (s : State) (u ty : Nat) (ctx : Option Nat) (src : Nat) (p0 p1 : Word) : (trace1 u ty ctx src p0 p1 s).queues = s.queues := (trace1_only s u ty ctx src p0 p1).queues (by decide)
@[simp] theorem trace1_msgs (s : State) (u ty : Nat) (ctx : Option Nat) (src : Nat) (p0 p1 : Word) : (trace1 u ty ctx src p0 p1 s).msgs = s.msgs := (trace1_only s u ty ctx src p0 p1).msgs (by decide)
@[simp] theorem trace1_fab (s : State) (u ty : Nat) (ctx : Option Nat) (src : Nat) (p0 p1 : Word) : (trace1 u ty ctx src p0 p1 s).fab = s.fab := (trace1_only s u ty ctx src p0 p1).fab (by decide)
@[simp] theorem trace1_mem (s : State) (u ty : Nat) (ctx : Option Nat) (src : Nat) (p0 p1 : Word) : (trace1 u ty ctx src p0 p1 s).mem = s.mem := (trace1_only s u ty ctx src p0 p1).mem (by decide)
@[simp] theorem trace1_poison (s : State) (u ty : Nat) (ctx : Option Nat) (src : Nat) (p0 p1 : Word) : (trace1 u ty ctx src p0 p1 s).poison = s.poison := (trace1_only s u ty ctx src p0 p1).poison (by decide)
@[simp] theorem trace1_refuse (s : State) (u ty : Nat) (ctx : Option Nat) (src : Nat) (p0 p1 : Word) : (trace1 u ty ctx src p0 p1 s).refuse = s.refuse := (trace1_only s u ty ctx src p0 p1).refuse (by decide)
@[simp] theorem trace1_nextId (s : State) (u ty : Nat) (ctx : Option Nat) (src : Nat) (p0 p1 : Word) : (trace1 u ty ctx src p0 p1 s).nextId = s.nextId := (trace1_only s u ty ctx src p0 p1).nextId (by decide)
@[simp] theorem trace1_lanes (s : State) (u ty : Nat) (ctx : Option Nat) (src : Nat) (p0 p1 : Word) : (trace1 u ty ctx src p0 p1 s).lanes = s.lanes := (trace1_only s u ty ctx src p0 p1).lanes (by decide)
@[simp] theorem trace1_reqs (s : State) (u ty : Nat) (ctx : Option Nat) (src : Nat) (p0 p1 : Word) : (trace1 u ty ctx src p0 p1 s).reqs = s.reqs := (trace1_only s u ty ctx src p0 p1).reqs (by decide)
@[simp] theorem trace1_out (s : State) (u ty : Nat) (ctx : Option Nat) (src : Nat) (p0 p1 : Word) : (trace1 u ty ctx src p0 p1 s).out = s.out := (trace1_only s u ty ctx src p0 p1).out (by decide)

/-! ## trace2 -/

theorem trace2_only (s : State) (u ty : Nat) (ctx : Option Nat) (src : Nat) (p0 p1 : Word) : Only [.regs, .obs, .cyc] s (trace2 u ty ctx src p0 p1 s) := by
  have h : ∀ x : Obs, Only [.regs, .obs, .cyc] s { s with obs := x } := fun x =>
    ⟨fun _ => rfl, fun _ => rfl, fun _ => rfl, fun _ => rfl, fun _ => rfl, fun _ => rfl, fun _ => rfl, fun h => absurd (by decide) h, fun _ => rfl, fun _ => rfl, fun _ => rfl, fun _ => rfl, fun _ => rfl, fun _ => rfl, fun _ => rfl, fun _ => rfl, fun _ => rfl, fun _ => rfl, fun _ => rfl, fun _ => rfl, fun _ => rfl, fun _ => rfl, fun _ => rfl, fun _ => rfl, fun _ => rfl, fun _ => rfl, fun _ => rfl, fun _ => rfl, fun h => absurd (by decide) h, fun _ => rfl, fun _ => rfl, fun _ => rfl, fun _ => rfl, fun _ => rfl, fun h => absurd (by decide) h, fun _ => rfl, fun _ => rfl⟩
  unfold trace2; repeat' split
  · exact (h _).trans (tracePush_only _ _ _ _ _ _ _)
  · exact traceLose_only s
  · exact Only.refl _ s

@[simp] theorem trace2_pending (s : State) (u ty : Nat) (ctx : Option Nat) (src : Nat) (p0 p1 : Word) : (trace2 u ty ctx src p0 p1 s).pending = s.pending := (trace2_only s u ty ctx src p0 p1).pending (by decide)
@[simp] theorem trace2_variant (s : State) (u ty : Nat) (ctx : Option Nat) (src : Nat) (p0 p1 : Word) : (trace2 u ty ctx src p0 p1 s).variant = s.variant := (trace2_only s u ty ctx src p0 p1).variant (by decide)
@[simp] theorem trace2_hc (s : State) (u ty : Nat) (ctx : Option Nat) (src : Nat) (p0 p1 : Word) : (trace2 u ty ctx src p0 p1 s).hc = s.hc := (trace2_only s u ty ctx src p0 p1).hc (by decide)
@[simp] theorem trace2_tb (s : State) (u ty : Nat) (ctx : Option Nat) (src : Nat) (p0 p1 : Word) : (trace2 u ty ctx src p0 p1 s).tb = s.tb := (trace2_only s u ty ctx src p0 p1).tb (by decide)
@[simp] theorem trace2_tbPhase (s : State) (u ty : Nat) (ctx : Option Nat) (src : Nat) (p0 p1 : Word) : (trace2 u ty ctx src p0 p1 s).tbPhase = s.tbPhase := (trace2_only s u ty ctx src p0 p1).tbPhase (by decide)
@[simp] theorem trace2_fmhz (s : State) (u ty : Nat) (ctx : Option Nat) (src : Nat) (p0 p1 : Word) : (trace2 u ty ctx src p0 p1 s).fmhz = s.fmhz := (trace2_only s u ty ctx src p0 p1).fmhz (by decide)
@[simp] theorem trace2_free (s : State) (u ty : Nat) (ctx : Option Nat) (src : Nat) (p0 p1 : Word) : (trace2 u ty ctx src p0 p1 s).free = s.free := (trace2_only s u ty ctx src p0 p1).free (by decide)
@[simp] theorem trace2_selHost (s : State) (u ty : Nat) (ctx : Option Nat) (src : Nat) (p0 p1 : Word) : (trace2 u ty ctx src p0 p1 s).selHost = s.selHost := (trace2_only s u ty ctx src p0 p1).selHost (by decide)
@[simp] theorem trace2_selMgmt (s : State) (u ty : Nat) (ctx : Option Nat) (src : Nat) (p0 p1 : Word) : (trace2 u ty ctx src p0 p1 s).selMgmt = s.selMgmt := (trace2_only s u ty ctx src p0 p1).selMgmt (by decide)
@[simp] theorem trace2_glb (s : State) (u ty : Nat) (ctx : Option Nat) (src : Nat) (p0 p1 : Word) : (trace2 u ty ctx src p0 p1 s).glb = s.glb := (trace2_only s u ty ctx src p0 p1).glb (by decide)
@[simp] theorem trace2_en (s : State) (u ty : Nat) (ctx : Option Nat) (src : Nat) (p0 p1 : Word) : (trace2 u ty ctx src p0 p1 s).en = s.en := (trace2_only s u ty ctx src p0 p1).en (by decide)
@[simp] theorem trace2_ctxs (s : State) (u ty : Nat) (ctx : Option Nat) (src : Nat) (p0 p1 : Word) : (trace2 u ty ctx src p0 p1 s).ctxs = s.ctxs := (trace2_only s u ty ctx src p0 p1).ctxs (by decide)
@[simp] theorem trace2_templates (s : State) (u ty : Nat) (ctx : Option Nat) (src : Nat) (p0 p1 : Word) : (trace2 u ty ctx src p0 p1 s).templates = s.templates := (trace2_only s u ty ctx src p0 p1).templates (by decide)
@[simp] theorem trace2_launches (s : State) (u ty : Nat) (ctx : Option Nat) (src : Nat) (p0 p1 : Word) : (trace2 u ty ctx src p0 p1 s).launches = s.launches := (trace2_only s u ty ctx src p0 p1).launches (by decide)
@[simp] theorem trace2_heldLaunches (s : State) (u ty : Nat) (ctx : Option Nat) (src : Nat) (p0 p1 : Word) : (trace2 u ty ctx src p0 p1 s).heldLaunches = s.heldLaunches := (trace2_only s u ty ctx src p0 p1).heldLaunches (by decide)
@[simp] theorem trace2_hub (s : State) (u ty : Nat) (ctx : Option Nat) (src : Nat) (p0 p1 : Word) : (trace2 u ty ctx src p0 p1 s).hub = s.hub := (trace2_only s u ty ctx src p0 p1).hub (by decide)
@[simp] theorem trace2_disp (s : State) (u ty : Nat) (ctx : Option Nat) (src : Nat) (p0 p1 : Word) : (trace2 u ty ctx src p0 p1 s).disp = s.disp := (trace2_only s u ty ctx src p0 p1).disp (by decide)
@[simp] theorem trace2_fold (s : State) (u ty : Nat) (ctx : Option Nat) (src : Nat) (p0 p1 : Word) : (trace2 u ty ctx src p0 p1 s).fold = s.fold := (trace2_only s u ty ctx src p0 p1).fold (by decide)
@[simp] theorem trace2_rings (s : State) (u ty : Nat) (ctx : Option Nat) (src : Nat) (p0 p1 : Word) : (trace2 u ty ctx src p0 p1 s).rings = s.rings := (trace2_only s u ty ctx src p0 p1).rings (by decide)
@[simp] theorem trace2_cbs (s : State) (u ty : Nat) (ctx : Option Nat) (src : Nat) (p0 p1 : Word) : (trace2 u ty ctx src p0 p1 s).cbs = s.cbs := (trace2_only s u ty ctx src p0 p1).cbs (by decide)
@[simp] theorem trace2_dmas (s : State) (u ty : Nat) (ctx : Option Nat) (src : Nat) (p0 p1 : Word) : (trace2 u ty ctx src p0 p1 s).dmas = s.dmas := (trace2_only s u ty ctx src p0 p1).dmas (by decide)
@[simp] theorem trace2_dlm (s : State) (u ty : Nat) (ctx : Option Nat) (src : Nat) (p0 p1 : Word) : (trace2 u ty ctx src p0 p1 s).dlm = s.dlm := (trace2_only s u ty ctx src p0 p1).dlm (by decide)
@[simp] theorem trace2_ckpts (s : State) (u ty : Nat) (ctx : Option Nat) (src : Nat) (p0 p1 : Word) : (trace2 u ty ctx src p0 p1 s).ckpts = s.ckpts := (trace2_only s u ty ctx src p0 p1).ckpts (by decide)
@[simp] theorem trace2_sync (s : State) (u ty : Nat) (ctx : Option Nat) (src : Nat) (p0 p1 : Word) : (trace2 u ty ctx src p0 p1 s).sync = s.sync := (trace2_only s u ty ctx src p0 p1).sync (by decide)
@[simp] theorem trace2_queues (s : State) (u ty : Nat) (ctx : Option Nat) (src : Nat) (p0 p1 : Word) : (trace2 u ty ctx src p0 p1 s).queues = s.queues := (trace2_only s u ty ctx src p0 p1).queues (by decide)
@[simp] theorem trace2_msgs (s : State) (u ty : Nat) (ctx : Option Nat) (src : Nat) (p0 p1 : Word) : (trace2 u ty ctx src p0 p1 s).msgs = s.msgs := (trace2_only s u ty ctx src p0 p1).msgs (by decide)
@[simp] theorem trace2_fab (s : State) (u ty : Nat) (ctx : Option Nat) (src : Nat) (p0 p1 : Word) : (trace2 u ty ctx src p0 p1 s).fab = s.fab := (trace2_only s u ty ctx src p0 p1).fab (by decide)
@[simp] theorem trace2_mem (s : State) (u ty : Nat) (ctx : Option Nat) (src : Nat) (p0 p1 : Word) : (trace2 u ty ctx src p0 p1 s).mem = s.mem := (trace2_only s u ty ctx src p0 p1).mem (by decide)
@[simp] theorem trace2_poison (s : State) (u ty : Nat) (ctx : Option Nat) (src : Nat) (p0 p1 : Word) : (trace2 u ty ctx src p0 p1 s).poison = s.poison := (trace2_only s u ty ctx src p0 p1).poison (by decide)
@[simp] theorem trace2_refuse (s : State) (u ty : Nat) (ctx : Option Nat) (src : Nat) (p0 p1 : Word) : (trace2 u ty ctx src p0 p1 s).refuse = s.refuse := (trace2_only s u ty ctx src p0 p1).refuse (by decide)
@[simp] theorem trace2_nextId (s : State) (u ty : Nat) (ctx : Option Nat) (src : Nat) (p0 p1 : Word) : (trace2 u ty ctx src p0 p1 s).nextId = s.nextId := (trace2_only s u ty ctx src p0 p1).nextId (by decide)
@[simp] theorem trace2_lanes (s : State) (u ty : Nat) (ctx : Option Nat) (src : Nat) (p0 p1 : Word) : (trace2 u ty ctx src p0 p1 s).lanes = s.lanes := (trace2_only s u ty ctx src p0 p1).lanes (by decide)
@[simp] theorem trace2_reqs (s : State) (u ty : Nat) (ctx : Option Nat) (src : Nat) (p0 p1 : Word) : (trace2 u ty ctx src p0 p1 s).reqs = s.reqs := (trace2_only s u ty ctx src p0 p1).reqs (by decide)
@[simp] theorem trace2_out (s : State) (u ty : Nat) (ctx : Option Nat) (src : Nat) (p0 p1 : Word) : (trace2 u ty ctx src p0 p1 s).out = s.out := (trace2_only s u ty ctx src p0 p1).out (by decide)

/-! ## perturbBy -/

theorem perturbBy_only (s : State) (site : Nat) : Only [.regs, .obs, .cyc] s ((perturbBy site s).2) := by
  have h : ∀ x : Obs, Only [.regs, .obs, .cyc] s { s with obs := x } := fun x =>
    ⟨fun _ => rfl, fun _ => rfl, fun _ => rfl, fun _ => rfl, fun _ => rfl, fun _ => rfl, fun _ => rfl, fun h => absurd (by decide) h, fun _ => rfl, fun _ => rfl, fun _ => rfl, fun _ => rfl, fun _ => rfl, fun _ => rfl, fun _ => rfl, fun _ => rfl, fun _ => rfl, fun _ => rfl, fun _ => rfl, fun _ => rfl, fun _ => rfl, fun _ => rfl, fun _ => rfl, fun _ => rfl, fun _ => rfl, fun _ => rfl, fun _ => rfl, fun _ => rfl, fun h => absurd (by decide) h, fun _ => rfl, fun _ => rfl, fun _ => rfl, fun _ => rfl, fun _ => rfl, fun h => absurd (by decide) h, fun _ => rfl, fun _ => rfl⟩
  unfold perturbBy; dsimp only
  split
  · split
    · exact h _
    · exact (h _).trans (bump_only _ _ _).mono
  · exact Only.refl _ s

@[simp] theorem perturbBy_pending (s : State) (site : Nat) : ((perturbBy site s).2).pending = s.pending := (perturbBy_only s site).pending (by decide)
@[simp] theorem perturbBy_variant (s : State) (site : Nat) : ((perturbBy site s).2).variant = s.variant := (perturbBy_only s site).variant (by decide)
@[simp] theorem perturbBy_hc (s : State) (site : Nat) : ((perturbBy site s).2).hc = s.hc := (perturbBy_only s site).hc (by decide)
@[simp] theorem perturbBy_tb (s : State) (site : Nat) : ((perturbBy site s).2).tb = s.tb := (perturbBy_only s site).tb (by decide)
@[simp] theorem perturbBy_tbPhase (s : State) (site : Nat) : ((perturbBy site s).2).tbPhase = s.tbPhase := (perturbBy_only s site).tbPhase (by decide)
@[simp] theorem perturbBy_fmhz (s : State) (site : Nat) : ((perturbBy site s).2).fmhz = s.fmhz := (perturbBy_only s site).fmhz (by decide)
@[simp] theorem perturbBy_free (s : State) (site : Nat) : ((perturbBy site s).2).free = s.free := (perturbBy_only s site).free (by decide)
@[simp] theorem perturbBy_selHost (s : State) (site : Nat) : ((perturbBy site s).2).selHost = s.selHost := (perturbBy_only s site).selHost (by decide)
@[simp] theorem perturbBy_selMgmt (s : State) (site : Nat) : ((perturbBy site s).2).selMgmt = s.selMgmt := (perturbBy_only s site).selMgmt (by decide)
@[simp] theorem perturbBy_glb (s : State) (site : Nat) : ((perturbBy site s).2).glb = s.glb := (perturbBy_only s site).glb (by decide)
@[simp] theorem perturbBy_en (s : State) (site : Nat) : ((perturbBy site s).2).en = s.en := (perturbBy_only s site).en (by decide)
@[simp] theorem perturbBy_ctxs (s : State) (site : Nat) : ((perturbBy site s).2).ctxs = s.ctxs := (perturbBy_only s site).ctxs (by decide)
@[simp] theorem perturbBy_templates (s : State) (site : Nat) : ((perturbBy site s).2).templates = s.templates := (perturbBy_only s site).templates (by decide)
@[simp] theorem perturbBy_launches (s : State) (site : Nat) : ((perturbBy site s).2).launches = s.launches := (perturbBy_only s site).launches (by decide)
@[simp] theorem perturbBy_heldLaunches (s : State) (site : Nat) : ((perturbBy site s).2).heldLaunches = s.heldLaunches := (perturbBy_only s site).heldLaunches (by decide)
@[simp] theorem perturbBy_hub (s : State) (site : Nat) : ((perturbBy site s).2).hub = s.hub := (perturbBy_only s site).hub (by decide)
@[simp] theorem perturbBy_disp (s : State) (site : Nat) : ((perturbBy site s).2).disp = s.disp := (perturbBy_only s site).disp (by decide)
@[simp] theorem perturbBy_fold (s : State) (site : Nat) : ((perturbBy site s).2).fold = s.fold := (perturbBy_only s site).fold (by decide)
@[simp] theorem perturbBy_rings (s : State) (site : Nat) : ((perturbBy site s).2).rings = s.rings := (perturbBy_only s site).rings (by decide)
@[simp] theorem perturbBy_cbs (s : State) (site : Nat) : ((perturbBy site s).2).cbs = s.cbs := (perturbBy_only s site).cbs (by decide)
@[simp] theorem perturbBy_dmas (s : State) (site : Nat) : ((perturbBy site s).2).dmas = s.dmas := (perturbBy_only s site).dmas (by decide)
@[simp] theorem perturbBy_dlm (s : State) (site : Nat) : ((perturbBy site s).2).dlm = s.dlm := (perturbBy_only s site).dlm (by decide)
@[simp] theorem perturbBy_ckpts (s : State) (site : Nat) : ((perturbBy site s).2).ckpts = s.ckpts := (perturbBy_only s site).ckpts (by decide)
@[simp] theorem perturbBy_sync (s : State) (site : Nat) : ((perturbBy site s).2).sync = s.sync := (perturbBy_only s site).sync (by decide)
@[simp] theorem perturbBy_queues (s : State) (site : Nat) : ((perturbBy site s).2).queues = s.queues := (perturbBy_only s site).queues (by decide)
@[simp] theorem perturbBy_msgs (s : State) (site : Nat) : ((perturbBy site s).2).msgs = s.msgs := (perturbBy_only s site).msgs (by decide)
@[simp] theorem perturbBy_fab (s : State) (site : Nat) : ((perturbBy site s).2).fab = s.fab := (perturbBy_only s site).fab (by decide)
@[simp] theorem perturbBy_mem (s : State) (site : Nat) : ((perturbBy site s).2).mem = s.mem := (perturbBy_only s site).mem (by decide)
@[simp] theorem perturbBy_poison (s : State) (site : Nat) : ((perturbBy site s).2).poison = s.poison := (perturbBy_only s site).poison (by decide)
@[simp] theorem perturbBy_refuse (s : State) (site : Nat) : ((perturbBy site s).2).refuse = s.refuse := (perturbBy_only s site).refuse (by decide)
@[simp] theorem perturbBy_nextId (s : State) (site : Nat) : ((perturbBy site s).2).nextId = s.nextId := (perturbBy_only s site).nextId (by decide)
@[simp] theorem perturbBy_lanes (s : State) (site : Nat) : ((perturbBy site s).2).lanes = s.lanes := (perturbBy_only s site).lanes (by decide)
@[simp] theorem perturbBy_reqs (s : State) (site : Nat) : ((perturbBy site s).2).reqs = s.reqs := (perturbBy_only s site).reqs (by decide)
@[simp] theorem perturbBy_out (s : State) (site : Nat) : ((perturbBy site s).2).out = s.out := (perturbBy_only s site).out (by decide)

/-! ## perturb -/

theorem perturb_only (s : State) (site : Nat) : Only [.regs, .obs, .cyc] s ((perturb site s).2) :=
    perturbBy_only s site

@[simp] theorem perturb_pending (s : State) (site : Nat) : ((perturb site s).2).pending = s.pending := (perturb_only s site).pending (by decide)
@[simp] theorem perturb_variant (s : State) (site : Nat) : ((perturb site s).2).variant = s.variant := (perturb_only s site).variant (by decide)
@[simp] theorem perturb_hc (s : State) (site : Nat) : ((perturb site s).2).hc = s.hc := (perturb_only s site).hc (by decide)
@[simp] theorem perturb_tb (s : State) (site : Nat) : ((perturb site s).2).tb = s.tb := (perturb_only s site).tb (by decide)
@[simp] theorem perturb_tbPhase (s : State) (site : Nat) : ((perturb site s).2).tbPhase = s.tbPhase := (perturb_only s site).tbPhase (by decide)
@[simp] theorem perturb_fmhz (s : State) (site : Nat) : ((perturb site s).2).fmhz = s.fmhz := (perturb_only s site).fmhz (by decide)
@[simp] theorem perturb_free (s : State) (site : Nat) : ((perturb site s).2).free = s.free := (perturb_only s site).free (by decide)
@[simp] theorem perturb_selHost (s : State) (site : Nat) : ((perturb site s).2).selHost = s.selHost := (perturb_only s site).selHost (by decide)
@[simp] theorem perturb_selMgmt (s : State) (site : Nat) : ((perturb site s).2).selMgmt = s.selMgmt := (perturb_only s site).selMgmt (by decide)
@[simp] theorem perturb_glb (s : State) (site : Nat) : ((perturb site s).2).glb = s.glb := (perturb_only s site).glb (by decide)
@[simp] theorem perturb_en (s : State) (site : Nat) : ((perturb site s).2).en = s.en := (perturb_only s site).en (by decide)
@[simp] theorem perturb_ctxs (s : State) (site : Nat) : ((perturb site s).2).ctxs = s.ctxs := (perturb_only s site).ctxs (by decide)
@[simp] theorem perturb_templates (s : State) (site : Nat) : ((perturb site s).2).templates = s.templates := (perturb_only s site).templates (by decide)
@[simp] theorem perturb_launches (s : State) (site : Nat) : ((perturb site s).2).launches = s.launches := (perturb_only s site).launches (by decide)
@[simp] theorem perturb_heldLaunches (s : State) (site : Nat) : ((perturb site s).2).heldLaunches = s.heldLaunches := (perturb_only s site).heldLaunches (by decide)
@[simp] theorem perturb_hub (s : State) (site : Nat) : ((perturb site s).2).hub = s.hub := (perturb_only s site).hub (by decide)
@[simp] theorem perturb_disp (s : State) (site : Nat) : ((perturb site s).2).disp = s.disp := (perturb_only s site).disp (by decide)
@[simp] theorem perturb_fold (s : State) (site : Nat) : ((perturb site s).2).fold = s.fold := (perturb_only s site).fold (by decide)
@[simp] theorem perturb_rings (s : State) (site : Nat) : ((perturb site s).2).rings = s.rings := (perturb_only s site).rings (by decide)
@[simp] theorem perturb_cbs (s : State) (site : Nat) : ((perturb site s).2).cbs = s.cbs := (perturb_only s site).cbs (by decide)
@[simp] theorem perturb_dmas (s : State) (site : Nat) : ((perturb site s).2).dmas = s.dmas := (perturb_only s site).dmas (by decide)
@[simp] theorem perturb_dlm (s : State) (site : Nat) : ((perturb site s).2).dlm = s.dlm := (perturb_only s site).dlm (by decide)
@[simp] theorem perturb_ckpts (s : State) (site : Nat) : ((perturb site s).2).ckpts = s.ckpts := (perturb_only s site).ckpts (by decide)
@[simp] theorem perturb_sync (s : State) (site : Nat) : ((perturb site s).2).sync = s.sync := (perturb_only s site).sync (by decide)
@[simp] theorem perturb_queues (s : State) (site : Nat) : ((perturb site s).2).queues = s.queues := (perturb_only s site).queues (by decide)
@[simp] theorem perturb_msgs (s : State) (site : Nat) : ((perturb site s).2).msgs = s.msgs := (perturb_only s site).msgs (by decide)
@[simp] theorem perturb_fab (s : State) (site : Nat) : ((perturb site s).2).fab = s.fab := (perturb_only s site).fab (by decide)
@[simp] theorem perturb_mem (s : State) (site : Nat) : ((perturb site s).2).mem = s.mem := (perturb_only s site).mem (by decide)
@[simp] theorem perturb_poison (s : State) (site : Nat) : ((perturb site s).2).poison = s.poison := (perturb_only s site).poison (by decide)
@[simp] theorem perturb_refuse (s : State) (site : Nat) : ((perturb site s).2).refuse = s.refuse := (perturb_only s site).refuse (by decide)
@[simp] theorem perturb_nextId (s : State) (site : Nat) : ((perturb site s).2).nextId = s.nextId := (perturb_only s site).nextId (by decide)
@[simp] theorem perturb_lanes (s : State) (site : Nat) : ((perturb site s).2).lanes = s.lanes := (perturb_only s site).lanes (by decide)
@[simp] theorem perturb_reqs (s : State) (site : Nat) : ((perturb site s).2).reqs = s.reqs := (perturb_only s site).reqs (by decide)
@[simp] theorem perturb_out (s : State) (site : Nat) : ((perturb site s).2).out = s.out := (perturb_only s site).out (by decide)

/-! ## perturbed -/

theorem perturbed_only (s : State) (site : Nat) : Only [.regs, .obs, .cyc] s (perturbed site s) :=
    perturbBy_only s site

@[simp] theorem perturbed_pending (s : State) (site : Nat) : (perturbed site s).pending = s.pending := (perturbed_only s site).pending (by decide)
@[simp] theorem perturbed_variant (s : State) (site : Nat) : (perturbed site s).variant = s.variant := (perturbed_only s site).variant (by decide)
@[simp] theorem perturbed_hc (s : State) (site : Nat) : (perturbed site s).hc = s.hc := (perturbed_only s site).hc (by decide)
@[simp] theorem perturbed_tb (s : State) (site : Nat) : (perturbed site s).tb = s.tb := (perturbed_only s site).tb (by decide)
@[simp] theorem perturbed_tbPhase (s : State) (site : Nat) : (perturbed site s).tbPhase = s.tbPhase := (perturbed_only s site).tbPhase (by decide)
@[simp] theorem perturbed_fmhz (s : State) (site : Nat) : (perturbed site s).fmhz = s.fmhz := (perturbed_only s site).fmhz (by decide)
@[simp] theorem perturbed_free (s : State) (site : Nat) : (perturbed site s).free = s.free := (perturbed_only s site).free (by decide)
@[simp] theorem perturbed_selHost (s : State) (site : Nat) : (perturbed site s).selHost = s.selHost := (perturbed_only s site).selHost (by decide)
@[simp] theorem perturbed_selMgmt (s : State) (site : Nat) : (perturbed site s).selMgmt = s.selMgmt := (perturbed_only s site).selMgmt (by decide)
@[simp] theorem perturbed_glb (s : State) (site : Nat) : (perturbed site s).glb = s.glb := (perturbed_only s site).glb (by decide)
@[simp] theorem perturbed_en (s : State) (site : Nat) : (perturbed site s).en = s.en := (perturbed_only s site).en (by decide)
@[simp] theorem perturbed_ctxs (s : State) (site : Nat) : (perturbed site s).ctxs = s.ctxs := (perturbed_only s site).ctxs (by decide)
@[simp] theorem perturbed_templates (s : State) (site : Nat) : (perturbed site s).templates = s.templates := (perturbed_only s site).templates (by decide)
@[simp] theorem perturbed_launches (s : State) (site : Nat) : (perturbed site s).launches = s.launches := (perturbed_only s site).launches (by decide)
@[simp] theorem perturbed_heldLaunches (s : State) (site : Nat) : (perturbed site s).heldLaunches = s.heldLaunches := (perturbed_only s site).heldLaunches (by decide)
@[simp] theorem perturbed_hub (s : State) (site : Nat) : (perturbed site s).hub = s.hub := (perturbed_only s site).hub (by decide)
@[simp] theorem perturbed_disp (s : State) (site : Nat) : (perturbed site s).disp = s.disp := (perturbed_only s site).disp (by decide)
@[simp] theorem perturbed_fold (s : State) (site : Nat) : (perturbed site s).fold = s.fold := (perturbed_only s site).fold (by decide)
@[simp] theorem perturbed_rings (s : State) (site : Nat) : (perturbed site s).rings = s.rings := (perturbed_only s site).rings (by decide)
@[simp] theorem perturbed_cbs (s : State) (site : Nat) : (perturbed site s).cbs = s.cbs := (perturbed_only s site).cbs (by decide)
@[simp] theorem perturbed_dmas (s : State) (site : Nat) : (perturbed site s).dmas = s.dmas := (perturbed_only s site).dmas (by decide)
@[simp] theorem perturbed_dlm (s : State) (site : Nat) : (perturbed site s).dlm = s.dlm := (perturbed_only s site).dlm (by decide)
@[simp] theorem perturbed_ckpts (s : State) (site : Nat) : (perturbed site s).ckpts = s.ckpts := (perturbed_only s site).ckpts (by decide)
@[simp] theorem perturbed_sync (s : State) (site : Nat) : (perturbed site s).sync = s.sync := (perturbed_only s site).sync (by decide)
@[simp] theorem perturbed_queues (s : State) (site : Nat) : (perturbed site s).queues = s.queues := (perturbed_only s site).queues (by decide)
@[simp] theorem perturbed_msgs (s : State) (site : Nat) : (perturbed site s).msgs = s.msgs := (perturbed_only s site).msgs (by decide)
@[simp] theorem perturbed_fab (s : State) (site : Nat) : (perturbed site s).fab = s.fab := (perturbed_only s site).fab (by decide)
@[simp] theorem perturbed_mem (s : State) (site : Nat) : (perturbed site s).mem = s.mem := (perturbed_only s site).mem (by decide)
@[simp] theorem perturbed_poison (s : State) (site : Nat) : (perturbed site s).poison = s.poison := (perturbed_only s site).poison (by decide)
@[simp] theorem perturbed_refuse (s : State) (site : Nat) : (perturbed site s).refuse = s.refuse := (perturbed_only s site).refuse (by decide)
@[simp] theorem perturbed_nextId (s : State) (site : Nat) : (perturbed site s).nextId = s.nextId := (perturbed_only s site).nextId (by decide)
@[simp] theorem perturbed_lanes (s : State) (site : Nat) : (perturbed site s).lanes = s.lanes := (perturbed_only s site).lanes (by decide)
@[simp] theorem perturbed_reqs (s : State) (site : Nat) : (perturbed site s).reqs = s.reqs := (perturbed_only s site).reqs (by decide)
@[simp] theorem perturbed_out (s : State) (site : Nat) : (perturbed site s).out = s.out := (perturbed_only s site).out (by decide)

/-! ## laneWait -/

theorem laneWait_only (s : State) (lane req ty : Nat) (r : Rec4) : Only [.lanes, .obs] s (laneWait lane req ty r s) := by
  have h : ∀ l, Only [.lanes, .obs] s { s with lanes := l } := fun l =>
    ⟨fun _ => rfl, fun _ => rfl, fun _ => rfl, fun _ => rfl, fun _ => rfl, fun _ => rfl, fun _ => rfl, fun _ => rfl, fun _ => rfl, fun _ => rfl, fun _ => rfl, fun _ => rfl, fun _ => rfl, fun _ => rfl, fun _ => rfl, fun _ => rfl, fun _ => rfl, fun _ => rfl, fun _ => rfl, fun _ => rfl, fun _ => rfl, fun _ => rfl, fun _ => rfl, fun _ => rfl, fun _ => rfl, fun _ => rfl, fun _ => rfl, fun _ => rfl, fun h => absurd (by decide) h, fun _ => rfl, fun _ => rfl, fun _ => rfl, fun _ => rfl, fun h => absurd (by decide) h, fun _ => rfl, fun _ => rfl, fun _ => rfl⟩
  unfold laneWait; dsimp only
  split
  · exact (h _).trans (linkSent_only _ _ _).mono
  · exact Only.refl _ s

@[simp] theorem laneWait_pending (s : State) (lane req ty : Nat) (r : Rec4) : (laneWait lane req ty r s).pending = s.pending := (laneWait_only s lane req ty r).pending (by decide)
@[simp] theorem laneWait_variant (s : State) (lane req ty : Nat) (r : Rec4) : (laneWait lane req ty r s).variant = s.variant := (laneWait_only s lane req ty r).variant (by decide)
@[simp] theorem laneWait_hc (s : State) (lane req ty : Nat) (r : Rec4) : (laneWait lane req ty r s).hc = s.hc := (laneWait_only s lane req ty r).hc (by decide)
@[simp] theorem laneWait_tb (s : State) (lane req ty : Nat) (r : Rec4) : (laneWait lane req ty r s).tb = s.tb := (laneWait_only s lane req ty r).tb (by decide)
@[simp] theorem laneWait_tbPhase (s : State) (lane req ty : Nat) (r : Rec4) : (laneWait lane req ty r s).tbPhase = s.tbPhase := (laneWait_only s lane req ty r).tbPhase (by decide)
@[simp] theorem laneWait_fmhz (s : State) (lane req ty : Nat) (r : Rec4) : (laneWait lane req ty r s).fmhz = s.fmhz := (laneWait_only s lane req ty r).fmhz (by decide)
@[simp] theorem laneWait_free (s : State) (lane req ty : Nat) (r : Rec4) : (laneWait lane req ty r s).free = s.free := (laneWait_only s lane req ty r).free (by decide)
@[simp] theorem laneWait_regs (s : State) (lane req ty : Nat) (r : Rec4) : (laneWait lane req ty r s).regs = s.regs := (laneWait_only s lane req ty r).regs (by decide)
@[simp] theorem laneWait_selHost (s : State) (lane req ty : Nat) (r : Rec4) : (laneWait lane req ty r s).selHost = s.selHost := (laneWait_only s lane req ty r).selHost (by decide)
@[simp] theorem laneWait_selMgmt (s : State) (lane req ty : Nat) (r : Rec4) : (laneWait lane req ty r s).selMgmt = s.selMgmt := (laneWait_only s lane req ty r).selMgmt (by decide)
@[simp] theorem laneWait_glb (s : State) (lane req ty : Nat) (r : Rec4) : (laneWait lane req ty r s).glb = s.glb := (laneWait_only s lane req ty r).glb (by decide)
@[simp] theorem laneWait_en (s : State) (lane req ty : Nat) (r : Rec4) : (laneWait lane req ty r s).en = s.en := (laneWait_only s lane req ty r).en (by decide)
@[simp] theorem laneWait_ctxs (s : State) (lane req ty : Nat) (r : Rec4) : (laneWait lane req ty r s).ctxs = s.ctxs := (laneWait_only s lane req ty r).ctxs (by decide)
@[simp] theorem laneWait_templates (s : State) (lane req ty : Nat) (r : Rec4) : (laneWait lane req ty r s).templates = s.templates := (laneWait_only s lane req ty r).templates (by decide)
@[simp] theorem laneWait_launches (s : State) (lane req ty : Nat) (r : Rec4) : (laneWait lane req ty r s).launches = s.launches := (laneWait_only s lane req ty r).launches (by decide)
@[simp] theorem laneWait_heldLaunches (s : State) (lane req ty : Nat) (r : Rec4) : (laneWait lane req ty r s).heldLaunches = s.heldLaunches := (laneWait_only s lane req ty r).heldLaunches (by decide)
@[simp] theorem laneWait_hub (s : State) (lane req ty : Nat) (r : Rec4) : (laneWait lane req ty r s).hub = s.hub := (laneWait_only s lane req ty r).hub (by decide)
@[simp] theorem laneWait_disp (s : State) (lane req ty : Nat) (r : Rec4) : (laneWait lane req ty r s).disp = s.disp := (laneWait_only s lane req ty r).disp (by decide)
@[simp] theorem laneWait_fold (s : State) (lane req ty : Nat) (r : Rec4) : (laneWait lane req ty r s).fold = s.fold := (laneWait_only s lane req ty r).fold (by decide)
@[simp] theorem laneWait_rings (s : State) (lane req ty : Nat) (r : Rec4) : (laneWait lane req ty r s).rings = s.rings := (laneWait_only s lane req ty r).rings (by decide)
@[simp] theorem laneWait_cbs (s : State) (lane req ty : Nat) (r : Rec4) : (laneWait lane req ty r s).cbs = s.cbs := (laneWait_only s lane req ty r).cbs (by decide)
@[simp] theorem laneWait_dmas (s : State) (lane req ty : Nat) (r : Rec4) : (laneWait lane req ty r s).dmas = s.dmas := (laneWait_only s lane req ty r).dmas (by decide)
@[simp] theorem laneWait_dlm (s : State) (lane req ty : Nat) (r : Rec4) : (laneWait lane req ty r s).dlm = s.dlm := (laneWait_only s lane req ty r).dlm (by decide)
@[simp] theorem laneWait_ckpts (s : State) (lane req ty : Nat) (r : Rec4) : (laneWait lane req ty r s).ckpts = s.ckpts := (laneWait_only s lane req ty r).ckpts (by decide)
@[simp] theorem laneWait_sync (s : State) (lane req ty : Nat) (r : Rec4) : (laneWait lane req ty r s).sync = s.sync := (laneWait_only s lane req ty r).sync (by decide)
@[simp] theorem laneWait_queues (s : State) (lane req ty : Nat) (r : Rec4) : (laneWait lane req ty r s).queues = s.queues := (laneWait_only s lane req ty r).queues (by decide)
@[simp] theorem laneWait_msgs (s : State) (lane req ty : Nat) (r : Rec4) : (laneWait lane req ty r s).msgs = s.msgs := (laneWait_only s lane req ty r).msgs (by decide)
@[simp] theorem laneWait_fab (s : State) (lane req ty : Nat) (r : Rec4) : (laneWait lane req ty r s).fab = s.fab := (laneWait_only s lane req ty r).fab (by decide)
@[simp] theorem laneWait_mem (s : State) (lane req ty : Nat) (r : Rec4) : (laneWait lane req ty r s).mem = s.mem := (laneWait_only s lane req ty r).mem (by decide)
@[simp] theorem laneWait_poison (s : State) (lane req ty : Nat) (r : Rec4) : (laneWait lane req ty r s).poison = s.poison := (laneWait_only s lane req ty r).poison (by decide)
@[simp] theorem laneWait_refuse (s : State) (lane req ty : Nat) (r : Rec4) : (laneWait lane req ty r s).refuse = s.refuse := (laneWait_only s lane req ty r).refuse (by decide)
@[simp] theorem laneWait_nextId (s : State) (lane req ty : Nat) (r : Rec4) : (laneWait lane req ty r s).nextId = s.nextId := (laneWait_only s lane req ty r).nextId (by decide)
@[simp] theorem laneWait_cyc (s : State) (lane req ty : Nat) (r : Rec4) : (laneWait lane req ty r s).cyc = s.cyc := (laneWait_only s lane req ty r).cyc (by decide)
@[simp] theorem laneWait_reqs (s : State) (lane req ty : Nat) (r : Rec4) : (laneWait lane req ty r s).reqs = s.reqs := (laneWait_only s lane req ty r).reqs (by decide)
@[simp] theorem laneWait_out (s : State) (lane req ty : Nat) (r : Rec4) : (laneWait lane req ty r s).out = s.out := (laneWait_only s lane req ty r).out (by decide)

/-! ## issueReqs -/

theorem issueReqs_only (s : State) (write : Bool) (u : Nat) (c : Option Nat) (part a n : Nat) : Only [.reqs] s (issueReqs write u c part a n s) :=
    ⟨fun _ => rfl, fun _ => rfl, fun _ => rfl, fun _ => rfl, fun _ => rfl, fun _ => rfl, fun _ => rfl, fun _ => rfl, fun _ => rfl, fun _ => rfl, fun _ => rfl, fun _ => rfl, fun _ => rfl, fun _ => rfl, fun _ => rfl, fun _ => rfl, fun _ => rfl, fun _ => rfl, fun _ => rfl, fun _ => rfl, fun _ => rfl, fun _ => rfl, fun _ => rfl, fun _ => rfl, fun _ => rfl, fun _ => rfl, fun _ => rfl, fun _ => rfl, fun _ => rfl, fun _ => rfl, fun _ => rfl, fun _ => rfl, fun _ => rfl, fun _ => rfl, fun _ => rfl, fun h => absurd (by decide) h, fun _ => rfl⟩

@[simp] theorem issueReqs_pending (s : State) (write : Bool) (u : Nat) (c : Option Nat) (part a n : Nat) : (issueReqs write u c part a n s).pending = s.pending := (issueReqs_only s write u c part a n).pending (by decide)
@[simp] theorem issueReqs_variant (s : State) (write : Bool) (u : Nat) (c : Option Nat) (part a n : Nat) : (issueReqs write u c part a n s).variant = s.variant := (issueReqs_only s write u c part a n).variant (by decide)
@[simp] theorem issueReqs_hc (s : State) (write : Bool) (u : Nat) (c : Option Nat) (part a n : Nat) : (issueReqs write u c part a n s).hc = s.hc := (issueReqs_only s write u c part a n).hc (by decide)
@[simp] theorem issueReqs_tb (s : State) (write : Bool) (u : Nat) (c : Option Nat) (part a n : Nat) : (issueReqs write u c part a n s).tb = s.tb := (issueReqs_only s write u c part a n).tb (by decide)
@[simp] theorem issueReqs_tbPhase (s : State) (write : Bool) (u : Nat) (c : Option Nat) (part a n : Nat) : (issueReqs write u c part a n s).tbPhase = s.tbPhase := (issueReqs_only s write u c part a n).tbPhase (by decide)
@[simp] theorem issueReqs_fmhz (s : State) (write : Bool) (u : Nat) (c : Option Nat) (part a n : Nat) : (issueReqs write u c part a n s).fmhz = s.fmhz := (issueReqs_only s write u c part a n).fmhz (by decide)
@[simp] theorem issueReqs_free (s : State) (write : Bool) (u : Nat) (c : Option Nat) (part a n : Nat) : (issueReqs write u c part a n s).free = s.free := (issueReqs_only s write u c part a n).free (by decide)
@[simp] theorem issueReqs_regs (s : State) (write : Bool) (u : Nat) (c : Option Nat) (part a n : Nat) : (issueReqs write u c part a n s).regs = s.regs := (issueReqs_only s write u c part a n).regs (by decide)
@[simp] theorem issueReqs_selHost (s : State) (write : Bool) (u : Nat) (c : Option Nat) (part a n : Nat) : (issueReqs write u c part a n s).selHost = s.selHost := (issueReqs_only s write u c part a n).selHost (by decide)
@[simp] theorem issueReqs_selMgmt (s : State) (write : Bool) (u : Nat) (c : Option Nat) (part a n : Nat) : (issueReqs write u c part a n s).selMgmt = s.selMgmt := (issueReqs_only s write u c part a n).selMgmt (by decide)
@[simp] theorem issueReqs_glb (s : State) (write : Bool) (u : Nat) (c : Option Nat) (part a n : Nat) : (issueReqs write u c part a n s).glb = s.glb := (issueReqs_only s write u c part a n).glb (by decide)
@[simp] theorem issueReqs_en (s : State) (write : Bool) (u : Nat) (c : Option Nat) (part a n : Nat) : (issueReqs write u c part a n s).en = s.en := (issueReqs_only s write u c part a n).en (by decide)
@[simp] theorem issueReqs_ctxs (s : State) (write : Bool) (u : Nat) (c : Option Nat) (part a n : Nat) : (issueReqs write u c part a n s).ctxs = s.ctxs := (issueReqs_only s write u c part a n).ctxs (by decide)
@[simp] theorem issueReqs_templates (s : State) (write : Bool) (u : Nat) (c : Option Nat) (part a n : Nat) : (issueReqs write u c part a n s).templates = s.templates := (issueReqs_only s write u c part a n).templates (by decide)
@[simp] theorem issueReqs_launches (s : State) (write : Bool) (u : Nat) (c : Option Nat) (part a n : Nat) : (issueReqs write u c part a n s).launches = s.launches := (issueReqs_only s write u c part a n).launches (by decide)
@[simp] theorem issueReqs_heldLaunches (s : State) (write : Bool) (u : Nat) (c : Option Nat) (part a n : Nat) : (issueReqs write u c part a n s).heldLaunches = s.heldLaunches := (issueReqs_only s write u c part a n).heldLaunches (by decide)
@[simp] theorem issueReqs_hub (s : State) (write : Bool) (u : Nat) (c : Option Nat) (part a n : Nat) : (issueReqs write u c part a n s).hub = s.hub := (issueReqs_only s write u c part a n).hub (by decide)
@[simp] theorem issueReqs_disp (s : State) (write : Bool) (u : Nat) (c : Option Nat) (part a n : Nat) : (issueReqs write u c part a n s).disp = s.disp := (issueReqs_only s write u c part a n).disp (by decide)
@[simp] theorem issueReqs_fold (s : State) (write : Bool) (u : Nat) (c : Option Nat) (part a n : Nat) : (issueReqs write u c part a n s).fold = s.fold := (issueReqs_only s write u c part a n).fold (by decide)
@[simp] theorem issueReqs_rings (s : State) (write : Bool) (u : Nat) (c : Option Nat) (part a n : Nat) : (issueReqs write u c part a n s).rings = s.rings := (issueReqs_only s write u c part a n).rings (by decide)
@[simp] theorem issueReqs_cbs (s : State) (write : Bool) (u : Nat) (c : Option Nat) (part a n : Nat) : (issueReqs write u c part a n s).cbs = s.cbs := (issueReqs_only s write u c part a n).cbs (by decide)
@[simp] theorem issueReqs_dmas (s : State) (write : Bool) (u : Nat) (c : Option Nat) (part a n : Nat) : (issueReqs write u c part a n s).dmas = s.dmas := (issueReqs_only s write u c part a n).dmas (by decide)
@[simp] theorem issueReqs_dlm (s : State) (write : Bool) (u : Nat) (c : Option Nat) (part a n : Nat) : (issueReqs write u c part a n s).dlm = s.dlm := (issueReqs_only s write u c part a n).dlm (by decide)
@[simp] theorem issueReqs_ckpts (s : State) (write : Bool) (u : Nat) (c : Option Nat) (part a n : Nat) : (issueReqs write u c part a n s).ckpts = s.ckpts := (issueReqs_only s write u c part a n).ckpts (by decide)
@[simp] theorem issueReqs_sync (s : State) (write : Bool) (u : Nat) (c : Option Nat) (part a n : Nat) : (issueReqs write u c part a n s).sync = s.sync := (issueReqs_only s write u c part a n).sync (by decide)
@[simp] theorem issueReqs_queues (s : State) (write : Bool) (u : Nat) (c : Option Nat) (part a n : Nat) : (issueReqs write u c part a n s).queues = s.queues := (issueReqs_only s write u c part a n).queues (by decide)
@[simp] theorem issueReqs_msgs (s : State) (write : Bool) (u : Nat) (c : Option Nat) (part a n : Nat) : (issueReqs write u c part a n s).msgs = s.msgs := (issueReqs_only s write u c part a n).msgs (by decide)
@[simp] theorem issueReqs_fab (s : State) (write : Bool) (u : Nat) (c : Option Nat) (part a n : Nat) : (issueReqs write u c part a n s).fab = s.fab := (issueReqs_only s write u c part a n).fab (by decide)
@[simp] theorem issueReqs_obs (s : State) (write : Bool) (u : Nat) (c : Option Nat) (part a n : Nat) : (issueReqs write u c part a n s).obs = s.obs := (issueReqs_only s write u c part a n).obs (by decide)
@[simp] theorem issueReqs_mem (s : State) (write : Bool) (u : Nat) (c : Option Nat) (part a n : Nat) : (issueReqs write u c part a n s).mem = s.mem := (issueReqs_only s write u c part a n).mem (by decide)
@[simp] theorem issueReqs_poison (s : State) (write : Bool) (u : Nat) (c : Option Nat) (part a n : Nat) : (issueReqs write u c part a n s).poison = s.poison := (issueReqs_only s write u c part a n).poison (by decide)
@[simp] theorem issueReqs_refuse (s : State) (write : Bool) (u : Nat) (c : Option Nat) (part a n : Nat) : (issueReqs write u c part a n s).refuse = s.refuse := (issueReqs_only s write u c part a n).refuse (by decide)
@[simp] theorem issueReqs_nextId (s : State) (write : Bool) (u : Nat) (c : Option Nat) (part a n : Nat) : (issueReqs write u c part a n s).nextId = s.nextId := (issueReqs_only s write u c part a n).nextId (by decide)
@[simp] theorem issueReqs_lanes (s : State) (write : Bool) (u : Nat) (c : Option Nat) (part a n : Nat) : (issueReqs write u c part a n s).lanes = s.lanes := (issueReqs_only s write u c part a n).lanes (by decide)
@[simp] theorem issueReqs_cyc (s : State) (write : Bool) (u : Nat) (c : Option Nat) (part a n : Nat) : (issueReqs write u c part a n s).cyc = s.cyc := (issueReqs_only s write u c part a n).cyc (by decide)
@[simp] theorem issueReqs_out (s : State) (write : Bool) (u : Nat) (c : Option Nat) (part a n : Nat) : (issueReqs write u c part a n s).out = s.out := (issueReqs_only s write u c part a n).out (by decide)

/-! ## issueRead -/

theorem issueRead_only (s : State) (u : Nat) (c : Option Nat) (part a n : Nat) : Only [.obs, .reqs] s (issueRead u c part a n s) :=
    (issueReqs_only s false u c part a n).mono.trans (Only.ifThen _ (pmc_only _ _ _ _ _).mono)

@[simp] theorem issueRead_pending (s : State) (u : Nat) (c : Option Nat) (part a n : Nat) : (issueRead u c part a n s).pending = s.pending := (issueRead_only s u c part a n).pending (by decide)
@[simp] theorem issueRead_variant (s : State) (u : Nat) (c : Option Nat) (part a n : Nat) : (issueRead u c part a n s).variant = s.variant := (issueRead_only s u c part a n).variant (by decide)
@[simp] theorem issueRead_hc (s : State) (u : Nat) (c : Option Nat) (part a n : Nat) : (issueRead u c part a n s).hc = s.hc := (issueRead_only s u c part a n).hc (by decide)
@[simp] theorem issueRead_tb (s : State) (u : Nat) (c : Option Nat) (part a n : Nat) : (issueRead u c part a n s).tb = s.tb := (issueRead_only s u c part a n).tb (by decide)
@[simp] theorem issueRead_tbPhase (s : State) (u : Nat) (c : Option Nat) (part a n : Nat) : (issueRead u c part a n s).tbPhase = s.tbPhase := (issueRead_only s u c part a n).tbPhase (by decide)
@[simp] theorem issueRead_fmhz (s : State) (u : Nat) (c : Option Nat) (part a n : Nat) : (issueRead u c part a n s).fmhz = s.fmhz := (issueRead_only s u c part a n).fmhz (by decide)
@[simp] theorem issueRead_free (s : State) (u : Nat) (c : Option Nat) (part a n : Nat) : (issueRead u c part a n s).free = s.free := (issueRead_only s u c part a n).free (by decide)
@[simp] theorem issueRead_regs (s : State) (u : Nat) (c : Option Nat) (part a n : Nat) : (issueRead u c part a n s).regs = s.regs := (issueRead_only s u c part a n).regs (by decide)
@[simp] theorem issueRead_selHost (s : State) (u : Nat) (c : Option Nat) (part a n : Nat) : (issueRead u c part a n s).selHost = s.selHost := (issueRead_only s u c part a n).selHost (by decide)
@[simp] theorem issueRead_selMgmt (s : State) (u : Nat) (c : Option Nat) (part a n : Nat) : (issueRead u c part a n s).selMgmt = s.selMgmt := (issueRead_only s u c part a n).selMgmt (by decide)
@[simp] theorem issueRead_glb (s : State) (u : Nat) (c : Option Nat) (part a n : Nat) : (issueRead u c part a n s).glb = s.glb := (issueRead_only s u c part a n).glb (by decide)
@[simp] theorem issueRead_en (s : State) (u : Nat) (c : Option Nat) (part a n : Nat) : (issueRead u c part a n s).en = s.en := (issueRead_only s u c part a n).en (by decide)
@[simp] theorem issueRead_ctxs (s : State) (u : Nat) (c : Option Nat) (part a n : Nat) : (issueRead u c part a n s).ctxs = s.ctxs := (issueRead_only s u c part a n).ctxs (by decide)
@[simp] theorem issueRead_templates (s : State) (u : Nat) (c : Option Nat) (part a n : Nat) : (issueRead u c part a n s).templates = s.templates := (issueRead_only s u c part a n).templates (by decide)
@[simp] theorem issueRead_launches (s : State) (u : Nat) (c : Option Nat) (part a n : Nat) : (issueRead u c part a n s).launches = s.launches := (issueRead_only s u c part a n).launches (by decide)
@[simp] theorem issueRead_heldLaunches (s : State) (u : Nat) (c : Option Nat) (part a n : Nat) : (issueRead u c part a n s).heldLaunches = s.heldLaunches := (issueRead_only s u c part a n).heldLaunches (by decide)
@[simp] theorem issueRead_hub (s : State) (u : Nat) (c : Option Nat) (part a n : Nat) : (issueRead u c part a n s).hub = s.hub := (issueRead_only s u c part a n).hub (by decide)
@[simp] theorem issueRead_disp (s : State) (u : Nat) (c : Option Nat) (part a n : Nat) : (issueRead u c part a n s).disp = s.disp := (issueRead_only s u c part a n).disp (by decide)
@[simp] theorem issueRead_fold (s : State) (u : Nat) (c : Option Nat) (part a n : Nat) : (issueRead u c part a n s).fold = s.fold := (issueRead_only s u c part a n).fold (by decide)
@[simp] theorem issueRead_rings (s : State) (u : Nat) (c : Option Nat) (part a n : Nat) : (issueRead u c part a n s).rings = s.rings := (issueRead_only s u c part a n).rings (by decide)
@[simp] theorem issueRead_cbs (s : State) (u : Nat) (c : Option Nat) (part a n : Nat) : (issueRead u c part a n s).cbs = s.cbs := (issueRead_only s u c part a n).cbs (by decide)
@[simp] theorem issueRead_dmas (s : State) (u : Nat) (c : Option Nat) (part a n : Nat) : (issueRead u c part a n s).dmas = s.dmas := (issueRead_only s u c part a n).dmas (by decide)
@[simp] theorem issueRead_dlm (s : State) (u : Nat) (c : Option Nat) (part a n : Nat) : (issueRead u c part a n s).dlm = s.dlm := (issueRead_only s u c part a n).dlm (by decide)
@[simp] theorem issueRead_ckpts (s : State) (u : Nat) (c : Option Nat) (part a n : Nat) : (issueRead u c part a n s).ckpts = s.ckpts := (issueRead_only s u c part a n).ckpts (by decide)
@[simp] theorem issueRead_sync (s : State) (u : Nat) (c : Option Nat) (part a n : Nat) : (issueRead u c part a n s).sync = s.sync := (issueRead_only s u c part a n).sync (by decide)
@[simp] theorem issueRead_queues (s : State) (u : Nat) (c : Option Nat) (part a n : Nat) : (issueRead u c part a n s).queues = s.queues := (issueRead_only s u c part a n).queues (by decide)
@[simp] theorem issueRead_msgs (s : State) (u : Nat) (c : Option Nat) (part a n : Nat) : (issueRead u c part a n s).msgs = s.msgs := (issueRead_only s u c part a n).msgs (by decide)
@[simp] theorem issueRead_fab (s : State) (u : Nat) (c : Option Nat) (part a n : Nat) : (issueRead u c part a n s).fab = s.fab := (issueRead_only s u c part a n).fab (by decide)
@[simp] theorem issueRead_mem (s : State) (u : Nat) (c : Option Nat) (part a n : Nat) : (issueRead u c part a n s).mem = s.mem := (issueRead_only s u c part a n).mem (by decide)
@[simp] theorem issueRead_poison (s : State) (u : Nat) (c : Option Nat) (part a n : Nat) : (issueRead u c part a n s).poison = s.poison := (issueRead_only s u c part a n).poison (by decide)
@[simp] theorem issueRead_refuse (s : State) (u : Nat) (c : Option Nat) (part a n : Nat) : (issueRead u c part a n s).refuse = s.refuse := (issueRead_only s u c part a n).refuse (by decide)
@[simp] theorem issueRead_nextId (s : State) (u : Nat) (c : Option Nat) (part a n : Nat) : (issueRead u c part a n s).nextId = s.nextId := (issueRead_only s u c part a n).nextId (by decide)
@[simp] theorem issueRead_lanes (s : State) (u : Nat) (c : Option Nat) (part a n : Nat) : (issueRead u c part a n s).lanes = s.lanes := (issueRead_only s u c part a n).lanes (by decide)
@[simp] theorem issueRead_cyc (s : State) (u : Nat) (c : Option Nat) (part a n : Nat) : (issueRead u c part a n s).cyc = s.cyc := (issueRead_only s u c part a n).cyc (by decide)
@[simp] theorem issueRead_out (s : State) (u : Nat) (c : Option Nat) (part a n : Nat) : (issueRead u c part a n s).out = s.out := (issueRead_only s u c part a n).out (by decide)

/-! ## noteResponse -/

theorem noteResponse_only (s : State) (a n : Nat) : Only [.obs] s (noteResponse a n s) := by
  unfold noteResponse; split <;> exact linkPassN_only _ _ _

@[simp] theorem noteResponse_pending (s : State) (a n : Nat) : (noteResponse a n s).pending = s.pending := (noteResponse_only s a n).pending (by decide)
@[simp] theorem noteResponse_variant (s : State) (a n : Nat) : (noteResponse a n s).variant = s.variant := (noteResponse_only s a n).variant (by decide)
@[simp] theorem noteResponse_hc (s : State) (a n : Nat) : (noteResponse a n s).hc = s.hc := (noteResponse_only s a n).hc (by decide)
@[simp] theorem noteResponse_tb (s : State) (a n : Nat) : (noteResponse a n s).tb = s.tb := (noteResponse_only s a n).tb (by decide)
@[simp] theorem noteResponse_tbPhase (s : State) (a n : Nat) : (noteResponse a n s).tbPhase = s.tbPhase := (noteResponse_only s a n).tbPhase (by decide)
@[simp] theorem noteResponse_fmhz (s : State) (a n : Nat) : (noteResponse a n s).fmhz = s.fmhz := (noteResponse_only s a n).fmhz (by decide)
@[simp] theorem noteResponse_free (s : State) (a n : Nat) : (noteResponse a n s).free = s.free := (noteResponse_only s a n).free (by decide)
@[simp] theorem noteResponse_regs (s : State) (a n : Nat) : (noteResponse a n s).regs = s.regs := (noteResponse_only s a n).regs (by decide)
@[simp] theorem noteResponse_selHost (s : State) (a n : Nat) : (noteResponse a n s).selHost = s.selHost := (noteResponse_only s a n).selHost (by decide)
@[simp] theorem noteResponse_selMgmt (s : State) (a n : Nat) : (noteResponse a n s).selMgmt = s.selMgmt := (noteResponse_only s a n).selMgmt (by decide)
@[simp] theorem noteResponse_glb (s : State) (a n : Nat) : (noteResponse a n s).glb = s.glb := (noteResponse_only s a n).glb (by decide)
@[simp] theorem noteResponse_en (s : State) (a n : Nat) : (noteResponse a n s).en = s.en := (noteResponse_only s a n).en (by decide)
@[simp] theorem noteResponse_ctxs (s : State) (a n : Nat) : (noteResponse a n s).ctxs = s.ctxs := (noteResponse_only s a n).ctxs (by decide)
@[simp] theorem noteResponse_templates (s : State) (a n : Nat) : (noteResponse a n s).templates = s.templates := (noteResponse_only s a n).templates (by decide)
@[simp] theorem noteResponse_launches (s : State) (a n : Nat) : (noteResponse a n s).launches = s.launches := (noteResponse_only s a n).launches (by decide)
@[simp] theorem noteResponse_heldLaunches (s : State) (a n : Nat) : (noteResponse a n s).heldLaunches = s.heldLaunches := (noteResponse_only s a n).heldLaunches (by decide)
@[simp] theorem noteResponse_hub (s : State) (a n : Nat) : (noteResponse a n s).hub = s.hub := (noteResponse_only s a n).hub (by decide)
@[simp] theorem noteResponse_disp (s : State) (a n : Nat) : (noteResponse a n s).disp = s.disp := (noteResponse_only s a n).disp (by decide)
@[simp] theorem noteResponse_fold (s : State) (a n : Nat) : (noteResponse a n s).fold = s.fold := (noteResponse_only s a n).fold (by decide)
@[simp] theorem noteResponse_rings (s : State) (a n : Nat) : (noteResponse a n s).rings = s.rings := (noteResponse_only s a n).rings (by decide)
@[simp] theorem noteResponse_cbs (s : State) (a n : Nat) : (noteResponse a n s).cbs = s.cbs := (noteResponse_only s a n).cbs (by decide)
@[simp] theorem noteResponse_dmas (s : State) (a n : Nat) : (noteResponse a n s).dmas = s.dmas := (noteResponse_only s a n).dmas (by decide)
@[simp] theorem noteResponse_dlm (s : State) (a n : Nat) : (noteResponse a n s).dlm = s.dlm := (noteResponse_only s a n).dlm (by decide)
@[simp] theorem noteResponse_ckpts (s : State) (a n : Nat) : (noteResponse a n s).ckpts = s.ckpts := (noteResponse_only s a n).ckpts (by decide)
@[simp] theorem noteResponse_sync (s : State) (a n : Nat) : (noteResponse a n s).sync = s.sync := (noteResponse_only s a n).sync (by decide)
@[simp] theorem noteResponse_queues (s : State) (a n : Nat) : (noteResponse a n s).queues = s.queues := (noteResponse_only s a n).queues (by decide)
@[simp] theorem noteResponse_msgs (s : State) (a n : Nat) : (noteResponse a n s).msgs = s.msgs := (noteResponse_only s a n).msgs (by decide)
@[simp] theorem noteResponse_fab (s : State) (a n : Nat) : (noteResponse a n s).fab = s.fab := (noteResponse_only s a n).fab (by decide)
@[simp] theorem noteResponse_mem (s : State) (a n : Nat) : (noteResponse a n s).mem = s.mem := (noteResponse_only s a n).mem (by decide)
@[simp] theorem noteResponse_poison (s : State) (a n : Nat) : (noteResponse a n s).poison = s.poison := (noteResponse_only s a n).poison (by decide)
@[simp] theorem noteResponse_refuse (s : State) (a n : Nat) : (noteResponse a n s).refuse = s.refuse := (noteResponse_only s a n).refuse (by decide)
@[simp] theorem noteResponse_nextId (s : State) (a n : Nat) : (noteResponse a n s).nextId = s.nextId := (noteResponse_only s a n).nextId (by decide)
@[simp] theorem noteResponse_lanes (s : State) (a n : Nat) : (noteResponse a n s).lanes = s.lanes := (noteResponse_only s a n).lanes (by decide)
@[simp] theorem noteResponse_cyc (s : State) (a n : Nat) : (noteResponse a n s).cyc = s.cyc := (noteResponse_only s a n).cyc (by decide)
@[simp] theorem noteResponse_reqs (s : State) (a n : Nat) : (noteResponse a n s).reqs = s.reqs := (noteResponse_only s a n).reqs (by decide)
@[simp] theorem noteResponse_out (s : State) (a n : Nat) : (noteResponse a n s).out = s.out := (noteResponse_only s a n).out (by decide)

/-! ## notePoisoned -/

theorem notePoisoned_only (s : State) (a n : Nat) : Only [.obs] s (notePoisoned a n s) :=
    (noteResponse_only s a n).trans (Only.ifThen _ (pmc_only _ _ _ _ _))

@[simp] theorem notePoisoned_pending (s : State) (a n : Nat) : (notePoisoned a n s).pending = s.pending := (notePoisoned_only s a n).pending (by decide)
@[simp] theorem notePoisoned_variant (s : State) (a n : Nat) : (notePoisoned a n s).variant = s.variant := (notePoisoned_only s a n).variant (by decide)
@[simp] theorem notePoisoned_hc (s : State) (a n : Nat) : (notePoisoned a n s).hc = s.hc := (notePoisoned_only s a n).hc (by decide)
@[simp] theorem notePoisoned_tb (s : State) (a n : Nat) : (notePoisoned a n s).tb = s.tb := (notePoisoned_only s a n).tb (by decide)
@[simp] theorem notePoisoned_tbPhase (s : State) (a n : Nat) : (notePoisoned a n s).tbPhase = s.tbPhase := (notePoisoned_only s a n).tbPhase (by decide)
@[simp] theorem notePoisoned_fmhz (s : State) (a n : Nat) : (notePoisoned a n s).fmhz = s.fmhz := (notePoisoned_only s a n).fmhz (by decide)
@[simp] theorem notePoisoned_free (s : State) (a n : Nat) : (notePoisoned a n s).free = s.free := (notePoisoned_only s a n).free (by decide)
@[simp] theorem notePoisoned_regs (s : State) (a n : Nat) : (notePoisoned a n s).regs = s.regs := (notePoisoned_only s a n).regs (by decide)
@[simp] theorem notePoisoned_selHost (s : State) (a n : Nat) : (notePoisoned a n s).selHost = s.selHost := (notePoisoned_only s a n).selHost (by decide)
@[simp] theorem notePoisoned_selMgmt (s : State) (a n : Nat) : (notePoisoned a n s).selMgmt = s.selMgmt := (notePoisoned_only s a n).selMgmt (by decide)
@[simp] theorem notePoisoned_glb (s : State) (a n : Nat) : (notePoisoned a n s).glb = s.glb := (notePoisoned_only s a n).glb (by decide)
@[simp] theorem notePoisoned_en (s : State) (a n : Nat) : (notePoisoned a n s).en = s.en := (notePoisoned_only s a n).en (by decide)
@[simp] theorem notePoisoned_ctxs (s : State) (a n : Nat) : (notePoisoned a n s).ctxs = s.ctxs := (notePoisoned_only s a n).ctxs (by decide)
@[simp] theorem notePoisoned_templates (s : State) (a n : Nat) : (notePoisoned a n s).templates = s.templates := (notePoisoned_only s a n).templates (by decide)
@[simp] theorem notePoisoned_launches (s : State) (a n : Nat) : (notePoisoned a n s).launches = s.launches := (notePoisoned_only s a n).launches (by decide)
@[simp] theorem notePoisoned_heldLaunches (s : State) (a n : Nat) : (notePoisoned a n s).heldLaunches = s.heldLaunches := (notePoisoned_only s a n).heldLaunches (by decide)
@[simp] theorem notePoisoned_hub (s : State) (a n : Nat) : (notePoisoned a n s).hub = s.hub := (notePoisoned_only s a n).hub (by decide)
@[simp] theorem notePoisoned_disp (s : State) (a n : Nat) : (notePoisoned a n s).disp = s.disp := (notePoisoned_only s a n).disp (by decide)
@[simp] theorem notePoisoned_fold (s : State) (a n : Nat) : (notePoisoned a n s).fold = s.fold := (notePoisoned_only s a n).fold (by decide)
@[simp] theorem notePoisoned_rings (s : State) (a n : Nat) : (notePoisoned a n s).rings = s.rings := (notePoisoned_only s a n).rings (by decide)
@[simp] theorem notePoisoned_cbs (s : State) (a n : Nat) : (notePoisoned a n s).cbs = s.cbs := (notePoisoned_only s a n).cbs (by decide)
@[simp] theorem notePoisoned_dmas (s : State) (a n : Nat) : (notePoisoned a n s).dmas = s.dmas := (notePoisoned_only s a n).dmas (by decide)
@[simp] theorem notePoisoned_dlm (s : State) (a n : Nat) : (notePoisoned a n s).dlm = s.dlm := (notePoisoned_only s a n).dlm (by decide)
@[simp] theorem notePoisoned_ckpts (s : State) (a n : Nat) : (notePoisoned a n s).ckpts = s.ckpts := (notePoisoned_only s a n).ckpts (by decide)
@[simp] theorem notePoisoned_sync (s : State) (a n : Nat) : (notePoisoned a n s).sync = s.sync := (notePoisoned_only s a n).sync (by decide)
@[simp] theorem notePoisoned_queues (s : State) (a n : Nat) : (notePoisoned a n s).queues = s.queues := (notePoisoned_only s a n).queues (by decide)
@[simp] theorem notePoisoned_msgs (s : State) (a n : Nat) : (notePoisoned a n s).msgs = s.msgs := (notePoisoned_only s a n).msgs (by decide)
@[simp] theorem notePoisoned_fab (s : State) (a n : Nat) : (notePoisoned a n s).fab = s.fab := (notePoisoned_only s a n).fab (by decide)
@[simp] theorem notePoisoned_mem (s : State) (a n : Nat) : (notePoisoned a n s).mem = s.mem := (notePoisoned_only s a n).mem (by decide)
@[simp] theorem notePoisoned_poison (s : State) (a n : Nat) : (notePoisoned a n s).poison = s.poison := (notePoisoned_only s a n).poison (by decide)
@[simp] theorem notePoisoned_refuse (s : State) (a n : Nat) : (notePoisoned a n s).refuse = s.refuse := (notePoisoned_only s a n).refuse (by decide)
@[simp] theorem notePoisoned_nextId (s : State) (a n : Nat) : (notePoisoned a n s).nextId = s.nextId := (notePoisoned_only s a n).nextId (by decide)
@[simp] theorem notePoisoned_lanes (s : State) (a n : Nat) : (notePoisoned a n s).lanes = s.lanes := (notePoisoned_only s a n).lanes (by decide)
@[simp] theorem notePoisoned_cyc (s : State) (a n : Nat) : (notePoisoned a n s).cyc = s.cyc := (notePoisoned_only s a n).cyc (by decide)
@[simp] theorem notePoisoned_reqs (s : State) (a n : Nat) : (notePoisoned a n s).reqs = s.reqs := (notePoisoned_only s a n).reqs (by decide)
@[simp] theorem notePoisoned_out (s : State) (a n : Nat) : (notePoisoned a n s).out = s.out := (notePoisoned_only s a n).out (by decide)

/-! ## noteReadIn -/

theorem noteReadIn_only (s : State) (u : Nat) (c : Option Nat) (part a n : Nat) : Only [.obs, .reqs] s (noteReadIn u c part a n s) :=
    (issueRead_only s u c part a n).trans (notePoisoned_only _ a n).mono

@[simp] theorem noteReadIn_pending (s : State) (u : Nat) (c : Option Nat) (part a n : Nat) : (noteReadIn u c part a n s).pending = s.pending := (noteReadIn_only s u c part a n).pending (by decide)
@[simp] theorem noteReadIn_variant (s : State) (u : Nat) (c : Option Nat) (part a n : Nat) : (noteReadIn u c part a n s).variant = s.variant := (noteReadIn_only s u c part a n).variant (by decide)
@[simp] theorem noteReadIn_hc (s : State) (u : Nat) (c : Option Nat) (part a n : Nat) : (noteReadIn u c part a n s).hc = s.hc := (noteReadIn_only s u c part a n).hc (by decide)
@[simp] theorem noteReadIn_tb (s : State) (u : Nat) (c : Option Nat) (part a n : Nat) : (noteReadIn u c part a n s).tb = s.tb := (noteReadIn_only s u c part a n).tb (by decide)
@[simp] theorem noteReadIn_tbPhase (s : State) (u : Nat) (c : Option Nat) (part a n : Nat) : (noteReadIn u c part a n s).tbPhase = s.tbPhase := (noteReadIn_only s u c part a n).tbPhase (by decide)
@[simp] theorem noteReadIn_fmhz (s : State) (u : Nat) (c : Option Nat) (part a n : Nat) : (noteReadIn u c part a n s).fmhz = s.fmhz := (noteReadIn_only s u c part a n).fmhz (by decide)
@[simp] theorem noteReadIn_free (s : State) (u : Nat) (c : Option Nat) (part a n : Nat) : (noteReadIn u c part a n s).free = s.free := (noteReadIn_only s u c part a n).free (by decide)
@[simp] theorem noteReadIn_regs (s : State) (u : Nat) (c : Option Nat) (part a n : Nat) : (noteReadIn u c part a n s).regs = s.regs := (noteReadIn_only s u c part a n).regs (by decide)
@[simp] theorem noteReadIn_selHost (s : State) (u : Nat) (c : Option Nat) (part a n : Nat) : (noteReadIn u c part a n s).selHost = s.selHost := (noteReadIn_only s u c part a n).selHost (by decide)
@[simp] theorem noteReadIn_selMgmt (s : State) (u : Nat) (c : Option Nat) (part a n : Nat) : (noteReadIn u c part a n s).selMgmt = s.selMgmt := (noteReadIn_only s u c part a n).selMgmt (by decide)
@[simp] theorem noteReadIn_glb (s : State) (u : Nat) (c : Option Nat) (part a n : Nat) : (noteReadIn u c part a n s).glb = s.glb := (noteReadIn_only s u c part a n).glb (by decide)
@[simp] theorem noteReadIn_en (s : State) (u : Nat) (c : Option Nat) (part a n : Nat) : (noteReadIn u c part a n s).en = s.en := (noteReadIn_only s u c part a n).en (by decide)
@[simp] theorem noteReadIn_ctxs (s : State) (u : Nat) (c : Option Nat) (part a n : Nat) : (noteReadIn u c part a n s).ctxs = s.ctxs := (noteReadIn_only s u c part a n).ctxs (by decide)
@[simp] theorem noteReadIn_templates (s : State) (u : Nat) (c : Option Nat) (part a n : Nat) : (noteReadIn u c part a n s).templates = s.templates := (noteReadIn_only s u c part a n).templates (by decide)
@[simp] theorem noteReadIn_launches (s : State) (u : Nat) (c : Option Nat) (part a n : Nat) : (noteReadIn u c part a n s).launches = s.launches := (noteReadIn_only s u c part a n).launches (by decide)
@[simp] theorem noteReadIn_heldLaunches (s : State) (u : Nat) (c : Option Nat) (part a n : Nat) : (noteReadIn u c part a n s).heldLaunches = s.heldLaunches := (noteReadIn_only s u c part a n).heldLaunches (by decide)
@[simp] theorem noteReadIn_hub (s : State) (u : Nat) (c : Option Nat) (part a n : Nat) : (noteReadIn u c part a n s).hub = s.hub := (noteReadIn_only s u c part a n).hub (by decide)
@[simp] theorem noteReadIn_disp (s : State) (u : Nat) (c : Option Nat) (part a n : Nat) : (noteReadIn u c part a n s).disp = s.disp := (noteReadIn_only s u c part a n).disp (by decide)
@[simp] theorem noteReadIn_fold (s : State) (u : Nat) (c : Option Nat) (part a n : Nat) : (noteReadIn u c part a n s).fold = s.fold := (noteReadIn_only s u c part a n).fold (by decide)
@[simp] theorem noteReadIn_rings (s : State) (u : Nat) (c : Option Nat) (part a n : Nat) : (noteReadIn u c part a n s).rings = s.rings := (noteReadIn_only s u c part a n).rings (by decide)
@[simp] theorem noteReadIn_cbs (s : State) (u : Nat) (c : Option Nat) (part a n : Nat) : (noteReadIn u c part a n s).cbs = s.cbs := (noteReadIn_only s u c part a n).cbs (by decide)
@[simp] theorem noteReadIn_dmas (s : State) (u : Nat) (c : Option Nat) (part a n : Nat) : (noteReadIn u c part a n s).dmas = s.dmas := (noteReadIn_only s u c part a n).dmas (by decide)
@[simp] theorem noteReadIn_dlm (s : State) (u : Nat) (c : Option Nat) (part a n : Nat) : (noteReadIn u c part a n s).dlm = s.dlm := (noteReadIn_only s u c part a n).dlm (by decide)
@[simp] theorem noteReadIn_ckpts (s : State) (u : Nat) (c : Option Nat) (part a n : Nat) : (noteReadIn u c part a n s).ckpts = s.ckpts := (noteReadIn_only s u c part a n).ckpts (by decide)
@[simp] theorem noteReadIn_sync (s : State) (u : Nat) (c : Option Nat) (part a n : Nat) : (noteReadIn u c part a n s).sync = s.sync := (noteReadIn_only s u c part a n).sync (by decide)
@[simp] theorem noteReadIn_queues (s : State) (u : Nat) (c : Option Nat) (part a n : Nat) : (noteReadIn u c part a n s).queues = s.queues := (noteReadIn_only s u c part a n).queues (by decide)
@[simp] theorem noteReadIn_msgs (s : State) (u : Nat) (c : Option Nat) (part a n : Nat) : (noteReadIn u c part a n s).msgs = s.msgs := (noteReadIn_only s u c part a n).msgs (by decide)
@[simp] theorem noteReadIn_fab (s : State) (u : Nat) (c : Option Nat) (part a n : Nat) : (noteReadIn u c part a n s).fab = s.fab := (noteReadIn_only s u c part a n).fab (by decide)
@[simp] theorem noteReadIn_mem (s : State) (u : Nat) (c : Option Nat) (part a n : Nat) : (noteReadIn u c part a n s).mem = s.mem := (noteReadIn_only s u c part a n).mem (by decide)
@[simp] theorem noteReadIn_poison (s : State) (u : Nat) (c : Option Nat) (part a n : Nat) : (noteReadIn u c part a n s).poison = s.poison := (noteReadIn_only s u c part a n).poison (by decide)
@[simp] theorem noteReadIn_refuse (s : State) (u : Nat) (c : Option Nat) (part a n : Nat) : (noteReadIn u c part a n s).refuse = s.refuse := (noteReadIn_only s u c part a n).refuse (by decide)
@[simp] theorem noteReadIn_nextId (s : State) (u : Nat) (c : Option Nat) (part a n : Nat) : (noteReadIn u c part a n s).nextId = s.nextId := (noteReadIn_only s u c part a n).nextId (by decide)
@[simp] theorem noteReadIn_lanes (s : State) (u : Nat) (c : Option Nat) (part a n : Nat) : (noteReadIn u c part a n s).lanes = s.lanes := (noteReadIn_only s u c part a n).lanes (by decide)
@[simp] theorem noteReadIn_cyc (s : State) (u : Nat) (c : Option Nat) (part a n : Nat) : (noteReadIn u c part a n s).cyc = s.cyc := (noteReadIn_only s u c part a n).cyc (by decide)
@[simp] theorem noteReadIn_out (s : State) (u : Nat) (c : Option Nat) (part a n : Nat) : (noteReadIn u c part a n s).out = s.out := (noteReadIn_only s u c part a n).out (by decide)

/-! ## noteRead -/

theorem noteRead_only (s : State) (u : Nat) (c : Option Nat) (a n : Nat) : Only [.obs, .reqs] s (noteRead u c a n s) :=
    noteReadIn_only s u c _ a n

@[simp] theorem noteRead_pending (s : State) (u : Nat) (c : Option Nat) (a n : Nat) : (noteRead u c a n s).pending = s.pending := (noteRead_only s u c a n).pending (by decide)
@[simp] theorem noteRead_variant (s : State) (u : Nat) (c : Option Nat) (a n : Nat) : (noteRead u c a n s).variant = s.variant := (noteRead_only s u c a n).variant (by decide)
@[simp] theorem noteRead_hc (s : State) (u : Nat) (c : Option Nat) (a n : Nat) : (noteRead u c a n s).hc = s.hc := (noteRead_only s u c a n).hc (by decide)
@[simp] theorem noteRead_tb (s : State) (u : Nat) (c : Option Nat) (a n : Nat) : (noteRead u c a n s).tb = s.tb := (noteRead_only s u c a n).tb (by decide)
@[simp] theorem noteRead_tbPhase (s : State) (u : Nat) (c : Option Nat) (a n : Nat) : (noteRead u c a n s).tbPhase = s.tbPhase := (noteRead_only s u c a n).tbPhase (by decide)
@[simp] theorem noteRead_fmhz (s : State) (u : Nat) (c : Option Nat) (a n : Nat) : (noteRead u c a n s).fmhz = s.fmhz := (noteRead_only s u c a n).fmhz (by decide)
@[simp] theorem noteRead_free (s : State) (u : Nat) (c : Option Nat) (a n : Nat) : (noteRead u c a n s).free = s.free := (noteRead_only s u c a n).free (by decide)
@[simp] theorem noteRead_regs (s : State) (u : Nat) (c : Option Nat) (a n : Nat) : (noteRead u c a n s).regs = s.regs := (noteRead_only s u c a n).regs (by decide)
@[simp] theorem noteRead_selHost (s : State) (u : Nat) (c : Option Nat) (a n : Nat) : (noteRead u c a n s).selHost = s.selHost := (noteRead_only s u c a n).selHost (by decide)
@[simp] theorem noteRead_selMgmt (s : State) (u : Nat) (c : Option Nat) (a n : Nat) : (noteRead u c a n s).selMgmt = s.selMgmt := (noteRead_only s u c a n).selMgmt (by decide)
@[simp] theorem noteRead_glb (s : State) (u : Nat) (c : Option Nat) (a n : Nat) : (noteRead u c a n s).glb = s.glb := (noteRead_only s u c a n).glb (by decide)
@[simp] theorem noteRead_en (s : State) (u : Nat) (c : Option Nat) (a n : Nat) : (noteRead u c a n s).en = s.en := (noteRead_only s u c a n).en (by decide)
@[simp] theorem noteRead_ctxs (s : State) (u : Nat) (c : Option Nat) (a n : Nat) : (noteRead u c a n s).ctxs = s.ctxs := (noteRead_only s u c a n).ctxs (by decide)
@[simp] theorem noteRead_templates (s : State) (u : Nat) (c : Option Nat) (a n : Nat) : (noteRead u c a n s).templates = s.templates := (noteRead_only s u c a n).templates (by decide)
@[simp] theorem noteRead_launches (s : State) (u : Nat) (c : Option Nat) (a n : Nat) : (noteRead u c a n s).launches = s.launches := (noteRead_only s u c a n).launches (by decide)
@[simp] theorem noteRead_heldLaunches (s : State) (u : Nat) (c : Option Nat) (a n : Nat) : (noteRead u c a n s).heldLaunches = s.heldLaunches := (noteRead_only s u c a n).heldLaunches (by decide)
@[simp] theorem noteRead_hub (s : State) (u : Nat) (c : Option Nat) (a n : Nat) : (noteRead u c a n s).hub = s.hub := (noteRead_only s u c a n).hub (by decide)
@[simp] theorem noteRead_disp (s : State) (u : Nat) (c : Option Nat) (a n : Nat) : (noteRead u c a n s).disp = s.disp := (noteRead_only s u c a n).disp (by decide)
@[simp] theorem noteRead_fold (s : State) (u : Nat) (c : Option Nat) (a n : Nat) : (noteRead u c a n s).fold = s.fold := (noteRead_only s u c a n).fold (by decide)
@[simp] theorem noteRead_rings (s : State) (u : Nat) (c : Option Nat) (a n : Nat) : (noteRead u c a n s).rings = s.rings := (noteRead_only s u c a n).rings (by decide)
@[simp] theorem noteRead_cbs (s : State) (u : Nat) (c : Option Nat) (a n : Nat) : (noteRead u c a n s).cbs = s.cbs := (noteRead_only s u c a n).cbs (by decide)
@[simp] theorem noteRead_dmas (s : State) (u : Nat) (c : Option Nat) (a n : Nat) : (noteRead u c a n s).dmas = s.dmas := (noteRead_only s u c a n).dmas (by decide)
@[simp] theorem noteRead_dlm (s : State) (u : Nat) (c : Option Nat) (a n : Nat) : (noteRead u c a n s).dlm = s.dlm := (noteRead_only s u c a n).dlm (by decide)
@[simp] theorem noteRead_ckpts (s : State) (u : Nat) (c : Option Nat) (a n : Nat) : (noteRead u c a n s).ckpts = s.ckpts := (noteRead_only s u c a n).ckpts (by decide)
@[simp] theorem noteRead_sync (s : State) (u : Nat) (c : Option Nat) (a n : Nat) : (noteRead u c a n s).sync = s.sync := (noteRead_only s u c a n).sync (by decide)
@[simp] theorem noteRead_queues (s : State) (u : Nat) (c : Option Nat) (a n : Nat) : (noteRead u c a n s).queues = s.queues := (noteRead_only s u c a n).queues (by decide)
@[simp] theorem noteRead_msgs (s : State) (u : Nat) (c : Option Nat) (a n : Nat) : (noteRead u c a n s).msgs = s.msgs := (noteRead_only s u c a n).msgs (by decide)
@[simp] theorem noteRead_fab (s : State) (u : Nat) (c : Option Nat) (a n : Nat) : (noteRead u c a n s).fab = s.fab := (noteRead_only s u c a n).fab (by decide)
@[simp] theorem noteRead_mem (s : State) (u : Nat) (c : Option Nat) (a n : Nat) : (noteRead u c a n s).mem = s.mem := (noteRead_only s u c a n).mem (by decide)
@[simp] theorem noteRead_poison (s : State) (u : Nat) (c : Option Nat) (a n : Nat) : (noteRead u c a n s).poison = s.poison := (noteRead_only s u c a n).poison (by decide)
@[simp] theorem noteRead_refuse (s : State) (u : Nat) (c : Option Nat) (a n : Nat) : (noteRead u c a n s).refuse = s.refuse := (noteRead_only s u c a n).refuse (by decide)
@[simp] theorem noteRead_nextId (s : State) (u : Nat) (c : Option Nat) (a n : Nat) : (noteRead u c a n s).nextId = s.nextId := (noteRead_only s u c a n).nextId (by decide)
@[simp] theorem noteRead_lanes (s : State) (u : Nat) (c : Option Nat) (a n : Nat) : (noteRead u c a n s).lanes = s.lanes := (noteRead_only s u c a n).lanes (by decide)
@[simp] theorem noteRead_cyc (s : State) (u : Nat) (c : Option Nat) (a n : Nat) : (noteRead u c a n s).cyc = s.cyc := (noteRead_only s u c a n).cyc (by decide)
@[simp] theorem noteRead_out (s : State) (u : Nat) (c : Option Nat) (a n : Nat) : (noteRead u c a n s).out = s.out := (noteRead_only s u c a n).out (by decide)

/-! ## readVt -/

theorem readVt_only (s : State) (ctx v : Nat) : Only [.obs, .reqs] s (readVt ctx v s) :=
    Only.ifThen _ (noteRead_only _ _ _ _ _)

@[simp] theorem readVt_pending (s : State) (ctx v : Nat) : (readVt ctx v s).pending = s.pending := (readVt_only s ctx v).pending (by decide)
@[simp] theorem readVt_variant (s : State) (ctx v : Nat) : (readVt ctx v s).variant = s.variant := (readVt_only s ctx v).variant (by decide)
@[simp] theorem readVt_hc (s : State) (ctx v : Nat) : (readVt ctx v s).hc = s.hc := (readVt_only s ctx v).hc (by decide)
@[simp] theorem readVt_tb (s : State) (ctx v : Nat) : (readVt ctx v s).tb = s.tb := (readVt_only s ctx v).tb (by decide)
@[simp] theorem readVt_tbPhase (s : State) (ctx v : Nat) : (readVt ctx v s).tbPhase = s.tbPhase := (readVt_only s ctx v).tbPhase (by decide)
@[simp] theorem readVt_fmhz (s : State) (ctx v : Nat) : (readVt ctx v s).fmhz = s.fmhz := (readVt_only s ctx v).fmhz (by decide)
@[simp] theorem readVt_free (s : State) (ctx v : Nat) : (readVt ctx v s).free = s.free := (readVt_only s ctx v).free (by decide)
@[simp] theorem readVt_regs (s : State) (ctx v : Nat) : (readVt ctx v s).regs = s.regs := (readVt_only s ctx v).regs (by decide)
@[simp] theorem readVt_selHost (s : State) (ctx v : Nat) : (readVt ctx v s).selHost = s.selHost := (readVt_only s ctx v).selHost (by decide)
@[simp] theorem readVt_selMgmt (s : State) (ctx v : Nat) : (readVt ctx v s).selMgmt = s.selMgmt := (readVt_only s ctx v).selMgmt (by decide)
@[simp] theorem readVt_glb (s : State) (ctx v : Nat) : (readVt ctx v s).glb = s.glb := (readVt_only s ctx v).glb (by decide)
@[simp] theorem readVt_en (s : State) (ctx v : Nat) : (readVt ctx v s).en = s.en := (readVt_only s ctx v).en (by decide)
@[simp] theorem readVt_ctxs (s : State) (ctx v : Nat) : (readVt ctx v s).ctxs = s.ctxs := (readVt_only s ctx v).ctxs (by decide)
@[simp] theorem readVt_templates (s : State) (ctx v : Nat) : (readVt ctx v s).templates = s.templates := (readVt_only s ctx v).templates (by decide)
@[simp] theorem readVt_launches (s : State) (ctx v : Nat) : (readVt ctx v s).launches = s.launches := (readVt_only s ctx v).launches (by decide)
@[simp] theorem readVt_heldLaunches (s : State) (ctx v : Nat) : (readVt ctx v s).heldLaunches = s.heldLaunches := (readVt_only s ctx v).heldLaunches (by decide)
@[simp] theorem readVt_hub (s : State) (ctx v : Nat) : (readVt ctx v s).hub = s.hub := (readVt_only s ctx v).hub (by decide)
@[simp] theorem readVt_disp (s : State) (ctx v : Nat) : (readVt ctx v s).disp = s.disp := (readVt_only s ctx v).disp (by decide)
@[simp] theorem readVt_fold (s : State) (ctx v : Nat) : (readVt ctx v s).fold = s.fold := (readVt_only s ctx v).fold (by decide)
@[simp] theorem readVt_rings (s : State) (ctx v : Nat) : (readVt ctx v s).rings = s.rings := (readVt_only s ctx v).rings (by decide)
@[simp] theorem readVt_cbs (s : State) (ctx v : Nat) : (readVt ctx v s).cbs = s.cbs := (readVt_only s ctx v).cbs (by decide)
@[simp] theorem readVt_dmas (s : State) (ctx v : Nat) : (readVt ctx v s).dmas = s.dmas := (readVt_only s ctx v).dmas (by decide)
@[simp] theorem readVt_dlm (s : State) (ctx v : Nat) : (readVt ctx v s).dlm = s.dlm := (readVt_only s ctx v).dlm (by decide)
@[simp] theorem readVt_ckpts (s : State) (ctx v : Nat) : (readVt ctx v s).ckpts = s.ckpts := (readVt_only s ctx v).ckpts (by decide)
@[simp] theorem readVt_sync (s : State) (ctx v : Nat) : (readVt ctx v s).sync = s.sync := (readVt_only s ctx v).sync (by decide)
@[simp] theorem readVt_queues (s : State) (ctx v : Nat) : (readVt ctx v s).queues = s.queues := (readVt_only s ctx v).queues (by decide)
@[simp] theorem readVt_msgs (s : State) (ctx v : Nat) : (readVt ctx v s).msgs = s.msgs := (readVt_only s ctx v).msgs (by decide)
@[simp] theorem readVt_fab (s : State) (ctx v : Nat) : (readVt ctx v s).fab = s.fab := (readVt_only s ctx v).fab (by decide)
@[simp] theorem readVt_mem (s : State) (ctx v : Nat) : (readVt ctx v s).mem = s.mem := (readVt_only s ctx v).mem (by decide)
@[simp] theorem readVt_poison (s : State) (ctx v : Nat) : (readVt ctx v s).poison = s.poison := (readVt_only s ctx v).poison (by decide)
@[simp] theorem readVt_refuse (s : State) (ctx v : Nat) : (readVt ctx v s).refuse = s.refuse := (readVt_only s ctx v).refuse (by decide)
@[simp] theorem readVt_nextId (s : State) (ctx v : Nat) : (readVt ctx v s).nextId = s.nextId := (readVt_only s ctx v).nextId (by decide)
@[simp] theorem readVt_lanes (s : State) (ctx v : Nat) : (readVt ctx v s).lanes = s.lanes := (readVt_only s ctx v).lanes (by decide)
@[simp] theorem readVt_cyc (s : State) (ctx v : Nat) : (readVt ctx v s).cyc = s.cyc := (readVt_only s ctx v).cyc (by decide)
@[simp] theorem readVt_out (s : State) (ctx v : Nat) : (readVt ctx v s).out = s.out := (readVt_only s ctx v).out (by decide)

/-! ## memWrite -/

theorem memWrite_only (s : State) (a : Nat) (bs : List Byte) : Only [.mem, .poison] s (memWrite a bs s) := by
  unfold memWrite; dsimp only; split <;> exact ⟨fun _ => rfl, fun _ => rfl, fun _ => rfl, fun _ => rfl, fun _ => rfl, fun _ => rfl, fun _ => rfl, fun _ => rfl, fun _ => rfl, fun _ => rfl, fun _ => rfl, fun _ => rfl, fun _ => rfl, fun _ => rfl, fun _ => rfl, fun _ => rfl, fun _ => rfl, fun _ => rfl, fun _ => rfl, fun _ => rfl, fun _ => rfl, fun _ => rfl, fun _ => rfl, fun _ => rfl, fun _ => rfl, fun _ => rfl, fun _ => rfl, fun _ => rfl, fun _ => rfl, fun h => absurd (by decide) h, fun h => absurd (by decide) h, fun _ => rfl, fun _ => rfl, fun _ => rfl, fun _ => rfl, fun _ => rfl, fun _ => rfl⟩

@[simp] theorem memWrite_pending (s : State) (a : Nat) (bs : List Byte) : (memWrite a bs s).pending = s.pending := (memWrite_only s a bs).pending (by decide)
@[simp] theorem memWrite_variant (s : State) (a : Nat) (bs : List Byte) : (memWrite a bs s).variant = s.variant := (memWrite_only s a bs).variant (by decide)
@[simp] theorem memWrite_hc (s : State) (a : Nat) (bs : List Byte) : (memWrite a bs s).hc = s.hc := (memWrite_only s a bs).hc (by decide)
@[simp] theorem memWrite_tb (s : State) (a : Nat) (bs : List Byte) : (memWrite a bs s).tb = s.tb := (memWrite_only s a bs).tb (by decide)
@[simp] theorem memWrite_tbPhase (s : State) (a : Nat) (bs : List Byte) : (memWrite a bs s).tbPhase = s.tbPhase := (memWrite_only s a bs).tbPhase (by decide)
@[simp] theorem memWrite_fmhz (s : State) (a : Nat) (bs : List Byte) : (memWrite a bs s).fmhz = s.fmhz := (memWrite_only s a bs).fmhz (by decide)
@[simp] theorem memWrite_free (s : State) (a : Nat) (bs : List Byte) : (memWrite a bs s).free = s.free := (memWrite_only s a bs).free (by decide)
@[simp] theorem memWrite_regs (s : State) (a : Nat) (bs : List Byte) : (memWrite a bs s).regs = s.regs := (memWrite_only s a bs).regs (by decide)
@[simp] theorem memWrite_selHost (s : State) (a : Nat) (bs : List Byte) : (memWrite a bs s).selHost = s.selHost := (memWrite_only s a bs).selHost (by decide)
@[simp] theorem memWrite_selMgmt (s : State) (a : Nat) (bs : List Byte) : (memWrite a bs s).selMgmt = s.selMgmt := (memWrite_only s a bs).selMgmt (by decide)
@[simp] theorem memWrite_glb (s : State) (a : Nat) (bs : List Byte) : (memWrite a bs s).glb = s.glb := (memWrite_only s a bs).glb (by decide)
@[simp] theorem memWrite_en (s : State) (a : Nat) (bs : List Byte) : (memWrite a bs s).en = s.en := (memWrite_only s a bs).en (by decide)
@[simp] theorem memWrite_ctxs (s : State) (a : Nat) (bs : List Byte) : (memWrite a bs s).ctxs = s.ctxs := (memWrite_only s a bs).ctxs (by decide)
@[simp] theorem memWrite_templates (s : State) (a : Nat) (bs : List Byte) : (memWrite a bs s).templates = s.templates := (memWrite_only s a bs).templates (by decide)
@[simp] theorem memWrite_launches (s : State) (a : Nat) (bs : List Byte) : (memWrite a bs s).launches = s.launches := (memWrite_only s a bs).launches (by decide)
@[simp] theorem memWrite_heldLaunches (s : State) (a : Nat) (bs : List Byte) : (memWrite a bs s).heldLaunches = s.heldLaunches := (memWrite_only s a bs).heldLaunches (by decide)
@[simp] theorem memWrite_hub (s : State) (a : Nat) (bs : List Byte) : (memWrite a bs s).hub = s.hub := (memWrite_only s a bs).hub (by decide)
@[simp] theorem memWrite_disp (s : State) (a : Nat) (bs : List Byte) : (memWrite a bs s).disp = s.disp := (memWrite_only s a bs).disp (by decide)
@[simp] theorem memWrite_fold (s : State) (a : Nat) (bs : List Byte) : (memWrite a bs s).fold = s.fold := (memWrite_only s a bs).fold (by decide)
@[simp] theorem memWrite_rings (s : State) (a : Nat) (bs : List Byte) : (memWrite a bs s).rings = s.rings := (memWrite_only s a bs).rings (by decide)
@[simp] theorem memWrite_cbs (s : State) (a : Nat) (bs : List Byte) : (memWrite a bs s).cbs = s.cbs := (memWrite_only s a bs).cbs (by decide)
@[simp] theorem memWrite_dmas (s : State) (a : Nat) (bs : List Byte) : (memWrite a bs s).dmas = s.dmas := (memWrite_only s a bs).dmas (by decide)
@[simp] theorem memWrite_dlm (s : State) (a : Nat) (bs : List Byte) : (memWrite a bs s).dlm = s.dlm := (memWrite_only s a bs).dlm (by decide)
@[simp] theorem memWrite_ckpts (s : State) (a : Nat) (bs : List Byte) : (memWrite a bs s).ckpts = s.ckpts := (memWrite_only s a bs).ckpts (by decide)
@[simp] theorem memWrite_sync (s : State) (a : Nat) (bs : List Byte) : (memWrite a bs s).sync = s.sync := (memWrite_only s a bs).sync (by decide)
@[simp] theorem memWrite_queues (s : State) (a : Nat) (bs : List Byte) : (memWrite a bs s).queues = s.queues := (memWrite_only s a bs).queues (by decide)
@[simp] theorem memWrite_msgs (s : State) (a : Nat) (bs : List Byte) : (memWrite a bs s).msgs = s.msgs := (memWrite_only s a bs).msgs (by decide)
@[simp] theorem memWrite_fab (s : State) (a : Nat) (bs : List Byte) : (memWrite a bs s).fab = s.fab := (memWrite_only s a bs).fab (by decide)
@[simp] theorem memWrite_obs (s : State) (a : Nat) (bs : List Byte) : (memWrite a bs s).obs = s.obs := (memWrite_only s a bs).obs (by decide)
@[simp] theorem memWrite_refuse (s : State) (a : Nat) (bs : List Byte) : (memWrite a bs s).refuse = s.refuse := (memWrite_only s a bs).refuse (by decide)
@[simp] theorem memWrite_nextId (s : State) (a : Nat) (bs : List Byte) : (memWrite a bs s).nextId = s.nextId := (memWrite_only s a bs).nextId (by decide)
@[simp] theorem memWrite_lanes (s : State) (a : Nat) (bs : List Byte) : (memWrite a bs s).lanes = s.lanes := (memWrite_only s a bs).lanes (by decide)
@[simp] theorem memWrite_cyc (s : State) (a : Nat) (bs : List Byte) : (memWrite a bs s).cyc = s.cyc := (memWrite_only s a bs).cyc (by decide)
@[simp] theorem memWrite_reqs (s : State) (a : Nat) (bs : List Byte) : (memWrite a bs s).reqs = s.reqs := (memWrite_only s a bs).reqs (by decide)
@[simp] theorem memWrite_out (s : State) (a : Nat) (bs : List Byte) : (memWrite a bs s).out = s.out := (memWrite_only s a bs).out (by decide)

/-! ## putIn -/

theorem putIn_only (s : State) (u : Nat) (c : Option Nat) (part a : Nat) (bs : List Byte) : Only [.mem, .poison, .obs, .reqs] s (putIn u c part a bs s) := by
  have h : Only [.mem, .poison, .obs, .reqs] s (issueReqs true u c part a bs.length (memWrite a bs s)) :=
    (memWrite_only s a bs).mono.trans (issueReqs_only _ _ _ _ _ _ _).mono
  unfold putIn; dsimp only; split
  · exact h
  · exact h.trans ((pmc_only _ _ _ _ _).trans (noteResponse_only _ _ _)).mono

@[simp] theorem putIn_pending (s : State) (u : Nat) (c : Option Nat) (part a : Nat) (bs : List Byte) : (putIn u c part a bs s).pending = s.pending := (putIn_only s u c part a bs).pending (by decide)
@[simp] theorem putIn_variant (s : State) (u : Nat) (c : Option Nat) (part a : Nat) (bs : List Byte) : (putIn u c part a bs s).variant = s.variant := (putIn_only s u c part a bs).variant (by decide)
@[simp] theorem putIn_hc (s : State) (u : Nat) (c : Option Nat) (part a : Nat) (bs : List Byte) : (putIn u c part a bs s).hc = s.hc := (putIn_only s u c part a bs).hc (by decide)
@[simp] theorem putIn_tb (s : State) (u : Nat) (c : Option Nat) (part a : Nat) (bs : List Byte) : (putIn u c part a bs s).tb = s.tb := (putIn_only s u c part a bs).tb (by decide)
@[simp] theorem putIn_tbPhase (s : State) (u : Nat) (c : Option Nat) (part a : Nat) (bs : List Byte) : (putIn u c part a bs s).tbPhase = s.tbPhase := (putIn_only s u c part a bs).tbPhase (by decide)
@[simp] theorem putIn_fmhz (s : State) (u : Nat) (c : Option Nat) (part a : Nat) (bs : List Byte) : (putIn u c part a bs s).fmhz = s.fmhz := (putIn_only s u c part a bs).fmhz (by decide)
@[simp] theorem putIn_free (s : State) (u : Nat) (c : Option Nat) (part a : Nat) (bs : List Byte) : (putIn u c part a bs s).free = s.free := (putIn_only s u c part a bs).free (by decide)
@[simp] theorem putIn_regs (s : State) (u : Nat) (c : Option Nat) (part a : Nat) (bs : List Byte) : (putIn u c part a bs s).regs = s.regs := (putIn_only s u c part a bs).regs (by decide)
@[simp] theorem putIn_selHost (s : State) (u : Nat) (c : Option Nat) (part a : Nat) (bs : List Byte) : (putIn u c part a bs s).selHost = s.selHost := (putIn_only s u c part a bs).selHost (by decide)
@[simp] theorem putIn_selMgmt (s : State) (u : Nat) (c : Option Nat) (part a : Nat) (bs : List Byte) : (putIn u c part a bs s).selMgmt = s.selMgmt := (putIn_only s u c part a bs).selMgmt (by decide)
@[simp] theorem putIn_glb (s : State) (u : Nat) (c : Option Nat) (part a : Nat) (bs : List Byte) : (putIn u c part a bs s).glb = s.glb := (putIn_only s u c part a bs).glb (by decide)
@[simp] theorem putIn_en (s : State) (u : Nat) (c : Option Nat) (part a : Nat) (bs : List Byte) : (putIn u c part a bs s).en = s.en := (putIn_only s u c part a bs).en (by decide)
@[simp] theorem putIn_ctxs (s : State) (u : Nat) (c : Option Nat) (part a : Nat) (bs : List Byte) : (putIn u c part a bs s).ctxs = s.ctxs := (putIn_only s u c part a bs).ctxs (by decide)
@[simp] theorem putIn_templates (s : State) (u : Nat) (c : Option Nat) (part a : Nat) (bs : List Byte) : (putIn u c part a bs s).templates = s.templates := (putIn_only s u c part a bs).templates (by decide)
@[simp] theorem putIn_launches (s : State) (u : Nat) (c : Option Nat) (part a : Nat) (bs : List Byte) : (putIn u c part a bs s).launches = s.launches := (putIn_only s u c part a bs).launches (by decide)
@[simp] theorem putIn_heldLaunches (s : State) (u : Nat) (c : Option Nat) (part a : Nat) (bs : List Byte) : (putIn u c part a bs s).heldLaunches = s.heldLaunches := (putIn_only s u c part a bs).heldLaunches (by decide)
@[simp] theorem putIn_hub (s : State) (u : Nat) (c : Option Nat) (part a : Nat) (bs : List Byte) : (putIn u c part a bs s).hub = s.hub := (putIn_only s u c part a bs).hub (by decide)
@[simp] theorem putIn_disp (s : State) (u : Nat) (c : Option Nat) (part a : Nat) (bs : List Byte) : (putIn u c part a bs s).disp = s.disp := (putIn_only s u c part a bs).disp (by decide)
@[simp] theorem putIn_fold (s : State) (u : Nat) (c : Option Nat) (part a : Nat) (bs : List Byte) : (putIn u c part a bs s).fold = s.fold := (putIn_only s u c part a bs).fold (by decide)
@[simp] theorem putIn_rings (s : State) (u : Nat) (c : Option Nat) (part a : Nat) (bs : List Byte) : (putIn u c part a bs s).rings = s.rings := (putIn_only s u c part a bs).rings (by decide)
@[simp] theorem putIn_cbs (s : State) (u : Nat) (c : Option Nat) (part a : Nat) (bs : List Byte) : (putIn u c part a bs s).cbs = s.cbs := (putIn_only s u c part a bs).cbs (by decide)
@[simp] theorem putIn_dmas (s : State) (u : Nat) (c : Option Nat) (part a : Nat) (bs : List Byte) : (putIn u c part a bs s).dmas = s.dmas := (putIn_only s u c part a bs).dmas (by decide)
@[simp] theorem putIn_dlm (s : State) (u : Nat) (c : Option Nat) (part a : Nat) (bs : List Byte) : (putIn u c part a bs s).dlm = s.dlm := (putIn_only s u c part a bs).dlm (by decide)
@[simp] theorem putIn_ckpts (s : State) (u : Nat) (c : Option Nat) (part a : Nat) (bs : List Byte) : (putIn u c part a bs s).ckpts = s.ckpts := (putIn_only s u c part a bs).ckpts (by decide)
@[simp] theorem putIn_sync (s : State) (u : Nat) (c : Option Nat) (part a : Nat) (bs : List Byte) : (putIn u c part a bs s).sync = s.sync := (putIn_only s u c part a bs).sync (by decide)
@[simp] theorem putIn_queues (s : State) (u : Nat) (c : Option Nat) (part a : Nat) (bs : List Byte) : (putIn u c part a bs s).queues = s.queues := (putIn_only s u c part a bs).queues (by decide)
@[simp] theorem putIn_msgs (s : State) (u : Nat) (c : Option Nat) (part a : Nat) (bs : List Byte) : (putIn u c part a bs s).msgs = s.msgs := (putIn_only s u c part a bs).msgs (by decide)
@[simp] theorem putIn_fab (s : State) (u : Nat) (c : Option Nat) (part a : Nat) (bs : List Byte) : (putIn u c part a bs s).fab = s.fab := (putIn_only s u c part a bs).fab (by decide)
@[simp] theorem putIn_refuse (s : State) (u : Nat) (c : Option Nat) (part a : Nat) (bs : List Byte) : (putIn u c part a bs s).refuse = s.refuse := (putIn_only s u c part a bs).refuse (by decide)
@[simp] theorem putIn_nextId (s : State) (u : Nat) (c : Option Nat) (part a : Nat) (bs : List Byte) : (putIn u c part a bs s).nextId = s.nextId := (putIn_only s u c part a bs).nextId (by decide)
@[simp] theorem putIn_lanes (s : State) (u : Nat) (c : Option Nat) (part a : Nat) (bs : List Byte) : (putIn u c part a bs s).lanes = s.lanes := (putIn_only s u c part a bs).lanes (by decide)
@[simp] theorem putIn_cyc (s : State) (u : Nat) (c : Option Nat) (part a : Nat) (bs : List Byte) : (putIn u c part a bs s).cyc = s.cyc := (putIn_only s u c part a bs).cyc (by decide)
@[simp] theorem putIn_out (s : State) (u : Nat) (c : Option Nat) (part a : Nat) (bs : List Byte) : (putIn u c part a bs s).out = s.out := (putIn_only s u c part a bs).out (by decide)

/-! ## writeBytes -/

theorem writeBytes_only (s : State) (u : Nat) (c : Option Nat) (a : Nat) (bs : List Byte) : Only [.mem, .poison, .obs, .reqs, .regs, .out, .glb, .cyc] s (writeBytes u c a bs s) :=
    (putIn_only s u c _ a bs).mono.trans (Only.ifThen _ (errContained_only _ _ _ _ _ _).mono)

@[simp] theorem writeBytes_pending (s : State) (u : Nat) (c : Option Nat) (a : Nat) (bs : List Byte) : (writeBytes u c a bs s).pending = s.pending := (writeBytes_only s u c a bs).pending (by decide)
@[simp] theorem writeBytes_variant (s : State) (u : Nat) (c : Option Nat) (a : Nat) (bs : List Byte) : (writeBytes u c a bs s).variant = s.variant := (writeBytes_only s u c a bs).variant (by decide)
@[simp] theorem writeBytes_hc (s : State) (u : Nat) (c : Option Nat) (a : Nat) (bs : List Byte) : (writeBytes u c a bs s).hc = s.hc := (writeBytes_only s u c a bs).hc (by decide)
@[simp] theorem writeBytes_tb (s : State) (u : Nat) (c : Option Nat) (a : Nat) (bs : List Byte) : (writeBytes u c a bs s).tb = s.tb := (writeBytes_only s u c a bs).tb (by decide)
@[simp] theorem writeBytes_tbPhase (s : State) (u : Nat) (c : Option Nat) (a : Nat) (bs : List Byte) : (writeBytes u c a bs s).tbPhase = s.tbPhase := (writeBytes_only s u c a bs).tbPhase (by decide)
@[simp] theorem writeBytes_fmhz (s : State) (u : Nat) (c : Option Nat) (a : Nat) (bs : List Byte) : (writeBytes u c a bs s).fmhz = s.fmhz := (writeBytes_only s u c a bs).fmhz (by decide)
@[simp] theorem writeBytes_free (s : State) (u : Nat) (c : Option Nat) (a : Nat) (bs : List Byte) : (writeBytes u c a bs s).free = s.free := (writeBytes_only s u c a bs).free (by decide)
@[simp] theorem writeBytes_selHost (s : State) (u : Nat) (c : Option Nat) (a : Nat) (bs : List Byte) : (writeBytes u c a bs s).selHost = s.selHost := (writeBytes_only s u c a bs).selHost (by decide)
@[simp] theorem writeBytes_selMgmt (s : State) (u : Nat) (c : Option Nat) (a : Nat) (bs : List Byte) : (writeBytes u c a bs s).selMgmt = s.selMgmt := (writeBytes_only s u c a bs).selMgmt (by decide)
@[simp] theorem writeBytes_en (s : State) (u : Nat) (c : Option Nat) (a : Nat) (bs : List Byte) : (writeBytes u c a bs s).en = s.en := (writeBytes_only s u c a bs).en (by decide)
@[simp] theorem writeBytes_ctxs (s : State) (u : Nat) (c : Option Nat) (a : Nat) (bs : List Byte) : (writeBytes u c a bs s).ctxs = s.ctxs := (writeBytes_only s u c a bs).ctxs (by decide)
@[simp] theorem writeBytes_templates (s : State) (u : Nat) (c : Option Nat) (a : Nat) (bs : List Byte) : (writeBytes u c a bs s).templates = s.templates := (writeBytes_only s u c a bs).templates (by decide)
@[simp] theorem writeBytes_launches (s : State) (u : Nat) (c : Option Nat) (a : Nat) (bs : List Byte) : (writeBytes u c a bs s).launches = s.launches := (writeBytes_only s u c a bs).launches (by decide)
@[simp] theorem writeBytes_heldLaunches (s : State) (u : Nat) (c : Option Nat) (a : Nat) (bs : List Byte) : (writeBytes u c a bs s).heldLaunches = s.heldLaunches := (writeBytes_only s u c a bs).heldLaunches (by decide)
@[simp] theorem writeBytes_hub (s : State) (u : Nat) (c : Option Nat) (a : Nat) (bs : List Byte) : (writeBytes u c a bs s).hub = s.hub := (writeBytes_only s u c a bs).hub (by decide)
@[simp] theorem writeBytes_disp (s : State) (u : Nat) (c : Option Nat) (a : Nat) (bs : List Byte) : (writeBytes u c a bs s).disp = s.disp := (writeBytes_only s u c a bs).disp (by decide)
@[simp] theorem writeBytes_fold (s : State) (u : Nat) (c : Option Nat) (a : Nat) (bs : List Byte) : (writeBytes u c a bs s).fold = s.fold := (writeBytes_only s u c a bs).fold (by decide)
@[simp] theorem writeBytes_rings (s : State) (u : Nat) (c : Option Nat) (a : Nat) (bs : List Byte) : (writeBytes u c a bs s).rings = s.rings := (writeBytes_only s u c a bs).rings (by decide)
@[simp] theorem writeBytes_cbs (s : State) (u : Nat) (c : Option Nat) (a : Nat) (bs : List Byte) : (writeBytes u c a bs s).cbs = s.cbs := (writeBytes_only s u c a bs).cbs (by decide)
@[simp] theorem writeBytes_dmas (s : State) (u : Nat) (c : Option Nat) (a : Nat) (bs : List Byte) : (writeBytes u c a bs s).dmas = s.dmas := (writeBytes_only s u c a bs).dmas (by decide)
@[simp] theorem writeBytes_dlm (s : State) (u : Nat) (c : Option Nat) (a : Nat) (bs : List Byte) : (writeBytes u c a bs s).dlm = s.dlm := (writeBytes_only s u c a bs).dlm (by decide)
@[simp] theorem writeBytes_ckpts (s : State) (u : Nat) (c : Option Nat) (a : Nat) (bs : List Byte) : (writeBytes u c a bs s).ckpts = s.ckpts := (writeBytes_only s u c a bs).ckpts (by decide)
@[simp] theorem writeBytes_sync (s : State) (u : Nat) (c : Option Nat) (a : Nat) (bs : List Byte) : (writeBytes u c a bs s).sync = s.sync := (writeBytes_only s u c a bs).sync (by decide)
@[simp] theorem writeBytes_queues (s : State) (u : Nat) (c : Option Nat) (a : Nat) (bs : List Byte) : (writeBytes u c a bs s).queues = s.queues := (writeBytes_only s u c a bs).queues (by decide)
@[simp] theorem writeBytes_msgs (s : State) (u : Nat) (c : Option Nat) (a : Nat) (bs : List Byte) : (writeBytes u c a bs s).msgs = s.msgs := (writeBytes_only s u c a bs).msgs (by decide)
@[simp] theorem writeBytes_fab (s : State) (u : Nat) (c : Option Nat) (a : Nat) (bs : List Byte) : (writeBytes u c a bs s).fab = s.fab := (writeBytes_only s u c a bs).fab (by decide)
@[simp] theorem writeBytes_refuse (s : State) (u : Nat) (c : Option Nat) (a : Nat) (bs : List Byte) : (writeBytes u c a bs s).refuse = s.refuse := (writeBytes_only s u c a bs).refuse (by decide)
@[simp] theorem writeBytes_nextId (s : State) (u : Nat) (c : Option Nat) (a : Nat) (bs : List Byte) : (writeBytes u c a bs s).nextId = s.nextId := (writeBytes_only s u c a bs).nextId (by decide)
@[simp] theorem writeBytes_lanes (s : State) (u : Nat) (c : Option Nat) (a : Nat) (bs : List Byte) : (writeBytes u c a bs s).lanes = s.lanes := (writeBytes_only s u c a bs).lanes (by decide)

/-! ## writeWords -/

theorem writeWords_only (s : State) (u : Nat) (c : Option Nat) (a : Nat) (ws : List Word) : Only [.mem, .poison, .obs, .reqs, .regs, .out, .glb, .cyc] s (writeWords u c a ws s) :=
    writeBytes_only s u c a _

@[simp] theorem writeWords_pending (s : State) (u : Nat) (c : Option Nat) (a : Nat) (ws : List Word) : (writeWords u c a ws s).pending = s.pending := (writeWords_only s u c a ws).pending (by decide)
@[simp] theorem writeWords_variant (s : State) (u : Nat) (c : Option Nat) (a : Nat) (ws : List Word) : (writeWords u c a ws s).variant = s.variant := (writeWords_only s u c a ws).variant (by decide)
@[simp] theorem writeWords_hc (s : State) (u : Nat) (c : Option Nat) (a : Nat) (ws : List Word) : (writeWords u c a ws s).hc = s.hc := (writeWords_only s u c a ws).hc (by decide)
@[simp] theorem writeWords_tb (s : State) (u : Nat) (c : Option Nat) (a : Nat) (ws : List Word) : (writeWords u c a ws s).tb = s.tb := (writeWords_only s u c a ws).tb (by decide)
@[simp] theorem writeWords_tbPhase (s : State) (u : Nat) (c : Option Nat) (a : Nat) (ws : List Word) : (writeWords u c a ws s).tbPhase = s.tbPhase := (writeWords_only s u c a ws).tbPhase (by decide)
@[simp] theorem writeWords_fmhz (s : State) (u : Nat) (c : Option Nat) (a : Nat) (ws : List Word) : (writeWords u c a ws s).fmhz = s.fmhz := (writeWords_only s u c a ws).fmhz (by decide)
@[simp] theorem writeWords_free (s : State) (u : Nat) (c : Option Nat) (a : Nat) (ws : List Word) : (writeWords u c a ws s).free = s.free := (writeWords_only s u c a ws).free (by decide)
@[simp] theorem writeWords_selHost (s : State) (u : Nat) (c : Option Nat) (a : Nat) (ws : List Word) : (writeWords u c a ws s).selHost = s.selHost := (writeWords_only s u c a ws).selHost (by decide)
@[simp] theorem writeWords_selMgmt (s : State) (u : Nat) (c : Option Nat) (a : Nat) (ws : List Word) : (writeWords u c a ws s).selMgmt = s.selMgmt := (writeWords_only s u c a ws).selMgmt (by decide)
@[simp] theorem writeWords_en (s : State) (u : Nat) (c : Option Nat) (a : Nat) (ws : List Word) : (writeWords u c a ws s).en = s.en := (writeWords_only s u c a ws).en (by decide)
@[simp] theorem writeWords_ctxs (s : State) (u : Nat) (c : Option Nat) (a : Nat) (ws : List Word) : (writeWords u c a ws s).ctxs = s.ctxs := (writeWords_only s u c a ws).ctxs (by decide)
@[simp] theorem writeWords_templates (s : State) (u : Nat) (c : Option Nat) (a : Nat) (ws : List Word) : (writeWords u c a ws s).templates = s.templates := (writeWords_only s u c a ws).templates (by decide)
@[simp] theorem writeWords_launches (s : State) (u : Nat) (c : Option Nat) (a : Nat) (ws : List Word) : (writeWords u c a ws s).launches = s.launches := (writeWords_only s u c a ws).launches (by decide)
@[simp] theorem writeWords_heldLaunches (s : State) (u : Nat) (c : Option Nat) (a : Nat) (ws : List Word) : (writeWords u c a ws s).heldLaunches = s.heldLaunches := (writeWords_only s u c a ws).heldLaunches (by decide)
@[simp] theorem writeWords_hub (s : State) (u : Nat) (c : Option Nat) (a : Nat) (ws : List Word) : (writeWords u c a ws s).hub = s.hub := (writeWords_only s u c a ws).hub (by decide)
@[simp] theorem writeWords_disp (s : State) (u : Nat) (c : Option Nat) (a : Nat) (ws : List Word) : (writeWords u c a ws s).disp = s.disp := (writeWords_only s u c a ws).disp (by decide)
@[simp] theorem writeWords_fold (s : State) (u : Nat) (c : Option Nat) (a : Nat) (ws : List Word) : (writeWords u c a ws s).fold = s.fold := (writeWords_only s u c a ws).fold (by decide)
@[simp] theorem writeWords_rings (s : State) (u : Nat) (c : Option Nat) (a : Nat) (ws : List Word) : (writeWords u c a ws s).rings = s.rings := (writeWords_only s u c a ws).rings (by decide)
@[simp] theorem writeWords_cbs (s : State) (u : Nat) (c : Option Nat) (a : Nat) (ws : List Word) : (writeWords u c a ws s).cbs = s.cbs := (writeWords_only s u c a ws).cbs (by decide)
@[simp] theorem writeWords_dmas (s : State) (u : Nat) (c : Option Nat) (a : Nat) (ws : List Word) : (writeWords u c a ws s).dmas = s.dmas := (writeWords_only s u c a ws).dmas (by decide)
@[simp] theorem writeWords_dlm (s : State) (u : Nat) (c : Option Nat) (a : Nat) (ws : List Word) : (writeWords u c a ws s).dlm = s.dlm := (writeWords_only s u c a ws).dlm (by decide)
@[simp] theorem writeWords_ckpts (s : State) (u : Nat) (c : Option Nat) (a : Nat) (ws : List Word) : (writeWords u c a ws s).ckpts = s.ckpts := (writeWords_only s u c a ws).ckpts (by decide)
@[simp] theorem writeWords_sync (s : State) (u : Nat) (c : Option Nat) (a : Nat) (ws : List Word) : (writeWords u c a ws s).sync = s.sync := (writeWords_only s u c a ws).sync (by decide)
@[simp] theorem writeWords_queues (s : State) (u : Nat) (c : Option Nat) (a : Nat) (ws : List Word) : (writeWords u c a ws s).queues = s.queues := (writeWords_only s u c a ws).queues (by decide)
@[simp] theorem writeWords_msgs (s : State) (u : Nat) (c : Option Nat) (a : Nat) (ws : List Word) : (writeWords u c a ws s).msgs = s.msgs := (writeWords_only s u c a ws).msgs (by decide)
@[simp] theorem writeWords_fab (s : State) (u : Nat) (c : Option Nat) (a : Nat) (ws : List Word) : (writeWords u c a ws s).fab = s.fab := (writeWords_only s u c a ws).fab (by decide)
@[simp] theorem writeWords_refuse (s : State) (u : Nat) (c : Option Nat) (a : Nat) (ws : List Word) : (writeWords u c a ws s).refuse = s.refuse := (writeWords_only s u c a ws).refuse (by decide)
@[simp] theorem writeWords_nextId (s : State) (u : Nat) (c : Option Nat) (a : Nat) (ws : List Word) : (writeWords u c a ws s).nextId = s.nextId := (writeWords_only s u c a ws).nextId (by decide)
@[simp] theorem writeWords_lanes (s : State) (u : Nat) (c : Option Nat) (a : Nat) (ws : List Word) : (writeWords u c a ws s).lanes = s.lanes := (writeWords_only s u c a ws).lanes (by decide)

/-! ## writeLrec -/

theorem writeLrec_only (s : State) (l : Launch) : Only [.mem, .poison, .obs, .reqs, .regs, .out, .glb, .cyc] s (writeLrec l s) :=
    writeWords_only s _ _ _ _

@[simp] theorem writeLrec_pending (s : State) (l : Launch) : (writeLrec l s).pending = s.pending := (writeLrec_only s l).pending (by decide)
@[simp] theorem writeLrec_variant (s : State) (l : Launch) : (writeLrec l s).variant = s.variant := (writeLrec_only s l).variant (by decide)
@[simp] theorem writeLrec_hc (s : State) (l : Launch) : (writeLrec l s).hc = s.hc := (writeLrec_only s l).hc (by decide)
@[simp] theorem writeLrec_tb (s : State) (l : Launch) : (writeLrec l s).tb = s.tb := (writeLrec_only s l).tb (by decide)
@[simp] theorem writeLrec_tbPhase (s : State) (l : Launch) : (writeLrec l s).tbPhase = s.tbPhase := (writeLrec_only s l).tbPhase (by decide)
@[simp] theorem writeLrec_fmhz (s : State) (l : Launch) : (writeLrec l s).fmhz = s.fmhz := (writeLrec_only s l).fmhz (by decide)
@[simp] theorem writeLrec_free (s : State) (l : Launch) : (writeLrec l s).free = s.free := (writeLrec_only s l).free (by decide)
@[simp] theorem writeLrec_selHost (s : State) (l : Launch) : (writeLrec l s).selHost = s.selHost := (writeLrec_only s l).selHost (by decide)
@[simp] theorem writeLrec_selMgmt (s : State) (l : Launch) : (writeLrec l s).selMgmt = s.selMgmt := (writeLrec_only s l).selMgmt (by decide)
@[simp] theorem writeLrec_en (s : State) (l : Launch) : (writeLrec l s).en = s.en := (writeLrec_only s l).en (by decide)
@[simp] theorem writeLrec_ctxs (s : State) (l : Launch) : (writeLrec l s).ctxs = s.ctxs := (writeLrec_only s l).ctxs (by decide)
@[simp] theorem writeLrec_templates (s : State) (l : Launch) : (writeLrec l s).templates = s.templates := (writeLrec_only s l).templates (by decide)
@[simp] theorem writeLrec_launches (s : State) (l : Launch) : (writeLrec l s).launches = s.launches := (writeLrec_only s l).launches (by decide)
@[simp] theorem writeLrec_heldLaunches (s : State) (l : Launch) : (writeLrec l s).heldLaunches = s.heldLaunches := (writeLrec_only s l).heldLaunches (by decide)
@[simp] theorem writeLrec_hub (s : State) (l : Launch) : (writeLrec l s).hub = s.hub := (writeLrec_only s l).hub (by decide)
@[simp] theorem writeLrec_disp (s : State) (l : Launch) : (writeLrec l s).disp = s.disp := (writeLrec_only s l).disp (by decide)
@[simp] theorem writeLrec_fold (s : State) (l : Launch) : (writeLrec l s).fold = s.fold := (writeLrec_only s l).fold (by decide)
@[simp] theorem writeLrec_rings (s : State) (l : Launch) : (writeLrec l s).rings = s.rings := (writeLrec_only s l).rings (by decide)
@[simp] theorem writeLrec_cbs (s : State) (l : Launch) : (writeLrec l s).cbs = s.cbs := (writeLrec_only s l).cbs (by decide)
@[simp] theorem writeLrec_dmas (s : State) (l : Launch) : (writeLrec l s).dmas = s.dmas := (writeLrec_only s l).dmas (by decide)
@[simp] theorem writeLrec_dlm (s : State) (l : Launch) : (writeLrec l s).dlm = s.dlm := (writeLrec_only s l).dlm (by decide)
@[simp] theorem writeLrec_ckpts (s : State) (l : Launch) : (writeLrec l s).ckpts = s.ckpts := (writeLrec_only s l).ckpts (by decide)
@[simp] theorem writeLrec_sync (s : State) (l : Launch) : (writeLrec l s).sync = s.sync := (writeLrec_only s l).sync (by decide)
@[simp] theorem writeLrec_queues (s : State) (l : Launch) : (writeLrec l s).queues = s.queues := (writeLrec_only s l).queues (by decide)
@[simp] theorem writeLrec_msgs (s : State) (l : Launch) : (writeLrec l s).msgs = s.msgs := (writeLrec_only s l).msgs (by decide)
@[simp] theorem writeLrec_fab (s : State) (l : Launch) : (writeLrec l s).fab = s.fab := (writeLrec_only s l).fab (by decide)
@[simp] theorem writeLrec_refuse (s : State) (l : Launch) : (writeLrec l s).refuse = s.refuse := (writeLrec_only s l).refuse (by decide)
@[simp] theorem writeLrec_nextId (s : State) (l : Launch) : (writeLrec l s).nextId = s.nextId := (writeLrec_only s l).nextId (by decide)
@[simp] theorem writeLrec_lanes (s : State) (l : Launch) : (writeLrec l s).lanes = s.lanes := (writeLrec_only s l).lanes (by decide)

/-! ## State.modLaunch -/

theorem State.modLaunch_only (s : State) (ctx serial : Nat) (f : Launch → Launch) : Only [.launches] s (s.modLaunch ctx serial f) :=
    ⟨fun _ => rfl, fun _ => rfl, fun _ => rfl, fun _ => rfl, fun _ => rfl, fun _ => rfl, fun _ => rfl, fun _ => rfl, fun _ => rfl, fun _ => rfl, fun _ => rfl, fun _ => rfl, fun _ => rfl, fun _ => rfl, fun h => absurd (by decide) h, fun _ => rfl, fun _ => rfl, fun _ => rfl, fun _ => rfl, fun _ => rfl, fun _ => rfl, fun _ => rfl, fun _ => rfl, fun _ => rfl, fun _ => rfl, fun _ => rfl, fun _ => rfl, fun _ => rfl, fun _ => rfl, fun _ => rfl, fun _ => rfl, fun _ => rfl, fun _ => rfl, fun _ => rfl, fun _ => rfl, fun _ => rfl, fun _ => rfl⟩

/-! ## outMap -/

theorem outMap_only (s : State) (f : Nat → Nat) (ctx serial : Nat) : Only [.launches, .mem, .poison, .obs, .reqs, .regs, .out, .glb, .cyc] s (outMap f ctx serial s) := by
  unfold outMap; split
  · exact (State.modLaunch_only s _ _ _).mono.trans (writeWords_only _ _ _ _ _).mono
  · exact Only.refl _ s

@[simp] theorem outMap_pending (s : State) (f : Nat → Nat) (ctx serial : Nat) : (outMap f ctx serial s).pending = s.pending := (outMap_only s f ctx serial).pending (by decide)
@[simp] theorem outMap_variant (s : State) (f : Nat → Nat) (ctx serial : Nat) : (outMap f ctx serial s).variant = s.variant := (outMap_only s f ctx serial).variant (by decide)
@[simp] theorem outMap_hc (s : State) (f : Nat → Nat) (ctx serial : Nat) : (outMap f ctx serial s).hc = s.hc := (outMap_only s f ctx serial).hc (by decide)
@[simp] theorem outMap_tb (s : State) (f : Nat → Nat) (ctx serial : Nat) : (outMap f ctx serial s).tb = s.tb := (outMap_only s f ctx serial).tb (by decide)
@[simp] theorem outMap_tbPhase (s : State) (f : Nat → Nat) (ctx serial : Nat) : (outMap f ctx serial s).tbPhase = s.tbPhase := (outMap_only s f ctx serial).tbPhase (by decide)
@[simp] theorem outMap_fmhz (s : State) (f : Nat → Nat) (ctx serial : Nat) : (outMap f ctx serial s).fmhz = s.fmhz := (outMap_only s f ctx serial).fmhz (by decide)
@[simp] theorem outMap_free (s : State) (f : Nat → Nat) (ctx serial : Nat) : (outMap f ctx serial s).free = s.free := (outMap_only s f ctx serial).free (by decide)
@[simp] theorem outMap_selHost (s : State) (f : Nat → Nat) (ctx serial : Nat) : (outMap f ctx serial s).selHost = s.selHost := (outMap_only s f ctx serial).selHost (by decide)
@[simp] theorem outMap_selMgmt (s : State) (f : Nat → Nat) (ctx serial : Nat) : (outMap f ctx serial s).selMgmt = s.selMgmt := (outMap_only s f ctx serial).selMgmt (by decide)
@[simp] theorem outMap_en (s : State) (f : Nat → Nat) (ctx serial : Nat) : (outMap f ctx serial s).en = s.en := (outMap_only s f ctx serial).en (by decide)
@[simp] theorem outMap_ctxs (s : State) (f : Nat → Nat) (ctx serial : Nat) : (outMap f ctx serial s).ctxs = s.ctxs := (outMap_only s f ctx serial).ctxs (by decide)
@[simp] theorem outMap_templates (s : State) (f : Nat → Nat) (ctx serial : Nat) : (outMap f ctx serial s).templates = s.templates := (outMap_only s f ctx serial).templates (by decide)
@[simp] theorem outMap_heldLaunches (s : State) (f : Nat → Nat) (ctx serial : Nat) : (outMap f ctx serial s).heldLaunches = s.heldLaunches := (outMap_only s f ctx serial).heldLaunches (by decide)
@[simp] theorem outMap_hub (s : State) (f : Nat → Nat) (ctx serial : Nat) : (outMap f ctx serial s).hub = s.hub := (outMap_only s f ctx serial).hub (by decide)
@[simp] theorem outMap_disp (s : State) (f : Nat → Nat) (ctx serial : Nat) : (outMap f ctx serial s).disp = s.disp := (outMap_only s f ctx serial).disp (by decide)
@[simp] theorem outMap_fold (s : State) (f : Nat → Nat) (ctx serial : Nat) : (outMap f ctx serial s).fold = s.fold := (outMap_only s f ctx serial).fold (by decide)
@[simp] theorem outMap_rings (s : State) (f : Nat → Nat) (ctx serial : Nat) : (outMap f ctx serial s).rings = s.rings := (outMap_only s f ctx serial).rings (by decide)
@[simp] theorem outMap_cbs (s : State) (f : Nat → Nat) (ctx serial : Nat) : (outMap f ctx serial s).cbs = s.cbs := (outMap_only s f ctx serial).cbs (by decide)
@[simp] theorem outMap_dmas (s : State) (f : Nat → Nat) (ctx serial : Nat) : (outMap f ctx serial s).dmas = s.dmas := (outMap_only s f ctx serial).dmas (by decide)
@[simp] theorem outMap_dlm (s : State) (f : Nat → Nat) (ctx serial : Nat) : (outMap f ctx serial s).dlm = s.dlm := (outMap_only s f ctx serial).dlm (by decide)
@[simp] theorem outMap_ckpts (s : State) (f : Nat → Nat) (ctx serial : Nat) : (outMap f ctx serial s).ckpts = s.ckpts := (outMap_only s f ctx serial).ckpts (by decide)
@[simp] theorem outMap_sync (s : State) (f : Nat → Nat) (ctx serial : Nat) : (outMap f ctx serial s).sync = s.sync := (outMap_only s f ctx serial).sync (by decide)
@[simp] theorem outMap_queues (s : State) (f : Nat → Nat) (ctx serial : Nat) : (outMap f ctx serial s).queues = s.queues := (outMap_only s f ctx serial).queues (by decide)
@[simp] theorem outMap_msgs (s : State) (f : Nat → Nat) (ctx serial : Nat) : (outMap f ctx serial s).msgs = s.msgs := (outMap_only s f ctx serial).msgs (by decide)
@[simp] theorem outMap_fab (s : State) (f : Nat → Nat) (ctx serial : Nat) : (outMap f ctx serial s).fab = s.fab := (outMap_only s f ctx serial).fab (by decide)
@[simp] theorem outMap_refuse (s : State) (f : Nat → Nat) (ctx serial : Nat) : (outMap f ctx serial s).refuse = s.refuse := (outMap_only s f ctx serial).refuse (by decide)
@[simp] theorem outMap_nextId (s : State) (f : Nat → Nat) (ctx serial : Nat) : (outMap f ctx serial s).nextId = s.nextId := (outMap_only s f ctx serial).nextId (by decide)
@[simp] theorem outMap_lanes (s : State) (f : Nat → Nat) (ctx serial : Nat) : (outMap f ctx serial s).lanes = s.lanes := (outMap_only s f ctx serial).lanes (by decide)

/-! ## addOut -/

theorem addOut_only (s : State) (ctx serial n : Nat) : Only [.launches, .mem, .poison, .obs, .reqs, .regs, .out, .glb, .cyc] s (addOut ctx serial n s) :=
    outMap_only s _ ctx serial

@[simp] theorem addOut_pending (s : State) (ctx serial n : Nat) : (addOut ctx serial n s).pending = s.pending := (addOut_only s ctx serial n).pending (by decide)
@[simp] theorem addOut_variant (s : State) (ctx serial n : Nat) : (addOut ctx serial n s).variant = s.variant := (addOut_only s ctx serial n).variant (by decide)
@[simp] theorem addOut_hc (s : State) (ctx serial n : Nat) : (addOut ctx serial n s).hc = s.hc := (addOut_only s ctx serial n).hc (by decide)
@[simp] theorem addOut_tb (s : State) (ctx serial n : Nat) : (addOut ctx serial n s).tb = s.tb := (addOut_only s ctx serial n).tb (by decide)
@[simp] theorem addOut_tbPhase (s : State) (ctx serial n : Nat) : (addOut ctx serial n s).tbPhase = s.tbPhase := (addOut_only s ctx serial n).tbPhase (by decide)
@[simp] theorem addOut_fmhz (s : State) (ctx serial n : Nat) : (addOut ctx serial n s).fmhz = s.fmhz := (addOut_only s ctx serial n).fmhz (by decide)
@[simp] theorem addOut_free (s : State) (ctx serial n : Nat) : (addOut ctx serial n s).free = s.free := (addOut_only s ctx serial n).free (by decide)
@[simp] theorem addOut_selHost (s : State) (ctx serial n : Nat) : (addOut ctx serial n s).selHost = s.selHost := (addOut_only s ctx serial n).selHost (by decide)
@[simp] theorem addOut_selMgmt (s : State) (ctx serial n : Nat) : (addOut ctx serial n s).selMgmt = s.selMgmt := (addOut_only s ctx serial n).selMgmt (by decide)
@[simp] theorem addOut_en (s : State) (ctx serial n : Nat) : (addOut ctx serial n s).en = s.en := (addOut_only s ctx serial n).en (by decide)
@[simp] theorem addOut_ctxs (s : State) (ctx serial n : Nat) : (addOut ctx serial n s).ctxs = s.ctxs := (addOut_only s ctx serial n).ctxs (by decide)
@[simp] theorem addOut_templates (s : State) (ctx serial n : Nat) : (addOut ctx serial n s).templates = s.templates := (addOut_only s ctx serial n).templates (by decide)
@[simp] theorem addOut_heldLaunches (s : State) (ctx serial n : Nat) : (addOut ctx serial n s).heldLaunches = s.heldLaunches := (addOut_only s ctx serial n).heldLaunches (by decide)
@[simp] theorem addOut_hub (s : State) (ctx serial n : Nat) : (addOut ctx serial n s).hub = s.hub := (addOut_only s ctx serial n).hub (by decide)
@[simp] theorem addOut_disp (s : State) (ctx serial n : Nat) : (addOut ctx serial n s).disp = s.disp := (addOut_only s ctx serial n).disp (by decide)
@[simp] theorem addOut_fold (s : State) (ctx serial n : Nat) : (addOut ctx serial n s).fold = s.fold := (addOut_only s ctx serial n).fold (by decide)
@[simp] theorem addOut_rings (s : State) (ctx serial n : Nat) : (addOut ctx serial n s).rings = s.rings := (addOut_only s ctx serial n).rings (by decide)
@[simp] theorem addOut_cbs (s : State) (ctx serial n : Nat) : (addOut ctx serial n s).cbs = s.cbs := (addOut_only s ctx serial n).cbs (by decide)
@[simp] theorem addOut_dmas (s : State) (ctx serial n : Nat) : (addOut ctx serial n s).dmas = s.dmas := (addOut_only s ctx serial n).dmas (by decide)
@[simp] theorem addOut_dlm (s : State) (ctx serial n : Nat) : (addOut ctx serial n s).dlm = s.dlm := (addOut_only s ctx serial n).dlm (by decide)
@[simp] theorem addOut_ckpts (s : State) (ctx serial n : Nat) : (addOut ctx serial n s).ckpts = s.ckpts := (addOut_only s ctx serial n).ckpts (by decide)
@[simp] theorem addOut_sync (s : State) (ctx serial n : Nat) : (addOut ctx serial n s).sync = s.sync := (addOut_only s ctx serial n).sync (by decide)
@[simp] theorem addOut_queues (s : State) (ctx serial n : Nat) : (addOut ctx serial n s).queues = s.queues := (addOut_only s ctx serial n).queues (by decide)
@[simp] theorem addOut_msgs (s : State) (ctx serial n : Nat) : (addOut ctx serial n s).msgs = s.msgs := (addOut_only s ctx serial n).msgs (by decide)
@[simp] theorem addOut_fab (s : State) (ctx serial n : Nat) : (addOut ctx serial n s).fab = s.fab := (addOut_only s ctx serial n).fab (by decide)
@[simp] theorem addOut_refuse (s : State) (ctx serial n : Nat) : (addOut ctx serial n s).refuse = s.refuse := (addOut_only s ctx serial n).refuse (by decide)
@[simp] theorem addOut_nextId (s : State) (ctx serial n : Nat) : (addOut ctx serial n s).nextId = s.nextId := (addOut_only s ctx serial n).nextId (by decide)
@[simp] theorem addOut_lanes (s : State) (ctx serial n : Nat) : (addOut ctx serial n s).lanes = s.lanes := (addOut_only s ctx serial n).lanes (by decide)

/-! ## subOut -/

theorem subOut_only (s : State) (ctx serial n : Nat) : Only [.launches, .mem, .poison, .obs, .reqs, .regs, .out, .glb, .cyc] s (subOut ctx serial n s) :=
    outMap_only s _ ctx serial

@[simp] theorem subOut_pending (s : State) (ctx serial n : Nat) : (subOut ctx serial n s).pending = s.pending := (subOut_only s ctx serial n).pending (by decide)
@[simp] theorem subOut_variant (s : State) (ctx serial n : Nat) : (subOut ctx serial n s).variant = s.variant := (subOut_only s ctx serial n).variant (by decide)
@[simp] theorem subOut_hc (s : State) (ctx serial n : Nat) : (subOut ctx serial n s).hc = s.hc := (subOut_only s ctx serial n).hc (by decide)
@[simp] theorem subOut_tb (s : State) (ctx serial n : Nat) : (subOut ctx serial n s).tb = s.tb := (subOut_only s ctx serial n).tb (by decide)
@[simp] theorem subOut_tbPhase (s : State) (ctx serial n : Nat) : (subOut ctx serial n s).tbPhase = s.tbPhase := (subOut_only s ctx serial n).tbPhase (by decide)
@[simp] theorem subOut_fmhz (s : State) (ctx serial n : Nat) : (subOut ctx serial n s).fmhz = s.fmhz := (subOut_only s ctx serial n).fmhz (by decide)
@[simp] theorem subOut_free (s : State) (ctx serial n : Nat) : (subOut ctx serial n s).free = s.free := (subOut_only s ctx serial n).free (by decide)
@[simp] theorem subOut_selHost (s : State) (ctx serial n : Nat) : (subOut ctx serial n s).selHost = s.selHost := (subOut_only s ctx serial n).selHost (by decide)
@[simp] theorem subOut_selMgmt (s : State) (ctx serial n : Nat) : (subOut ctx serial n s).selMgmt = s.selMgmt := (subOut_only s ctx serial n).selMgmt (by decide)
@[simp] theorem subOut_en (s : State) (ctx serial n : Nat) : (subOut ctx serial n s).en = s.en := (subOut_only s ctx serial n).en (by decide)
@[simp] theorem subOut_ctxs (s : State) (ctx serial n : Nat) : (subOut ctx serial n s).ctxs = s.ctxs := (subOut_only s ctx serial n).ctxs (by decide)
@[simp] theorem subOut_templates (s : State) (ctx serial n : Nat) : (subOut ctx serial n s).templates = s.templates := (subOut_only s ctx serial n).templates (by decide)
@[simp] theorem subOut_heldLaunches (s : State) (ctx serial n : Nat) : (subOut ctx serial n s).heldLaunches = s.heldLaunches := (subOut_only s ctx serial n).heldLaunches (by decide)
@[simp] theorem subOut_hub (s : State) (ctx serial n : Nat) : (subOut ctx serial n s).hub = s.hub := (subOut_only s ctx serial n).hub (by decide)
@[simp] theorem subOut_disp (s : State) (ctx serial n : Nat) : (subOut ctx serial n s).disp = s.disp := (subOut_only s ctx serial n).disp (by decide)
@[simp] theorem subOut_fold (s : State) (ctx serial n : Nat) : (subOut ctx serial n s).fold = s.fold := (subOut_only s ctx serial n).fold (by decide)
@[simp] theorem subOut_rings (s : State) (ctx serial n : Nat) : (subOut ctx serial n s).rings = s.rings := (subOut_only s ctx serial n).rings (by decide)
@[simp] theorem subOut_cbs (s : State) (ctx serial n : Nat) : (subOut ctx serial n s).cbs = s.cbs := (subOut_only s ctx serial n).cbs (by decide)
@[simp] theorem subOut_dmas (s : State) (ctx serial n : Nat) : (subOut ctx serial n s).dmas = s.dmas := (subOut_only s ctx serial n).dmas (by decide)
@[simp] theorem subOut_dlm (s : State) (ctx serial n : Nat) : (subOut ctx serial n s).dlm = s.dlm := (subOut_only s ctx serial n).dlm (by decide)
@[simp] theorem subOut_ckpts (s : State) (ctx serial n : Nat) : (subOut ctx serial n s).ckpts = s.ckpts := (subOut_only s ctx serial n).ckpts (by decide)
@[simp] theorem subOut_sync (s : State) (ctx serial n : Nat) : (subOut ctx serial n s).sync = s.sync := (subOut_only s ctx serial n).sync (by decide)
@[simp] theorem subOut_queues (s : State) (ctx serial n : Nat) : (subOut ctx serial n s).queues = s.queues := (subOut_only s ctx serial n).queues (by decide)
@[simp] theorem subOut_msgs (s : State) (ctx serial n : Nat) : (subOut ctx serial n s).msgs = s.msgs := (subOut_only s ctx serial n).msgs (by decide)
@[simp] theorem subOut_fab (s : State) (ctx serial n : Nat) : (subOut ctx serial n s).fab = s.fab := (subOut_only s ctx serial n).fab (by decide)
@[simp] theorem subOut_refuse (s : State) (ctx serial n : Nat) : (subOut ctx serial n s).refuse = s.refuse := (subOut_only s ctx serial n).refuse (by decide)
@[simp] theorem subOut_nextId (s : State) (ctx serial n : Nat) : (subOut ctx serial n s).nextId = s.nextId := (subOut_only s ctx serial n).nextId (by decide)
@[simp] theorem subOut_lanes (s : State) (ctx serial n : Nat) : (subOut ctx serial n s).lanes = s.lanes := (subOut_only s ctx serial n).lanes (by decide)

/-! ## noteOverrun -/

theorem noteOverrun_only (s : State) (v : Slot) : Only [.launches, .regs, .cyc] s (noteOverrun v s) := by
  unfold noteOverrun; repeat' split
  · exact (State.modLaunch_only s _ _ _).mono.trans (bump_only _ _ _).mono
  · exact Only.refl _ s
  · exact Only.refl _ s

@[simp] theorem noteOverrun_pending (s : State) (v : Slot) : (noteOverrun v s).pending = s.pending := (noteOverrun_only s v).pending (by decide)
@[simp] theorem noteOverrun_variant (s : State) (v : Slot) : (noteOverrun v s).variant = s.variant := (noteOverrun_only s v).variant (by decide)
@[simp] theorem noteOverrun_hc (s : State) (v : Slot) : (noteOverrun v s).hc = s.hc := (noteOverrun_only s v).hc (by decide)
@[simp] theorem noteOverrun_tb (s : State) (v : Slot) : (noteOverrun v s).tb = s.tb := (noteOverrun_only s v).tb (by decide)
@[simp] theorem noteOverrun_tbPhase (s : State) (v : Slot) : (noteOverrun v s).tbPhase = s.tbPhase := (noteOverrun_only s v).tbPhase (by decide)
@[simp] theorem noteOverrun_fmhz (s : State) (v : Slot) : (noteOverrun v s).fmhz = s.fmhz := (noteOverrun_only s v).fmhz (by decide)
@[simp] theorem noteOverrun_free (s : State) (v : Slot) : (noteOverrun v s).free = s.free := (noteOverrun_only s v).free (by decide)
@[simp] theorem noteOverrun_selHost (s : State) (v : Slot) : (noteOverrun v s).selHost = s.selHost := (noteOverrun_only s v).selHost (by decide)
@[simp] theorem noteOverrun_selMgmt (s : State) (v : Slot) : (noteOverrun v s).selMgmt = s.selMgmt := (noteOverrun_only s v).selMgmt (by decide)
@[simp] theorem noteOverrun_glb (s : State) (v : Slot) : (noteOverrun v s).glb = s.glb := (noteOverrun_only s v).glb (by decide)
@[simp] theorem noteOverrun_en (s : State) (v : Slot) : (noteOverrun v s).en = s.en := (noteOverrun_only s v).en (by decide)
@[simp] theorem noteOverrun_ctxs (s : State) (v : Slot) : (noteOverrun v s).ctxs = s.ctxs := (noteOverrun_only s v).ctxs (by decide)
@[simp] theorem noteOverrun_templates (s : State) (v : Slot) : (noteOverrun v s).templates = s.templates := (noteOverrun_only s v).templates (by decide)
@[simp] theorem noteOverrun_heldLaunches (s : State) (v : Slot) : (noteOverrun v s).heldLaunches = s.heldLaunches := (noteOverrun_only s v).heldLaunches (by decide)
@[simp] theorem noteOverrun_hub (s : State) (v : Slot) : (noteOverrun v s).hub = s.hub := (noteOverrun_only s v).hub (by decide)
@[simp] theorem noteOverrun_disp (s : State) (v : Slot) : (noteOverrun v s).disp = s.disp := (noteOverrun_only s v).disp (by decide)
@[simp] theorem noteOverrun_fold (s : State) (v : Slot) : (noteOverrun v s).fold = s.fold := (noteOverrun_only s v).fold (by decide)
@[simp] theorem noteOverrun_rings (s : State) (v : Slot) : (noteOverrun v s).rings = s.rings := (noteOverrun_only s v).rings (by decide)
@[simp] theorem noteOverrun_cbs (s : State) (v : Slot) : (noteOverrun v s).cbs = s.cbs := (noteOverrun_only s v).cbs (by decide)
@[simp] theorem noteOverrun_dmas (s : State) (v : Slot) : (noteOverrun v s).dmas = s.dmas := (noteOverrun_only s v).dmas (by decide)
@[simp] theorem noteOverrun_dlm (s : State) (v : Slot) : (noteOverrun v s).dlm = s.dlm := (noteOverrun_only s v).dlm (by decide)
@[simp] theorem noteOverrun_ckpts (s : State) (v : Slot) : (noteOverrun v s).ckpts = s.ckpts := (noteOverrun_only s v).ckpts (by decide)
@[simp] theorem noteOverrun_sync (s : State) (v : Slot) : (noteOverrun v s).sync = s.sync := (noteOverrun_only s v).sync (by decide)
@[simp] theorem noteOverrun_queues (s : State) (v : Slot) : (noteOverrun v s).queues = s.queues := (noteOverrun_only s v).queues (by decide)
@[simp] theorem noteOverrun_msgs (s : State) (v : Slot) : (noteOverrun v s).msgs = s.msgs := (noteOverrun_only s v).msgs (by decide)
@[simp] theorem noteOverrun_fab (s : State) (v : Slot) : (noteOverrun v s).fab = s.fab := (noteOverrun_only s v).fab (by decide)
@[simp] theorem noteOverrun_obs (s : State) (v : Slot) : (noteOverrun v s).obs = s.obs := (noteOverrun_only s v).obs (by decide)
@[simp] theorem noteOverrun_mem (s : State) (v : Slot) : (noteOverrun v s).mem = s.mem := (noteOverrun_only s v).mem (by decide)
@[simp] theorem noteOverrun_poison (s : State) (v : Slot) : (noteOverrun v s).poison = s.poison := (noteOverrun_only s v).poison (by decide)
@[simp] theorem noteOverrun_refuse (s : State) (v : Slot) : (noteOverrun v s).refuse = s.refuse := (noteOverrun_only s v).refuse (by decide)
@[simp] theorem noteOverrun_nextId (s : State) (v : Slot) : (noteOverrun v s).nextId = s.nextId := (noteOverrun_only s v).nextId (by decide)
@[simp] theorem noteOverrun_lanes (s : State) (v : Slot) : (noteOverrun v s).lanes = s.lanes := (noteOverrun_only s v).lanes (by decide)
@[simp] theorem noteOverrun_reqs (s : State) (v : Slot) : (noteOverrun v s).reqs = s.reqs := (noteOverrun_only s v).reqs (by decide)
@[simp] theorem noteOverrun_out (s : State) (v : Slot) : (noteOverrun v s).out = s.out := (noteOverrun_only s v).out (by decide)

/-! ## ringInsert -/

theorem ringInsert_only (s : State) (e : ReadyEntry) : Only [.hub, .mem, .poison, .obs, .reqs, .regs, .out, .glb, .cyc] s (ringInsert e s) := by
  have h : ∀ x : Hub, Only [.hub, .mem, .poison, .obs, .reqs, .regs, .out, .glb, .cyc] s { s with hub := x } := fun x =>
    ⟨fun _ => rfl, fun _ => rfl, fun _ => rfl, fun _ => rfl, fun _ => rfl, fun _ => rfl, fun _ => rfl, fun h => absurd (by decide) h, fun _ => rfl, fun _ => rfl, fun h => absurd (by decide) h, fun _ => rfl, fun _ => rfl, fun _ => rfl, fun _ => rfl, fun _ => rfl, fun h => absurd (by decide) h, fun _ => rfl, fun _ => rfl, fun _ => rfl, fun _ => rfl, fun _ => rfl, fun _ => rfl, fun _ => rfl, fun _ => rfl, fun _ => rfl, fun _ => rfl, fun _ => rfl, fun h => absurd (by decide) h, fun h => absurd (by decide) h, fun h => absurd (by decide) h, fun _ => rfl, fun _ => rfl, fun _ => rfl, fun h => absurd (by decide) h, fun h => absurd (by decide) h, fun h => absurd (by decide) h⟩
  exact (h _).trans (writeWords_only _ _ _ _ _).mono

@[simp] theorem ringInsert_pending (s : State) (e : ReadyEntry) : (ringInsert e s).pending = s.pending := (ringInsert_only s e).pending (by decide)
@[simp] theorem ringInsert_variant (s : State) (e : ReadyEntry) : (ringInsert e s).variant = s.variant := (ringInsert_only s e).variant (by decide)
@[simp] theorem ringInsert_hc (s : State) (e : ReadyEntry) : (ringInsert e s).hc = s.hc := (ringInsert_only s e).hc (by decide)
@[simp] theorem ringInsert_tb (s : State) (e : ReadyEntry) : (ringInsert e s).tb = s.tb := (ringInsert_only s e).tb (by decide)
@[simp] theorem ringInsert_tbPhase (s : State) (e : ReadyEntry) : (ringInsert e s).tbPhase = s.tbPhase := (ringInsert_only s e).tbPhase (by decide)
@[simp] theorem ringInsert_fmhz (s : State) (e : ReadyEntry) : (ringInsert e s).fmhz = s.fmhz := (ringInsert_only s e).fmhz (by decide)
@[simp] theorem ringInsert_free (s : State) (e : ReadyEntry) : (ringInsert e s).free = s.free := (ringInsert_only s e).free (by decide)
@[simp] theorem ringInsert_selHost (s : State) (e : ReadyEntry) : (ringInsert e s).selHost = s.selHost := (ringInsert_only s e).selHost (by decide)
@[simp] theorem ringInsert_selMgmt (s : State) (e : ReadyEntry) : (ringInsert e s).selMgmt = s.selMgmt := (ringInsert_only s e).selMgmt (by decide)
@[simp] theorem ringInsert_en (s : State) (e : ReadyEntry) : (ringInsert e s).en = s.en := (ringInsert_only s e).en (by decide)
@[simp] theorem ringInsert_ctxs (s : State) (e : ReadyEntry) : (ringInsert e s).ctxs = s.ctxs := (ringInsert_only s e).ctxs (by decide)
@[simp] theorem ringInsert_templates (s : State) (e : ReadyEntry) : (ringInsert e s).templates = s.templates := (ringInsert_only s e).templates (by decide)
@[simp] theorem ringInsert_launches (s : State) (e : ReadyEntry) : (ringInsert e s).launches = s.launches := (ringInsert_only s e).launches (by decide)
@[simp] theorem ringInsert_heldLaunches (s : State) (e : ReadyEntry) : (ringInsert e s).heldLaunches = s.heldLaunches := (ringInsert_only s e).heldLaunches (by decide)
@[simp] theorem ringInsert_disp (s : State) (e : ReadyEntry) : (ringInsert e s).disp = s.disp := (ringInsert_only s e).disp (by decide)
@[simp] theorem ringInsert_fold (s : State) (e : ReadyEntry) : (ringInsert e s).fold = s.fold := (ringInsert_only s e).fold (by decide)
@[simp] theorem ringInsert_rings (s : State) (e : ReadyEntry) : (ringInsert e s).rings = s.rings := (ringInsert_only s e).rings (by decide)
@[simp] theorem ringInsert_cbs (s : State) (e : ReadyEntry) : (ringInsert e s).cbs = s.cbs := (ringInsert_only s e).cbs (by decide)
@[simp] theorem ringInsert_dmas (s : State) (e : ReadyEntry) : (ringInsert e s).dmas = s.dmas := (ringInsert_only s e).dmas (by decide)
@[simp] theorem ringInsert_dlm (s : State) (e : ReadyEntry) : (ringInsert e s).dlm = s.dlm := (ringInsert_only s e).dlm (by decide)
@[simp] theorem ringInsert_ckpts (s : State) (e : ReadyEntry) : (ringInsert e s).ckpts = s.ckpts := (ringInsert_only s e).ckpts (by decide)
@[simp] theorem ringInsert_sync (s : State) (e : ReadyEntry) : (ringInsert e s).sync = s.sync := (ringInsert_only s e).sync (by decide)
@[simp] theorem ringInsert_queues (s : State) (e : ReadyEntry) : (ringInsert e s).queues = s.queues := (ringInsert_only s e).queues (by decide)
@[simp] theorem ringInsert_msgs (s : State) (e : ReadyEntry) : (ringInsert e s).msgs = s.msgs := (ringInsert_only s e).msgs (by decide)
@[simp] theorem ringInsert_fab (s : State) (e : ReadyEntry) : (ringInsert e s).fab = s.fab := (ringInsert_only s e).fab (by decide)
@[simp] theorem ringInsert_refuse (s : State) (e : ReadyEntry) : (ringInsert e s).refuse = s.refuse := (ringInsert_only s e).refuse (by decide)
@[simp] theorem ringInsert_nextId (s : State) (e : ReadyEntry) : (ringInsert e s).nextId = s.nextId := (ringInsert_only s e).nextId (by decide)
@[simp] theorem ringInsert_lanes (s : State) (e : ReadyEntry) : (ringInsert e s).lanes = s.lanes := (ringInsert_only s e).lanes (by decide)

/-! ## readyInsert -/

theorem readyInsert_only (s : State) (e : ReadyEntry) : Only [.hub, .mem, .poison, .obs, .reqs, .regs, .out, .glb, .cyc] s (readyInsert e s) := by
  have h : ∀ x : Hub, Only [.hub, .mem, .poison, .obs, .reqs, .regs, .out, .glb, .cyc] s { s with hub := x } := fun x =>
    ⟨fun _ => rfl, fun _ => rfl, fun _ => rfl, fun _ => rfl, fun _ => rfl, fun _ => rfl, fun _ => rfl, fun h => absurd (by decide) h, fun _ => rfl, fun _ => rfl, fun h => absurd (by decide) h, fun _ => rfl, fun _ => rfl, fun _ => rfl, fun _ => rfl, fun _ => rfl, fun h => absurd (by decide) h, fun _ => rfl, fun _ => rfl, fun _ => rfl, fun _ => rfl, fun _ => rfl, fun _ => rfl, fun _ => rfl, fun _ => rfl, fun _ => rfl, fun _ => rfl, fun _ => rfl, fun h => absurd (by decide) h, fun h => absurd (by decide) h, fun h => absurd (by decide) h, fun _ => rfl, fun _ => rfl, fun _ => rfl, fun h => absurd (by decide) h, fun h => absurd (by decide) h, fun h => absurd (by decide) h⟩
  unfold readyInsert; dsimp only
  refine Only.trans ?_ (linkPass_only _ _).mono
  split
  · exact ringInsert_only s e
  · exact h _

@[simp] theorem readyInsert_pending (s : State) (e : ReadyEntry) : (readyInsert e s).pending = s.pending := (readyInsert_only s e).pending (by decide)
@[simp] theorem readyInsert_variant (s : State) (e : ReadyEntry) : (readyInsert e s).variant = s.variant := (readyInsert_only s e).variant (by decide)
@[simp] theorem readyInsert_hc (s : State) (e : ReadyEntry) : (readyInsert e s).hc = s.hc := (readyInsert_only s e).hc (by decide)
@[simp] theorem readyInsert_tb (s : State) (e : ReadyEntry) : (readyInsert e s).tb = s.tb := (readyInsert_only s e).tb (by decide)
@[simp] theorem readyInsert_tbPhase (s : State) (e : ReadyEntry) : (readyInsert e s).tbPhase = s.tbPhase := (readyInsert_only s e).tbPhase (by decide)
@[simp] theorem readyInsert_fmhz (s : State) (e : ReadyEntry) : (readyInsert e s).fmhz = s.fmhz := (readyInsert_only s e).fmhz (by decide)
@[simp] theorem readyInsert_free (s : State) (e : ReadyEntry) : (readyInsert e s).free = s.free := (readyInsert_only s e).free (by decide)
@[simp] theorem readyInsert_selHost (s : State) (e : ReadyEntry) : (readyInsert e s).selHost = s.selHost := (readyInsert_only s e).selHost (by decide)
@[simp] theorem readyInsert_selMgmt (s : State) (e : ReadyEntry) : (readyInsert e s).selMgmt = s.selMgmt := (readyInsert_only s e).selMgmt (by decide)
@[simp] theorem readyInsert_en (s : State) (e : ReadyEntry) : (readyInsert e s).en = s.en := (readyInsert_only s e).en (by decide)
@[simp] theorem readyInsert_ctxs (s : State) (e : ReadyEntry) : (readyInsert e s).ctxs = s.ctxs := (readyInsert_only s e).ctxs (by decide)
@[simp] theorem readyInsert_templates (s : State) (e : ReadyEntry) : (readyInsert e s).templates = s.templates := (readyInsert_only s e).templates (by decide)
@[simp] theorem readyInsert_launches (s : State) (e : ReadyEntry) : (readyInsert e s).launches = s.launches := (readyInsert_only s e).launches (by decide)
@[simp] theorem readyInsert_heldLaunches (s : State) (e : ReadyEntry) : (readyInsert e s).heldLaunches = s.heldLaunches := (readyInsert_only s e).heldLaunches (by decide)
@[simp] theorem readyInsert_disp (s : State) (e : ReadyEntry) : (readyInsert e s).disp = s.disp := (readyInsert_only s e).disp (by decide)
@[simp] theorem readyInsert_fold (s : State) (e : ReadyEntry) : (readyInsert e s).fold = s.fold := (readyInsert_only s e).fold (by decide)
@[simp] theorem readyInsert_rings (s : State) (e : ReadyEntry) : (readyInsert e s).rings = s.rings := (readyInsert_only s e).rings (by decide)
@[simp] theorem readyInsert_cbs (s : State) (e : ReadyEntry) : (readyInsert e s).cbs = s.cbs := (readyInsert_only s e).cbs (by decide)
@[simp] theorem readyInsert_dmas (s : State) (e : ReadyEntry) : (readyInsert e s).dmas = s.dmas := (readyInsert_only s e).dmas (by decide)
@[simp] theorem readyInsert_dlm (s : State) (e : ReadyEntry) : (readyInsert e s).dlm = s.dlm := (readyInsert_only s e).dlm (by decide)
@[simp] theorem readyInsert_ckpts (s : State) (e : ReadyEntry) : (readyInsert e s).ckpts = s.ckpts := (readyInsert_only s e).ckpts (by decide)
@[simp] theorem readyInsert_sync (s : State) (e : ReadyEntry) : (readyInsert e s).sync = s.sync := (readyInsert_only s e).sync (by decide)
@[simp] theorem readyInsert_queues (s : State) (e : ReadyEntry) : (readyInsert e s).queues = s.queues := (readyInsert_only s e).queues (by decide)
@[simp] theorem readyInsert_msgs (s : State) (e : ReadyEntry) : (readyInsert e s).msgs = s.msgs := (readyInsert_only s e).msgs (by decide)
@[simp] theorem readyInsert_fab (s : State) (e : ReadyEntry) : (readyInsert e s).fab = s.fab := (readyInsert_only s e).fab (by decide)
@[simp] theorem readyInsert_refuse (s : State) (e : ReadyEntry) : (readyInsert e s).refuse = s.refuse := (readyInsert_only s e).refuse (by decide)
@[simp] theorem readyInsert_nextId (s : State) (e : ReadyEntry) : (readyInsert e s).nextId = s.nextId := (readyInsert_only s e).nextId (by decide)
@[simp] theorem readyInsert_lanes (s : State) (e : ReadyEntry) : (readyInsert e s).lanes = s.lanes := (readyInsert_only s e).lanes (by decide)

/-! ## readyEnter -/

theorem readyEnter_only (s : State) (e : ReadyEntry) : Only [.hub, .mem, .poison, .obs, .reqs, .regs, .out, .glb, .cyc] s (readyEnter e s) :=
    (perturbBy_only s 0).mono.trans (readyInsert_only _ _)

@[simp] theorem readyEnter_pending (s : State) (e : ReadyEntry) : (readyEnter e s).pending = s.pending := (readyEnter_only s e).pending (by decide)
@[simp] theorem readyEnter_variant (s : State) (e : ReadyEntry) : (readyEnter e s).variant = s.variant := (readyEnter_only s e).variant (by decide)
@[simp] theorem readyEnter_hc (s : State) (e : ReadyEntry) : (readyEnter e s).hc = s.hc := (readyEnter_only s e).hc (by decide)
@[simp] theorem readyEnter_tb (s : State) (e : ReadyEntry) : (readyEnter e s).tb = s.tb := (readyEnter_only s e).tb (by decide)
@[simp] theorem readyEnter_tbPhase (s : State) (e : ReadyEntry) : (readyEnter e s).tbPhase = s.tbPhase := (readyEnter_only s e).tbPhase (by decide)
@[simp] theorem readyEnter_fmhz (s : State) (e : ReadyEntry) : (readyEnter e s).fmhz = s.fmhz := (readyEnter_only s e).fmhz (by decide)
@[simp] theorem readyEnter_free (s : State) (e : ReadyEntry) : (readyEnter e s).free = s.free := (readyEnter_only s e).free (by decide)
@[simp] theorem readyEnter_selHost (s : State) (e : ReadyEntry) : (readyEnter e s).selHost = s.selHost := (readyEnter_only s e).selHost (by decide)
@[simp] theorem readyEnter_selMgmt (s : State) (e : ReadyEntry) : (readyEnter e s).selMgmt = s.selMgmt := (readyEnter_only s e).selMgmt (by decide)
@[simp] theorem readyEnter_en (s : State) (e : ReadyEntry) : (readyEnter e s).en = s.en := (readyEnter_only s e).en (by decide)
@[simp] theorem readyEnter_ctxs (s : State) (e : ReadyEntry) : (readyEnter e s).ctxs = s.ctxs := (readyEnter_only s e).ctxs (by decide)
@[simp] theorem readyEnter_templates (s : State) (e : ReadyEntry) : (readyEnter e s).templates = s.templates := (readyEnter_only s e).templates (by decide)
@[simp] theorem readyEnter_launches (s : State) (e : ReadyEntry) : (readyEnter e s).launches = s.launches := (readyEnter_only s e).launches (by decide)
@[simp] theorem readyEnter_heldLaunches (s : State) (e : ReadyEntry) : (readyEnter e s).heldLaunches = s.heldLaunches := (readyEnter_only s e).heldLaunches (by decide)
@[simp] theorem readyEnter_disp (s : State) (e : ReadyEntry) : (readyEnter e s).disp = s.disp := (readyEnter_only s e).disp (by decide)
@[simp] theorem readyEnter_fold (s : State) (e : ReadyEntry) : (readyEnter e s).fold = s.fold := (readyEnter_only s e).fold (by decide)
@[simp] theorem readyEnter_rings (s : State) (e : ReadyEntry) : (readyEnter e s).rings = s.rings := (readyEnter_only s e).rings (by decide)
@[simp] theorem readyEnter_cbs (s : State) (e : ReadyEntry) : (readyEnter e s).cbs = s.cbs := (readyEnter_only s e).cbs (by decide)
@[simp] theorem readyEnter_dmas (s : State) (e : ReadyEntry) : (readyEnter e s).dmas = s.dmas := (readyEnter_only s e).dmas (by decide)
@[simp] theorem readyEnter_dlm (s : State) (e : ReadyEntry) : (readyEnter e s).dlm = s.dlm := (readyEnter_only s e).dlm (by decide)
@[simp] theorem readyEnter_ckpts (s : State) (e : ReadyEntry) : (readyEnter e s).ckpts = s.ckpts := (readyEnter_only s e).ckpts (by decide)
@[simp] theorem readyEnter_sync (s : State) (e : ReadyEntry) : (readyEnter e s).sync = s.sync := (readyEnter_only s e).sync (by decide)
@[simp] theorem readyEnter_queues (s : State) (e : ReadyEntry) : (readyEnter e s).queues = s.queues := (readyEnter_only s e).queues (by decide)
@[simp] theorem readyEnter_msgs (s : State) (e : ReadyEntry) : (readyEnter e s).msgs = s.msgs := (readyEnter_only s e).msgs (by decide)
@[simp] theorem readyEnter_fab (s : State) (e : ReadyEntry) : (readyEnter e s).fab = s.fab := (readyEnter_only s e).fab (by decide)
@[simp] theorem readyEnter_refuse (s : State) (e : ReadyEntry) : (readyEnter e s).refuse = s.refuse := (readyEnter_only s e).refuse (by decide)
@[simp] theorem readyEnter_nextId (s : State) (e : ReadyEntry) : (readyEnter e s).nextId = s.nextId := (readyEnter_only s e).nextId (by decide)
@[simp] theorem readyEnter_lanes (s : State) (e : ReadyEntry) : (readyEnter e s).lanes = s.lanes := (readyEnter_only s e).lanes (by decide)

/-! ## State.setSlot -/

theorem State.setSlot_only (s : State) (shard n : Nat) (v : Slot) : Only [.hub] s (s.setSlot shard n v) :=
    ⟨fun _ => rfl, fun _ => rfl, fun _ => rfl, fun _ => rfl, fun _ => rfl, fun _ => rfl, fun _ => rfl, fun _ => rfl, fun _ => rfl, fun _ => rfl, fun _ => rfl, fun _ => rfl, fun _ => rfl, fun _ => rfl, fun _ => rfl, fun _ => rfl, fun h => absurd (by decide) h, fun _ => rfl, fun _ => rfl, fun _ => rfl, fun _ => rfl, fun _ => rfl, fun _ => rfl, fun _ => rfl, fun _ => rfl, fun _ => rfl, fun _ => rfl, fun _ => rfl, fun _ => rfl, fun _ => rfl, fun _ => rfl, fun _ => rfl, fun _ => rfl, fun _ => rfl, fun _ => rfl, fun _ => rfl, fun _ => rfl⟩

/-! ## noteCkpt -/

theorem noteCkpt_only (s : State) (ctx serial node src : Nat) : Only [.ckpts] s (noteCkpt ctx serial node src s) :=
    ⟨fun _ => rfl, fun _ => rfl, fun _ => rfl, fun _ => rfl, fun _ => rfl, fun _ => rfl, fun _ => rfl, fun _ => rfl, fun _ => rfl, fun _ => rfl, fun _ => rfl, fun _ => rfl, fun _ => rfl, fun _ => rfl, fun _ => rfl, fun _ => rfl, fun _ => rfl, fun _ => rfl, fun _ => rfl, fun _ => rfl, fun _ => rfl, fun _ => rfl, fun _ => rfl, fun h => absurd (by decide) h, fun _ => rfl, fun _ => rfl, fun _ => rfl, fun _ => rfl, fun _ => rfl, fun _ => rfl, fun _ => rfl, fun _ => rfl, fun _ => rfl, fun _ => rfl, fun _ => rfl, fun _ => rfl, fun _ => rfl⟩

/-! ## becomeReady -/

theorem becomeReady_only (s : State) (sh n : Nat) : Only [.hub, .launches, .ckpts, .mem, .poison, .obs, .reqs, .regs, .out, .glb, .cyc] s (becomeReady sh n s) := by
  unfold becomeReady; dsimp only
  have h := (trace2_only s sh 0x10 (some (s.slot sh n).ctx) 0 (s.slotTask sh n) (s.slot sh n).ordinal).mono
    (m' := [.hub, .launches, .ckpts, .mem, .poison, .obs, .reqs, .regs, .out, .glb, .cyc])
  split
  · have k := h.trans ((State.setSlot_only _ sh n { { s.slot sh n with readyStamp := s.tb, readyHc := s.hc } with state := .walking }).mono.trans
      (noteOverrun_only _ { s.slot sh n with readyStamp := s.tb, readyHc := s.hc }).mono)
    split
    · exact k.trans (Only.ifThen _ (noteCkpt_only _ _ _ _ _).mono)
    · exact k
  · exact h.trans ((State.setSlot_only _ _ _ _).mono.trans (readyEnter_only _ _).mono)

@[simp] theorem becomeReady_pending (s : State) (sh n : Nat) : (becomeReady sh n s).pending = s.pending := (becomeReady_only s sh n).pending (by decide)
@[simp] theorem becomeReady_variant (s : State) (sh n : Nat) : (becomeReady sh n s).variant = s.variant := (becomeReady_only s sh n).variant (by decide)
@[simp] theorem becomeReady_hc (s : State) (sh n : Nat) : (becomeReady sh n s).hc = s.hc := (becomeReady_only s sh n).hc (by decide)
@[simp] theorem becomeReady_tb (s : State) (sh n : Nat) : (becomeReady sh n s).tb = s.tb := (becomeReady_only s sh n).tb (by decide)
@[simp] theorem becomeReady_tbPhase (s : State) (sh n : Nat) : (becomeReady sh n s).tbPhase = s.tbPhase := (becomeReady_only s sh n).tbPhase (by decide)
@[simp] theorem becomeReady_fmhz (s : State) (sh n : Nat) : (becomeReady sh n s).fmhz = s.fmhz := (becomeReady_only s sh n).fmhz (by decide)
@[simp] theorem becomeReady_free (s : State) (sh n : Nat) : (becomeReady sh n s).free = s.free := (becomeReady_only s sh n).free (by decide)
@[simp] theorem becomeReady_selHost (s : State) (sh n : Nat) : (becomeReady sh n s).selHost = s.selHost := (becomeReady_only s sh n).selHost (by decide)
@[simp] theorem becomeReady_selMgmt (s : State) (sh n : Nat) : (becomeReady sh n s).selMgmt = s.selMgmt := (becomeReady_only s sh n).selMgmt (by decide)
@[simp] theorem becomeReady_en (s : State) (sh n : Nat) : (becomeReady sh n s).en = s.en := (becomeReady_only s sh n).en (by decide)
@[simp] theorem becomeReady_ctxs (s : State) (sh n : Nat) : (becomeReady sh n s).ctxs = s.ctxs := (becomeReady_only s sh n).ctxs (by decide)
@[simp] theorem becomeReady_templates (s : State) (sh n : Nat) : (becomeReady sh n s).templates = s.templates := (becomeReady_only s sh n).templates (by decide)
@[simp] theorem becomeReady_heldLaunches (s : State) (sh n : Nat) : (becomeReady sh n s).heldLaunches = s.heldLaunches := (becomeReady_only s sh n).heldLaunches (by decide)
@[simp] theorem becomeReady_disp (s : State) (sh n : Nat) : (becomeReady sh n s).disp = s.disp := (becomeReady_only s sh n).disp (by decide)
@[simp] theorem becomeReady_fold (s : State) (sh n : Nat) : (becomeReady sh n s).fold = s.fold := (becomeReady_only s sh n).fold (by decide)
@[simp] theorem becomeReady_rings (s : State) (sh n : Nat) : (becomeReady sh n s).rings = s.rings := (becomeReady_only s sh n).rings (by decide)
@[simp] theorem becomeReady_cbs (s : State) (sh n : Nat) : (becomeReady sh n s).cbs = s.cbs := (becomeReady_only s sh n).cbs (by decide)
@[simp] theorem becomeReady_dmas (s : State) (sh n : Nat) : (becomeReady sh n s).dmas = s.dmas := (becomeReady_only s sh n).dmas (by decide)
@[simp] theorem becomeReady_dlm (s : State) (sh n : Nat) : (becomeReady sh n s).dlm = s.dlm := (becomeReady_only s sh n).dlm (by decide)
@[simp] theorem becomeReady_sync (s : State) (sh n : Nat) : (becomeReady sh n s).sync = s.sync := (becomeReady_only s sh n).sync (by decide)
@[simp] theorem becomeReady_queues (s : State) (sh n : Nat) : (becomeReady sh n s).queues = s.queues := (becomeReady_only s sh n).queues (by decide)
@[simp] theorem becomeReady_msgs (s : State) (sh n : Nat) : (becomeReady sh n s).msgs = s.msgs := (becomeReady_only s sh n).msgs (by decide)
@[simp] theorem becomeReady_fab (s : State) (sh n : Nat) : (becomeReady sh n s).fab = s.fab := (becomeReady_only s sh n).fab (by decide)
@[simp] theorem becomeReady_refuse (s : State) (sh n : Nat) : (becomeReady sh n s).refuse = s.refuse := (becomeReady_only s sh n).refuse (by decide)
@[simp] theorem becomeReady_nextId (s : State) (sh n : Nat) : (becomeReady sh n s).nextId = s.nextId := (becomeReady_only s sh n).nextId (by decide)
@[simp] theorem becomeReady_lanes (s : State) (sh n : Nat) : (becomeReady sh n s).lanes = s.lanes := (becomeReady_only s sh n).lanes (by decide)

/-! ## cancelDrop -/

theorem cancelDrop_only (s : State) (sh : Nat) : Only [.regs, .cyc] s (cancelDrop sh s) :=
    ⟨fun _ => rfl, fun _ => rfl, fun _ => rfl, fun _ => rfl, fun _ => rfl, fun _ => rfl, fun _ => rfl, fun h => absurd (by decide) h, fun _ => rfl, fun _ => rfl, fun _ => rfl, fun _ => rfl, fun _ => rfl, fun _ => rfl, fun _ => rfl, fun _ => rfl, fun _ => rfl, fun _ => rfl, fun _ => rfl, fun _ => rfl, fun _ => rfl, fun _ => rfl, fun _ => rfl, fun _ => rfl, fun _ => rfl, fun _ => rfl, fun _ => rfl, fun _ => rfl, fun _ => rfl, fun _ => rfl, fun _ => rfl, fun _ => rfl, fun _ => rfl, fun _ => rfl, fun h => absurd (by decide) h, fun _ => rfl, fun _ => rfl⟩

/-! ## forgetKept -/

theorem forgetKept_only (s : State) (handle : Nat) : Only [.hub] s (forgetKept handle s) :=
    ⟨fun _ => rfl, fun _ => rfl, fun _ => rfl, fun _ => rfl, fun _ => rfl, fun _ => rfl, fun _ => rfl, fun _ => rfl, fun _ => rfl, fun _ => rfl, fun _ => rfl, fun _ => rfl, fun _ => rfl, fun _ => rfl, fun _ => rfl, fun _ => rfl, fun h => absurd (by decide) h, fun _ => rfl, fun _ => rfl, fun _ => rfl, fun _ => rfl, fun _ => rfl, fun _ => rfl, fun _ => rfl, fun _ => rfl, fun _ => rfl, fun _ => rfl, fun _ => rfl, fun _ => rfl, fun _ => rfl, fun _ => rfl, fun _ => rfl, fun _ => rfl, fun _ => rfl, fun _ => rfl, fun _ => rfl, fun _ => rfl⟩

@[simp] theorem forgetKept_pending (s : State) (handle : Nat) : (forgetKept handle s).pending = s.pending := (forgetKept_only s handle).pending (by decide)
@[simp] theorem forgetKept_variant (s : State) (handle : Nat) : (forgetKept handle s).variant = s.variant := (forgetKept_only s handle).variant (by decide)
@[simp] theorem forgetKept_hc (s : State) (handle : Nat) : (forgetKept handle s).hc = s.hc := (forgetKept_only s handle).hc (by decide)
@[simp] theorem forgetKept_tb (s : State) (handle : Nat) : (forgetKept handle s).tb = s.tb := (forgetKept_only s handle).tb (by decide)
@[simp] theorem forgetKept_tbPhase (s : State) (handle : Nat) : (forgetKept handle s).tbPhase = s.tbPhase := (forgetKept_only s handle).tbPhase (by decide)
@[simp] theorem forgetKept_fmhz (s : State) (handle : Nat) : (forgetKept handle s).fmhz = s.fmhz := (forgetKept_only s handle).fmhz (by decide)
@[simp] theorem forgetKept_free (s : State) (handle : Nat) : (forgetKept handle s).free = s.free := (forgetKept_only s handle).free (by decide)
@[simp] theorem forgetKept_regs (s : State) (handle : Nat) : (forgetKept handle s).regs = s.regs := (forgetKept_only s handle).regs (by decide)
@[simp] theorem forgetKept_selHost (s : State) (handle : Nat) : (forgetKept handle s).selHost = s.selHost := (forgetKept_only s handle).selHost (by decide)
@[simp] theorem forgetKept_selMgmt (s : State) (handle : Nat) : (forgetKept handle s).selMgmt = s.selMgmt := (forgetKept_only s handle).selMgmt (by decide)
@[simp] theorem forgetKept_glb (s : State) (handle : Nat) : (forgetKept handle s).glb = s.glb := (forgetKept_only s handle).glb (by decide)
@[simp] theorem forgetKept_en (s : State) (handle : Nat) : (forgetKept handle s).en = s.en := (forgetKept_only s handle).en (by decide)
@[simp] theorem forgetKept_ctxs (s : State) (handle : Nat) : (forgetKept handle s).ctxs = s.ctxs := (forgetKept_only s handle).ctxs (by decide)
@[simp] theorem forgetKept_templates (s : State) (handle : Nat) : (forgetKept handle s).templates = s.templates := (forgetKept_only s handle).templates (by decide)
@[simp] theorem forgetKept_launches (s : State) (handle : Nat) : (forgetKept handle s).launches = s.launches := (forgetKept_only s handle).launches (by decide)
@[simp] theorem forgetKept_heldLaunches (s : State) (handle : Nat) : (forgetKept handle s).heldLaunches = s.heldLaunches := (forgetKept_only s handle).heldLaunches (by decide)
@[simp] theorem forgetKept_disp (s : State) (handle : Nat) : (forgetKept handle s).disp = s.disp := (forgetKept_only s handle).disp (by decide)
@[simp] theorem forgetKept_fold (s : State) (handle : Nat) : (forgetKept handle s).fold = s.fold := (forgetKept_only s handle).fold (by decide)
@[simp] theorem forgetKept_rings (s : State) (handle : Nat) : (forgetKept handle s).rings = s.rings := (forgetKept_only s handle).rings (by decide)
@[simp] theorem forgetKept_cbs (s : State) (handle : Nat) : (forgetKept handle s).cbs = s.cbs := (forgetKept_only s handle).cbs (by decide)
@[simp] theorem forgetKept_dmas (s : State) (handle : Nat) : (forgetKept handle s).dmas = s.dmas := (forgetKept_only s handle).dmas (by decide)
@[simp] theorem forgetKept_dlm (s : State) (handle : Nat) : (forgetKept handle s).dlm = s.dlm := (forgetKept_only s handle).dlm (by decide)
@[simp] theorem forgetKept_ckpts (s : State) (handle : Nat) : (forgetKept handle s).ckpts = s.ckpts := (forgetKept_only s handle).ckpts (by decide)
@[simp] theorem forgetKept_sync (s : State) (handle : Nat) : (forgetKept handle s).sync = s.sync := (forgetKept_only s handle).sync (by decide)
@[simp] theorem forgetKept_queues (s : State) (handle : Nat) : (forgetKept handle s).queues = s.queues := (forgetKept_only s handle).queues (by decide)
@[simp] theorem forgetKept_msgs (s : State) (handle : Nat) : (forgetKept handle s).msgs = s.msgs := (forgetKept_only s handle).msgs (by decide)
@[simp] theorem forgetKept_fab (s : State) (handle : Nat) : (forgetKept handle s).fab = s.fab := (forgetKept_only s handle).fab (by decide)
@[simp] theorem forgetKept_obs (s : State) (handle : Nat) : (forgetKept handle s).obs = s.obs := (forgetKept_only s handle).obs (by decide)
@[simp] theorem forgetKept_mem (s : State) (handle : Nat) : (forgetKept handle s).mem = s.mem := (forgetKept_only s handle).mem (by decide)
@[simp] theorem forgetKept_poison (s : State) (handle : Nat) : (forgetKept handle s).poison = s.poison := (forgetKept_only s handle).poison (by decide)
@[simp] theorem forgetKept_refuse (s : State) (handle : Nat) : (forgetKept handle s).refuse = s.refuse := (forgetKept_only s handle).refuse (by decide)
@[simp] theorem forgetKept_nextId (s : State) (handle : Nat) : (forgetKept handle s).nextId = s.nextId := (forgetKept_only s handle).nextId (by decide)
@[simp] theorem forgetKept_lanes (s : State) (handle : Nat) : (forgetKept handle s).lanes = s.lanes := (forgetKept_only s handle).lanes (by decide)
@[simp] theorem forgetKept_cyc (s : State) (handle : Nat) : (forgetKept handle s).cyc = s.cyc := (forgetKept_only s handle).cyc (by decide)
@[simp] theorem forgetKept_reqs (s : State) (handle : Nat) : (forgetKept handle s).reqs = s.reqs := (forgetKept_only s handle).reqs (by decide)
@[simp] theorem forgetKept_out (s : State) (handle : Nat) : (forgetKept handle s).out = s.out := (forgetKept_only s handle).out (by decide)

/-! ## settleWholeRec -/

theorem settleWholeRec_only (s : State) (r : SprRec) : Only [.hub, .launches, .mem, .poison, .obs, .reqs, .regs, .out, .glb, .cyc] s (settleWholeRec r s) := by
  have h : ∀ x : Hub, Only [.hub, .launches, .mem, .poison, .obs, .reqs, .regs, .out, .glb, .cyc] s { s with hub := x } := fun x =>
    ⟨fun _ => rfl, fun _ => rfl, fun _ => rfl, fun _ => rfl, fun _ => rfl, fun _ => rfl, fun _ => rfl, fun h => absurd (by decide) h, fun _ => rfl, fun _ => rfl, fun h => absurd (by decide) h, fun _ => rfl, fun _ => rfl, fun _ => rfl, fun h => absurd (by decide) h, fun _ => rfl, fun h => absurd (by decide) h, fun _ => rfl, fun _ => rfl, fun _ => rfl, fun _ => rfl, fun _ => rfl, fun _ => rfl, fun _ => rfl, fun _ => rfl, fun _ => rfl, fun _ => rfl, fun _ => rfl, fun h => absurd (by decide) h, fun h => absurd (by decide) h, fun h => absurd (by decide) h, fun _ => rfl, fun _ => rfl, fun _ => rfl, fun h => absurd (by decide) h, fun h => absurd (by decide) h, fun h => absurd (by decide) h⟩
  unfold settleWholeRec; split
  · exact (subOut_only s _ _ _).mono
  · exact (h _).trans (subOut_only _ _ _ _).mono

@[simp] theorem settleWholeRec_pending (s : State) (r : SprRec) : (settleWholeRec r s).pending = s.pending := (settleWholeRec_only s r).pending (by decide)
@[simp] theorem settleWholeRec_variant (s : State) (r : SprRec) : (settleWholeRec r s).variant = s.variant := (settleWholeRec_only s r).variant (by decide)
@[simp] theorem settleWholeRec_hc (s : State) (r : SprRec) : (settleWholeRec r s).hc = s.hc := (settleWholeRec_only s r).hc (by decide)
@[simp] theorem settleWholeRec_tb (s : State) (r : SprRec) : (settleWholeRec r s).tb = s.tb := (settleWholeRec_only s r).tb (by decide)
@[simp] theorem settleWholeRec_tbPhase (s : State) (r : SprRec) : (settleWholeRec r s).tbPhase = s.tbPhase := (settleWholeRec_only s r).tbPhase (by decide)
@[simp] theorem settleWholeRec_fmhz (s : State) (r : SprRec) : (settleWholeRec r s).fmhz = s.fmhz := (settleWholeRec_only s r).fmhz (by decide)
@[simp] theorem settleWholeRec_free (s : State) (r : SprRec) : (settleWholeRec r s).free = s.free := (settleWholeRec_only s r).free (by decide)
@[simp] theorem settleWholeRec_selHost (s : State) (r : SprRec) : (settleWholeRec r s).selHost = s.selHost := (settleWholeRec_only s r).selHost (by decide)
@[simp] theorem settleWholeRec_selMgmt (s : State) (r : SprRec) : (settleWholeRec r s).selMgmt = s.selMgmt := (settleWholeRec_only s r).selMgmt (by decide)
@[simp] theorem settleWholeRec_en (s : State) (r : SprRec) : (settleWholeRec r s).en = s.en := (settleWholeRec_only s r).en (by decide)
@[simp] theorem settleWholeRec_ctxs (s : State) (r : SprRec) : (settleWholeRec r s).ctxs = s.ctxs := (settleWholeRec_only s r).ctxs (by decide)
@[simp] theorem settleWholeRec_templates (s : State) (r : SprRec) : (settleWholeRec r s).templates = s.templates := (settleWholeRec_only s r).templates (by decide)
@[simp] theorem settleWholeRec_heldLaunches (s : State) (r : SprRec) : (settleWholeRec r s).heldLaunches = s.heldLaunches := (settleWholeRec_only s r).heldLaunches (by decide)
@[simp] theorem settleWholeRec_disp (s : State) (r : SprRec) : (settleWholeRec r s).disp = s.disp := (settleWholeRec_only s r).disp (by decide)
@[simp] theorem settleWholeRec_fold (s : State) (r : SprRec) : (settleWholeRec r s).fold = s.fold := (settleWholeRec_only s r).fold (by decide)
@[simp] theorem settleWholeRec_rings (s : State) (r : SprRec) : (settleWholeRec r s).rings = s.rings := (settleWholeRec_only s r).rings (by decide)
@[simp] theorem settleWholeRec_cbs (s : State) (r : SprRec) : (settleWholeRec r s).cbs = s.cbs := (settleWholeRec_only s r).cbs (by decide)
@[simp] theorem settleWholeRec_dmas (s : State) (r : SprRec) : (settleWholeRec r s).dmas = s.dmas := (settleWholeRec_only s r).dmas (by decide)
@[simp] theorem settleWholeRec_dlm (s : State) (r : SprRec) : (settleWholeRec r s).dlm = s.dlm := (settleWholeRec_only s r).dlm (by decide)
@[simp] theorem settleWholeRec_ckpts (s : State) (r : SprRec) : (settleWholeRec r s).ckpts = s.ckpts := (settleWholeRec_only s r).ckpts (by decide)
@[simp] theorem settleWholeRec_sync (s : State) (r : SprRec) : (settleWholeRec r s).sync = s.sync := (settleWholeRec_only s r).sync (by decide)
@[simp] theorem settleWholeRec_queues (s : State) (r : SprRec) : (settleWholeRec r s).queues = s.queues := (settleWholeRec_only s r).queues (by decide)
@[simp] theorem settleWholeRec_msgs (s : State) (r : SprRec) : (settleWholeRec r s).msgs = s.msgs := (settleWholeRec_only s r).msgs (by decide)
@[simp] theorem settleWholeRec_fab (s : State) (r : SprRec) : (settleWholeRec r s).fab = s.fab := (settleWholeRec_only s r).fab (by decide)
@[simp] theorem settleWholeRec_refuse (s : State) (r : SprRec) : (settleWholeRec r s).refuse = s.refuse := (settleWholeRec_only s r).refuse (by decide)
@[simp] theorem settleWholeRec_nextId (s : State) (r : SprRec) : (settleWholeRec r s).nextId = s.nextId := (settleWholeRec_only s r).nextId (by decide)
@[simp] theorem settleWholeRec_lanes (s : State) (r : SprRec) : (settleWholeRec r s).lanes = s.lanes := (settleWholeRec_only s r).lanes (by decide)

/-! ## sproutDrop -/

theorem sproutDrop_only (s : State) (sh : Nat) (r : SprRec) : Only [.hub, .launches, .mem, .poison, .obs, .reqs, .regs, .out, .glb, .cyc] s (sproutDrop sh r s) :=
    (cancelDrop_only s sh).mono.trans (settleWholeRec_only _ r)

@[simp] theorem sproutDrop_pending (s : State) (sh : Nat) (r : SprRec) : (sproutDrop sh r s).pending = s.pending := (sproutDrop_only s sh r).pending (by decide)
@[simp] theorem sproutDrop_variant (s : State) (sh : Nat) (r : SprRec) : (sproutDrop sh r s).variant = s.variant := (sproutDrop_only s sh r).variant (by decide)
@[simp] theorem sproutDrop_hc (s : State) (sh : Nat) (r : SprRec) : (sproutDrop sh r s).hc = s.hc := (sproutDrop_only s sh r).hc (by decide)
@[simp] theorem sproutDrop_tb (s : State) (sh : Nat) (r : SprRec) : (sproutDrop sh r s).tb = s.tb := (sproutDrop_only s sh r).tb (by decide)
@[simp] theorem sproutDrop_tbPhase (s : State) (sh : Nat) (r : SprRec) : (sproutDrop sh r s).tbPhase = s.tbPhase := (sproutDrop_only s sh r).tbPhase (by decide)
@[simp] theorem sproutDrop_fmhz (s : State) (sh : Nat) (r : SprRec) : (sproutDrop sh r s).fmhz = s.fmhz := (sproutDrop_only s sh r).fmhz (by decide)
@[simp] theorem sproutDrop_free (s : State) (sh : Nat) (r : SprRec) : (sproutDrop sh r s).free = s.free := (sproutDrop_only s sh r).free (by decide)
@[simp] theorem sproutDrop_selHost (s : State) (sh : Nat) (r : SprRec) : (sproutDrop sh r s).selHost = s.selHost := (sproutDrop_only s sh r).selHost (by decide)
@[simp] theorem sproutDrop_selMgmt (s : State) (sh : Nat) (r : SprRec) : (sproutDrop sh r s).selMgmt = s.selMgmt := (sproutDrop_only s sh r).selMgmt (by decide)
@[simp] theorem sproutDrop_en (s : State) (sh : Nat) (r : SprRec) : (sproutDrop sh r s).en = s.en := (sproutDrop_only s sh r).en (by decide)
@[simp] theorem sproutDrop_ctxs (s : State) (sh : Nat) (r : SprRec) : (sproutDrop sh r s).ctxs = s.ctxs := (sproutDrop_only s sh r).ctxs (by decide)
@[simp] theorem sproutDrop_templates (s : State) (sh : Nat) (r : SprRec) : (sproutDrop sh r s).templates = s.templates := (sproutDrop_only s sh r).templates (by decide)
@[simp] theorem sproutDrop_heldLaunches (s : State) (sh : Nat) (r : SprRec) : (sproutDrop sh r s).heldLaunches = s.heldLaunches := (sproutDrop_only s sh r).heldLaunches (by decide)
@[simp] theorem sproutDrop_disp (s : State) (sh : Nat) (r : SprRec) : (sproutDrop sh r s).disp = s.disp := (sproutDrop_only s sh r).disp (by decide)
@[simp] theorem sproutDrop_fold (s : State) (sh : Nat) (r : SprRec) : (sproutDrop sh r s).fold = s.fold := (sproutDrop_only s sh r).fold (by decide)
@[simp] theorem sproutDrop_rings (s : State) (sh : Nat) (r : SprRec) : (sproutDrop sh r s).rings = s.rings := (sproutDrop_only s sh r).rings (by decide)
@[simp] theorem sproutDrop_cbs (s : State) (sh : Nat) (r : SprRec) : (sproutDrop sh r s).cbs = s.cbs := (sproutDrop_only s sh r).cbs (by decide)
@[simp] theorem sproutDrop_dmas (s : State) (sh : Nat) (r : SprRec) : (sproutDrop sh r s).dmas = s.dmas := (sproutDrop_only s sh r).dmas (by decide)
@[simp] theorem sproutDrop_dlm (s : State) (sh : Nat) (r : SprRec) : (sproutDrop sh r s).dlm = s.dlm := (sproutDrop_only s sh r).dlm (by decide)
@[simp] theorem sproutDrop_ckpts (s : State) (sh : Nat) (r : SprRec) : (sproutDrop sh r s).ckpts = s.ckpts := (sproutDrop_only s sh r).ckpts (by decide)
@[simp] theorem sproutDrop_sync (s : State) (sh : Nat) (r : SprRec) : (sproutDrop sh r s).sync = s.sync := (sproutDrop_only s sh r).sync (by decide)
@[simp] theorem sproutDrop_queues (s : State) (sh : Nat) (r : SprRec) : (sproutDrop sh r s).queues = s.queues := (sproutDrop_only s sh r).queues (by decide)
@[simp] theorem sproutDrop_msgs (s : State) (sh : Nat) (r : SprRec) : (sproutDrop sh r s).msgs = s.msgs := (sproutDrop_only s sh r).msgs (by decide)
@[simp] theorem sproutDrop_fab (s : State) (sh : Nat) (r : SprRec) : (sproutDrop sh r s).fab = s.fab := (sproutDrop_only s sh r).fab (by decide)
@[simp] theorem sproutDrop_refuse (s : State) (sh : Nat) (r : SprRec) : (sproutDrop sh r s).refuse = s.refuse := (sproutDrop_only s sh r).refuse (by decide)
@[simp] theorem sproutDrop_nextId (s : State) (sh : Nat) (r : SprRec) : (sproutDrop sh r s).nextId = s.nextId := (sproutDrop_only s sh r).nextId (by decide)
@[simp] theorem sproutDrop_lanes (s : State) (sh : Nat) (r : SprRec) : (sproutDrop sh r s).lanes = s.lanes := (sproutDrop_only s sh r).lanes (by decide)

/-! ## dropKept -/

theorem dropKept_only (s : State) (sh handle : Nat) : Only [.hub, .launches, .mem, .poison, .obs, .reqs, .regs, .out, .glb, .cyc] s (dropKept sh handle s) :=
    (forgetKept_only s handle).mono.trans (Only.foldl _ (fun t (q : Nat × SprRec) => sproutDrop_only t sh q.2) _ _)

@[simp] theorem dropKept_pending (s : State) (sh handle : Nat) : (dropKept sh handle s).pending = s.pending := (dropKept_only s sh handle).pending (by decide)
@[simp] theorem dropKept_variant (s : State) (sh handle : Nat) : (dropKept sh handle s).variant = s.variant := (dropKept_only s sh handle).variant (by decide)
@[simp] theorem dropKept_hc (s : State) (sh handle : Nat) : (dropKept sh handle s).hc = s.hc := (dropKept_only s sh handle).hc (by decide)
@[simp] theorem dropKept_tb (s : State) (sh handle : Nat) : (dropKept sh handle s).tb = s.tb := (dropKept_only s sh handle).tb (by decide)
@[simp] theorem dropKept_tbPhase (s : State) (sh handle : Nat) : (dropKept sh handle s).tbPhase = s.tbPhase := (dropKept_only s sh handle).tbPhase (by decide)
@[simp] theorem dropKept_fmhz (s : State) (sh handle : Nat) : (dropKept sh handle s).fmhz = s.fmhz := (dropKept_only s sh handle).fmhz (by decide)
@[simp] theorem dropKept_free (s : State) (sh handle : Nat) : (dropKept sh handle s).free = s.free := (dropKept_only s sh handle).free (by decide)
@[simp] theorem dropKept_selHost (s : State) (sh handle : Nat) : (dropKept sh handle s).selHost = s.selHost := (dropKept_only s sh handle).selHost (by decide)
@[simp] theorem dropKept_selMgmt (s : State) (sh handle : Nat) : (dropKept sh handle s).selMgmt = s.selMgmt := (dropKept_only s sh handle).selMgmt (by decide)
@[simp] theorem dropKept_en (s : State) (sh handle : Nat) : (dropKept sh handle s).en = s.en := (dropKept_only s sh handle).en (by decide)
@[simp] theorem dropKept_ctxs (s : State) (sh handle : Nat) : (dropKept sh handle s).ctxs = s.ctxs := (dropKept_only s sh handle).ctxs (by decide)
@[simp] theorem dropKept_templates (s : State) (sh handle : Nat) : (dropKept sh handle s).templates = s.templates := (dropKept_only s sh handle).templates (by decide)
@[simp] theorem dropKept_heldLaunches (s : State) (sh handle : Nat) : (dropKept sh handle s).heldLaunches = s.heldLaunches := (dropKept_only s sh handle).heldLaunches (by decide)
@[simp] theorem dropKept_disp (s : State) (sh handle : Nat) : (dropKept sh handle s).disp = s.disp := (dropKept_only s sh handle).disp (by decide)
@[simp] theorem dropKept_fold (s : State) (sh handle : Nat) : (dropKept sh handle s).fold = s.fold := (dropKept_only s sh handle).fold (by decide)
@[simp] theorem dropKept_rings (s : State) (sh handle : Nat) : (dropKept sh handle s).rings = s.rings := (dropKept_only s sh handle).rings (by decide)
@[simp] theorem dropKept_cbs (s : State) (sh handle : Nat) : (dropKept sh handle s).cbs = s.cbs := (dropKept_only s sh handle).cbs (by decide)
@[simp] theorem dropKept_dmas (s : State) (sh handle : Nat) : (dropKept sh handle s).dmas = s.dmas := (dropKept_only s sh handle).dmas (by decide)
@[simp] theorem dropKept_dlm (s : State) (sh handle : Nat) : (dropKept sh handle s).dlm = s.dlm := (dropKept_only s sh handle).dlm (by decide)
@[simp] theorem dropKept_ckpts (s : State) (sh handle : Nat) : (dropKept sh handle s).ckpts = s.ckpts := (dropKept_only s sh handle).ckpts (by decide)
@[simp] theorem dropKept_sync (s : State) (sh handle : Nat) : (dropKept sh handle s).sync = s.sync := (dropKept_only s sh handle).sync (by decide)
@[simp] theorem dropKept_queues (s : State) (sh handle : Nat) : (dropKept sh handle s).queues = s.queues := (dropKept_only s sh handle).queues (by decide)
@[simp] theorem dropKept_msgs (s : State) (sh handle : Nat) : (dropKept sh handle s).msgs = s.msgs := (dropKept_only s sh handle).msgs (by decide)
@[simp] theorem dropKept_fab (s : State) (sh handle : Nat) : (dropKept sh handle s).fab = s.fab := (dropKept_only s sh handle).fab (by decide)
@[simp] theorem dropKept_refuse (s : State) (sh handle : Nat) : (dropKept sh handle s).refuse = s.refuse := (dropKept_only s sh handle).refuse (by decide)
@[simp] theorem dropKept_nextId (s : State) (sh handle : Nat) : (dropKept sh handle s).nextId = s.nextId := (dropKept_only s sh handle).nextId (by decide)
@[simp] theorem dropKept_lanes (s : State) (sh handle : Nat) : (dropKept sh handle s).lanes = s.lanes := (dropKept_only s sh handle).lanes (by decide)

/-! ## removeReady -/

theorem removeReady_only (s : State) (sh n : Nat) : Only [.hub] s (removeReady sh n s) :=
    ⟨fun _ => rfl, fun _ => rfl, fun _ => rfl, fun _ => rfl, fun _ => rfl, fun _ => rfl, fun _ => rfl, fun _ => rfl, fun _ => rfl, fun _ => rfl, fun _ => rfl, fun _ => rfl, fun _ => rfl, fun _ => rfl, fun _ => rfl, fun _ => rfl, fun h => absurd (by decide) h, fun _ => rfl, fun _ => rfl, fun _ => rfl, fun _ => rfl, fun _ => rfl, fun _ => rfl, fun _ => rfl, fun _ => rfl, fun _ => rfl, fun _ => rfl, fun _ => rfl, fun _ => rfl, fun _ => rfl, fun _ => rfl, fun _ => rfl, fun _ => rfl, fun _ => rfl, fun _ => rfl, fun _ => rfl, fun _ => rfl⟩

/-! ## endStages -/

theorem endStages_only (s : State) (sh n gen : Nat) : Only [.disp] s (endStages sh n gen s) :=
    ⟨fun _ => rfl, fun _ => rfl, fun _ => rfl, fun _ => rfl, fun _ => rfl, fun _ => rfl, fun _ => rfl, fun _ => rfl, fun _ => rfl, fun _ => rfl, fun _ => rfl, fun _ => rfl, fun _ => rfl, fun _ => rfl, fun _ => rfl, fun _ => rfl, fun _ => rfl, fun h => absurd (by decide) h, fun _ => rfl, fun _ => rfl, fun _ => rfl, fun _ => rfl, fun _ => rfl, fun _ => rfl, fun _ => rfl, fun _ => rfl, fun _ => rfl, fun _ => rfl, fun _ => rfl, fun _ => rfl, fun _ => rfl, fun _ => rfl, fun _ => rfl, fun _ => rfl, fun _ => rfl, fun _ => rfl, fun _ => rfl⟩

/-! ## dropSteep -/

theorem dropSteep_only (s : State) (sh n gen : Nat) : Only [.disp] s (dropSteep sh n gen s) :=
    ⟨fun _ => rfl, fun _ => rfl, fun _ => rfl, fun _ => rfl, fun _ => rfl, fun _ => rfl, fun _ => rfl, fun _ => rfl, fun _ => rfl, fun _ => rfl, fun _ => rfl, fun _ => rfl, fun _ => rfl, fun _ => rfl, fun _ => rfl, fun _ => rfl, fun _ => rfl, fun h => absurd (by decide) h, fun _ => rfl, fun _ => rfl, fun _ => rfl, fun _ => rfl, fun _ => rfl, fun _ => rfl, fun _ => rfl, fun _ => rfl, fun _ => rfl, fun _ => rfl, fun _ => rfl, fun _ => rfl, fun _ => rfl, fun _ => rfl, fun _ => rfl, fun _ => rfl, fun _ => rfl, fun _ => rfl, fun _ => rfl⟩

/-! ## freeSlot -/

theorem freeSlot_only (s : State) (sh n : Nat) : Only [.hub] s (freeSlot sh n s) :=
    State.setSlot_only s _ _ _

/-! ## freeCancelled -/

theorem freeCancelled_only (s : State) (sh n : Nat) : Only [.hub, .disp, .launches, .mem, .poison, .obs, .reqs, .regs, .out, .glb, .cyc] s (freeCancelled sh n s) := by
  have h := ((removeReady_only s sh n).mono (m' := [.hub, .disp, .launches, .mem, .poison, .obs, .reqs, .regs, .out, .glb, .cyc])).trans ((endStages_only _ sh n (s.slot sh n).gen).mono.trans
    ((dropSteep_only _ sh n (s.slot sh n).gen).mono.trans
    ((dropKept_only _ sh (handleOf sh n (s.slot sh n).gen)).mono.trans ((freeSlot_only _ sh n).mono))))
  exact h.trans (subOut_only _ _ _ _).mono

@[simp] theorem freeCancelled_pending (s : State) (sh n : Nat) : (freeCancelled sh n s).pending = s.pending := (freeCancelled_only s sh n).pending (by decide)
@[simp] theorem freeCancelled_variant (s : State) (sh n : Nat) : (freeCancelled sh n s).variant = s.variant := (freeCancelled_only s sh n).variant (by decide)
@[simp] theorem freeCancelled_hc (s : State) (sh n : Nat) : (freeCancelled sh n s).hc = s.hc := (freeCancelled_only s sh n).hc (by decide)
@[simp] theorem freeCancelled_tb (s : State) (sh n : Nat) : (freeCancelled sh n s).tb = s.tb := (freeCancelled_only s sh n).tb (by decide)
@[simp] theorem freeCancelled_tbPhase (s : State) (sh n : Nat) : (freeCancelled sh n s).tbPhase = s.tbPhase := (freeCancelled_only s sh n).tbPhase (by decide)
@[simp] theorem freeCancelled_fmhz (s : State) (sh n : Nat) : (freeCancelled sh n s).fmhz = s.fmhz := (freeCancelled_only s sh n).fmhz (by decide)
@[simp] theorem freeCancelled_free (s : State) (sh n : Nat) : (freeCancelled sh n s).free = s.free := (freeCancelled_only s sh n).free (by decide)
@[simp] theorem freeCancelled_selHost (s : State) (sh n : Nat) : (freeCancelled sh n s).selHost = s.selHost := (freeCancelled_only s sh n).selHost (by decide)
@[simp] theorem freeCancelled_selMgmt (s : State) (sh n : Nat) : (freeCancelled sh n s).selMgmt = s.selMgmt := (freeCancelled_only s sh n).selMgmt (by decide)
@[simp] theorem freeCancelled_en (s : State) (sh n : Nat) : (freeCancelled sh n s).en = s.en := (freeCancelled_only s sh n).en (by decide)
@[simp] theorem freeCancelled_ctxs (s : State) (sh n : Nat) : (freeCancelled sh n s).ctxs = s.ctxs := (freeCancelled_only s sh n).ctxs (by decide)
@[simp] theorem freeCancelled_templates (s : State) (sh n : Nat) : (freeCancelled sh n s).templates = s.templates := (freeCancelled_only s sh n).templates (by decide)
@[simp] theorem freeCancelled_heldLaunches (s : State) (sh n : Nat) : (freeCancelled sh n s).heldLaunches = s.heldLaunches := (freeCancelled_only s sh n).heldLaunches (by decide)
@[simp] theorem freeCancelled_fold (s : State) (sh n : Nat) : (freeCancelled sh n s).fold = s.fold := (freeCancelled_only s sh n).fold (by decide)
@[simp] theorem freeCancelled_rings (s : State) (sh n : Nat) : (freeCancelled sh n s).rings = s.rings := (freeCancelled_only s sh n).rings (by decide)
@[simp] theorem freeCancelled_cbs (s : State) (sh n : Nat) : (freeCancelled sh n s).cbs = s.cbs := (freeCancelled_only s sh n).cbs (by decide)
@[simp] theorem freeCancelled_dmas (s : State) (sh n : Nat) : (freeCancelled sh n s).dmas = s.dmas := (freeCancelled_only s sh n).dmas (by decide)
@[simp] theorem freeCancelled_dlm (s : State) (sh n : Nat) : (freeCancelled sh n s).dlm = s.dlm := (freeCancelled_only s sh n).dlm (by decide)
@[simp] theorem freeCancelled_ckpts (s : State) (sh n : Nat) : (freeCancelled sh n s).ckpts = s.ckpts := (freeCancelled_only s sh n).ckpts (by decide)
@[simp] theorem freeCancelled_sync (s : State) (sh n : Nat) : (freeCancelled sh n s).sync = s.sync := (freeCancelled_only s sh n).sync (by decide)
@[simp] theorem freeCancelled_queues (s : State) (sh n : Nat) : (freeCancelled sh n s).queues = s.queues := (freeCancelled_only s sh n).queues (by decide)
@[simp] theorem freeCancelled_msgs (s : State) (sh n : Nat) : (freeCancelled sh n s).msgs = s.msgs := (freeCancelled_only s sh n).msgs (by decide)
@[simp] theorem freeCancelled_fab (s : State) (sh n : Nat) : (freeCancelled sh n s).fab = s.fab := (freeCancelled_only s sh n).fab (by decide)
@[simp] theorem freeCancelled_refuse (s : State) (sh n : Nat) : (freeCancelled sh n s).refuse = s.refuse := (freeCancelled_only s sh n).refuse (by decide)
@[simp] theorem freeCancelled_nextId (s : State) (sh n : Nat) : (freeCancelled sh n s).nextId = s.nextId := (freeCancelled_only s sh n).nextId (by decide)
@[simp] theorem freeCancelled_lanes (s : State) (sh n : Nat) : (freeCancelled sh n s).lanes = s.lanes := (freeCancelled_only s sh n).lanes (by decide)

/-! ## settleRec -/

theorem settleRec_only (s : State) (rid ctx serial : Nat) : Only [.hub, .launches, .mem, .poison, .obs, .reqs, .regs, .out, .glb, .cyc] s (settleRec rid ctx serial s) := by
  have h : ∀ x : Hub, Only [.hub, .launches, .mem, .poison, .obs, .reqs, .regs, .out, .glb, .cyc] s { s with hub := x } := fun x =>
    ⟨fun _ => rfl, fun _ => rfl, fun _ => rfl, fun _ => rfl, fun _ => rfl, fun _ => rfl, fun _ => rfl, fun h => absurd (by decide) h, fun _ => rfl, fun _ => rfl, fun h => absurd (by decide) h, fun _ => rfl, fun _ => rfl, fun _ => rfl, fun h => absurd (by decide) h, fun _ => rfl, fun h => absurd (by decide) h, fun _ => rfl, fun _ => rfl, fun _ => rfl, fun _ => rfl, fun _ => rfl, fun _ => rfl, fun _ => rfl, fun _ => rfl, fun _ => rfl, fun _ => rfl, fun _ => rfl, fun h => absurd (by decide) h, fun h => absurd (by decide) h, fun h => absurd (by decide) h, fun _ => rfl, fun _ => rfl, fun _ => rfl, fun h => absurd (by decide) h, fun h => absurd (by decide) h, fun h => absurd (by decide) h⟩
  unfold settleRec; dsimp only; split
  · exact (h _).trans (subOut_only _ _ _ _).mono
  · exact h _

@[simp] theorem settleRec_pending (s : State) (rid ctx serial : Nat) : (settleRec rid ctx serial s).pending = s.pending := (settleRec_only s rid ctx serial).pending (by decide)
@[simp] theorem settleRec_variant (s : State) (rid ctx serial : Nat) : (settleRec rid ctx serial s).variant = s.variant := (settleRec_only s rid ctx serial).variant (by decide)
@[simp] theorem settleRec_hc (s : State) (rid ctx serial : Nat) : (settleRec rid ctx serial s).hc = s.hc := (settleRec_only s rid ctx serial).hc (by decide)
@[simp] theorem settleRec_tb (s : State) (rid ctx serial : Nat) : (settleRec rid ctx serial s).tb = s.tb := (settleRec_only s rid ctx serial).tb (by decide)
@[simp] theorem settleRec_tbPhase (s : State) (rid ctx serial : Nat) : (settleRec rid ctx serial s).tbPhase = s.tbPhase := (settleRec_only s rid ctx serial).tbPhase (by decide)
@[simp] theorem settleRec_fmhz (s : State) (rid ctx serial : Nat) : (settleRec rid ctx serial s).fmhz = s.fmhz := (settleRec_only s rid ctx serial).fmhz (by decide)
@[simp] theorem settleRec_free (s : State) (rid ctx serial : Nat) : (settleRec rid ctx serial s).free = s.free := (settleRec_only s rid ctx serial).free (by decide)
@[simp] theorem settleRec_selHost (s : State) (rid ctx serial : Nat) : (settleRec rid ctx serial s).selHost = s.selHost := (settleRec_only s rid ctx serial).selHost (by decide)
@[simp] theorem settleRec_selMgmt (s : State) (rid ctx serial : Nat) : (settleRec rid ctx serial s).selMgmt = s.selMgmt := (settleRec_only s rid ctx serial).selMgmt (by decide)
@[simp] theorem settleRec_en (s : State) (rid ctx serial : Nat) : (settleRec rid ctx serial s).en = s.en := (settleRec_only s rid ctx serial).en (by decide)
@[simp] theorem settleRec_ctxs (s : State) (rid ctx serial : Nat) : (settleRec rid ctx serial s).ctxs = s.ctxs := (settleRec_only s rid ctx serial).ctxs (by decide)
@[simp] theorem settleRec_templates (s : State) (rid ctx serial : Nat) : (settleRec rid ctx serial s).templates = s.templates := (settleRec_only s rid ctx serial).templates (by decide)
@[simp] theorem settleRec_heldLaunches (s : State) (rid ctx serial : Nat) : (settleRec rid ctx serial s).heldLaunches = s.heldLaunches := (settleRec_only s rid ctx serial).heldLaunches (by decide)
@[simp] theorem settleRec_disp (s : State) (rid ctx serial : Nat) : (settleRec rid ctx serial s).disp = s.disp := (settleRec_only s rid ctx serial).disp (by decide)
@[simp] theorem settleRec_fold (s : State) (rid ctx serial : Nat) : (settleRec rid ctx serial s).fold = s.fold := (settleRec_only s rid ctx serial).fold (by decide)
@[simp] theorem settleRec_rings (s : State) (rid ctx serial : Nat) : (settleRec rid ctx serial s).rings = s.rings := (settleRec_only s rid ctx serial).rings (by decide)
@[simp] theorem settleRec_cbs (s : State) (rid ctx serial : Nat) : (settleRec rid ctx serial s).cbs = s.cbs := (settleRec_only s rid ctx serial).cbs (by decide)
@[simp] theorem settleRec_dmas (s : State) (rid ctx serial : Nat) : (settleRec rid ctx serial s).dmas = s.dmas := (settleRec_only s rid ctx serial).dmas (by decide)
@[simp] theorem settleRec_dlm (s : State) (rid ctx serial : Nat) : (settleRec rid ctx serial s).dlm = s.dlm := (settleRec_only s rid ctx serial).dlm (by decide)
@[simp] theorem settleRec_ckpts (s : State) (rid ctx serial : Nat) : (settleRec rid ctx serial s).ckpts = s.ckpts := (settleRec_only s rid ctx serial).ckpts (by decide)
@[simp] theorem settleRec_sync (s : State) (rid ctx serial : Nat) : (settleRec rid ctx serial s).sync = s.sync := (settleRec_only s rid ctx serial).sync (by decide)
@[simp] theorem settleRec_queues (s : State) (rid ctx serial : Nat) : (settleRec rid ctx serial s).queues = s.queues := (settleRec_only s rid ctx serial).queues (by decide)
@[simp] theorem settleRec_msgs (s : State) (rid ctx serial : Nat) : (settleRec rid ctx serial s).msgs = s.msgs := (settleRec_only s rid ctx serial).msgs (by decide)
@[simp] theorem settleRec_fab (s : State) (rid ctx serial : Nat) : (settleRec rid ctx serial s).fab = s.fab := (settleRec_only s rid ctx serial).fab (by decide)
@[simp] theorem settleRec_refuse (s : State) (rid ctx serial : Nat) : (settleRec rid ctx serial s).refuse = s.refuse := (settleRec_only s rid ctx serial).refuse (by decide)
@[simp] theorem settleRec_nextId (s : State) (rid ctx serial : Nat) : (settleRec rid ctx serial s).nextId = s.nextId := (settleRec_only s rid ctx serial).nextId (by decide)
@[simp] theorem settleRec_lanes (s : State) (rid ctx serial : Nat) : (settleRec rid ctx serial s).lanes = s.lanes := (settleRec_only s rid ctx serial).lanes (by decide)

/-! ## settleArr -/

theorem settleArr_only (s : State) (a : Arrival) : Only [.hub, .launches, .mem, .poison, .obs, .reqs, .regs, .out, .glb, .cyc] s (settleArr a s) := by
  unfold settleArr; split
  · exact settleRec_only s _ _ _
  · exact (subOut_only s _ _ _).mono

@[simp] theorem settleArr_pending (s : State) (a : Arrival) : (settleArr a s).pending = s.pending := (settleArr_only s a).pending (by decide)
@[simp] theorem settleArr_variant (s : State) (a : Arrival) : (settleArr a s).variant = s.variant := (settleArr_only s a).variant (by decide)
@[simp] theorem settleArr_hc (s : State) (a : Arrival) : (settleArr a s).hc = s.hc := (settleArr_only s a).hc (by decide)
@[simp] theorem settleArr_tb (s : State) (a : Arrival) : (settleArr a s).tb = s.tb := (settleArr_only s a).tb (by decide)
@[simp] theorem settleArr_tbPhase (s : State) (a : Arrival) : (settleArr a s).tbPhase = s.tbPhase := (settleArr_only s a).tbPhase (by decide)
@[simp] theorem settleArr_fmhz (s : State) (a : Arrival) : (settleArr a s).fmhz = s.fmhz := (settleArr_only s a).fmhz (by decide)
@[simp] theorem settleArr_free (s : State) (a : Arrival) : (settleArr a s).free = s.free := (settleArr_only s a).free (by decide)
@[simp] theorem settleArr_selHost (s : State) (a : Arrival) : (settleArr a s).selHost = s.selHost := (settleArr_only s a).selHost (by decide)
@[simp] theorem settleArr_selMgmt (s : State) (a : Arrival) : (settleArr a s).selMgmt = s.selMgmt := (settleArr_only s a).selMgmt (by decide)
@[simp] theorem settleArr_en (s : State) (a : Arrival) : (settleArr a s).en = s.en := (settleArr_only s a).en (by decide)
@[simp] theorem settleArr_ctxs (s : State) (a : Arrival) : (settleArr a s).ctxs = s.ctxs := (settleArr_only s a).ctxs (by decide)
@[simp] theorem settleArr_templates (s : State) (a : Arrival) : (settleArr a s).templates = s.templates := (settleArr_only s a).templates (by decide)
@[simp] theorem settleArr_heldLaunches (s : State) (a : Arrival) : (settleArr a s).heldLaunches = s.heldLaunches := (settleArr_only s a).heldLaunches (by decide)
@[simp] theorem settleArr_disp (s : State) (a : Arrival) : (settleArr a s).disp = s.disp := (settleArr_only s a).disp (by decide)
@[simp] theorem settleArr_fold (s : State) (a : Arrival) : (settleArr a s).fold = s.fold := (settleArr_only s a).fold (by decide)
@[simp] theorem settleArr_rings (s : State) (a : Arrival) : (settleArr a s).rings = s.rings := (settleArr_only s a).rings (by decide)
@[simp] theorem settleArr_cbs (s : State) (a : Arrival) : (settleArr a s).cbs = s.cbs := (settleArr_only s a).cbs (by decide)
@[simp] theorem settleArr_dmas (s : State) (a : Arrival) : (settleArr a s).dmas = s.dmas := (settleArr_only s a).dmas (by decide)
@[simp] theorem settleArr_dlm (s : State) (a : Arrival) : (settleArr a s).dlm = s.dlm := (settleArr_only s a).dlm (by decide)
@[simp] theorem settleArr_ckpts (s : State) (a : Arrival) : (settleArr a s).ckpts = s.ckpts := (settleArr_only s a).ckpts (by decide)
@[simp] theorem settleArr_sync (s : State) (a : Arrival) : (settleArr a s).sync = s.sync := (settleArr_only s a).sync (by decide)
@[simp] theorem settleArr_queues (s : State) (a : Arrival) : (settleArr a s).queues = s.queues := (settleArr_only s a).queues (by decide)
@[simp] theorem settleArr_msgs (s : State) (a : Arrival) : (settleArr a s).msgs = s.msgs := (settleArr_only s a).msgs (by decide)
@[simp] theorem settleArr_fab (s : State) (a : Arrival) : (settleArr a s).fab = s.fab := (settleArr_only s a).fab (by decide)
@[simp] theorem settleArr_refuse (s : State) (a : Arrival) : (settleArr a s).refuse = s.refuse := (settleArr_only s a).refuse (by decide)
@[simp] theorem settleArr_nextId (s : State) (a : Arrival) : (settleArr a s).nextId = s.nextId := (settleArr_only s a).nextId (by decide)
@[simp] theorem settleArr_lanes (s : State) (a : Arrival) : (settleArr a s).lanes = s.lanes := (settleArr_only s a).lanes (by decide)

/-! ## sendItem -/

theorem sendItem_only (s : State) (x : XItem) : Only [.hub, .obs] s (sendItem x s) := by
  have h : ∀ x : Hub, Only [.hub, .obs] s { s with hub := x } := fun x =>
    ⟨fun _ => rfl, fun _ => rfl, fun _ => rfl, fun _ => rfl, fun _ => rfl, fun _ => rfl, fun _ => rfl, fun _ => rfl, fun _ => rfl, fun _ => rfl, fun _ => rfl, fun _ => rfl, fun _ => rfl, fun _ => rfl, fun _ => rfl, fun _ => rfl, fun h => absurd (by decide) h, fun _ => rfl, fun _ => rfl, fun _ => rfl, fun _ => rfl, fun _ => rfl, fun _ => rfl, fun _ => rfl, fun _ => rfl, fun _ => rfl, fun _ => rfl, fun _ => rfl, fun h => absurd (by decide) h, fun _ => rfl, fun _ => rfl, fun _ => rfl, fun _ => rfl, fun _ => rfl, fun _ => rfl, fun _ => rfl, fun _ => rfl⟩
  exact (h _).trans (Only.ifThen _ (linkSent_only _ _ _).mono)

@[simp] theorem sendItem_pending (s : State) (x : XItem) : (sendItem x s).pending = s.pending := (sendItem_only s x).pending (by decide)
@[simp] theorem sendItem_variant (s : State) (x : XItem) : (sendItem x s).variant = s.variant := (sendItem_only s x).variant (by decide)
@[simp] theorem sendItem_hc (s : State) (x : XItem) : (sendItem x s).hc = s.hc := (sendItem_only s x).hc (by decide)
@[simp] theorem sendItem_tb (s : State) (x : XItem) : (sendItem x s).tb = s.tb := (sendItem_only s x).tb (by decide)
@[simp] theorem sendItem_tbPhase (s : State) (x : XItem) : (sendItem x s).tbPhase = s.tbPhase := (sendItem_only s x).tbPhase (by decide)
@[simp] theorem sendItem_fmhz (s : State) (x : XItem) : (sendItem x s).fmhz = s.fmhz := (sendItem_only s x).fmhz (by decide)
@[simp] theorem sendItem_free (s : State) (x : XItem) : (sendItem x s).free = s.free := (sendItem_only s x).free (by decide)
@[simp] theorem sendItem_regs (s : State) (x : XItem) : (sendItem x s).regs = s.regs := (sendItem_only s x).regs (by decide)
@[simp] theorem sendItem_selHost (s : State) (x : XItem) : (sendItem x s).selHost = s.selHost := (sendItem_only s x).selHost (by decide)
@[simp] theorem sendItem_selMgmt (s : State) (x : XItem) : (sendItem x s).selMgmt = s.selMgmt := (sendItem_only s x).selMgmt (by decide)
@[simp] theorem sendItem_glb (s : State) (x : XItem) : (sendItem x s).glb = s.glb := (sendItem_only s x).glb (by decide)
@[simp] theorem sendItem_en (s : State) (x : XItem) : (sendItem x s).en = s.en := (sendItem_only s x).en (by decide)
@[simp] theorem sendItem_ctxs (s : State) (x : XItem) : (sendItem x s).ctxs = s.ctxs := (sendItem_only s x).ctxs (by decide)
@[simp] theorem sendItem_templates (s : State) (x : XItem) : (sendItem x s).templates = s.templates := (sendItem_only s x).templates (by decide)
@[simp] theorem sendItem_launches (s : State) (x : XItem) : (sendItem x s).launches = s.launches := (sendItem_only s x).launches (by decide)
@[simp] theorem sendItem_heldLaunches (s : State) (x : XItem) : (sendItem x s).heldLaunches = s.heldLaunches := (sendItem_only s x).heldLaunches (by decide)
@[simp] theorem sendItem_disp (s : State) (x : XItem) : (sendItem x s).disp = s.disp := (sendItem_only s x).disp (by decide)
@[simp] theorem sendItem_fold (s : State) (x : XItem) : (sendItem x s).fold = s.fold := (sendItem_only s x).fold (by decide)
@[simp] theorem sendItem_rings (s : State) (x : XItem) : (sendItem x s).rings = s.rings := (sendItem_only s x).rings (by decide)
@[simp] theorem sendItem_cbs (s : State) (x : XItem) : (sendItem x s).cbs = s.cbs := (sendItem_only s x).cbs (by decide)
@[simp] theorem sendItem_dmas (s : State) (x : XItem) : (sendItem x s).dmas = s.dmas := (sendItem_only s x).dmas (by decide)
@[simp] theorem sendItem_dlm (s : State) (x : XItem) : (sendItem x s).dlm = s.dlm := (sendItem_only s x).dlm (by decide)
@[simp] theorem sendItem_ckpts (s : State) (x : XItem) : (sendItem x s).ckpts = s.ckpts := (sendItem_only s x).ckpts (by decide)
@[simp] theorem sendItem_sync (s : State) (x : XItem) : (sendItem x s).sync = s.sync := (sendItem_only s x).sync (by decide)
@[simp] theorem sendItem_queues (s : State) (x : XItem) : (sendItem x s).queues = s.queues := (sendItem_only s x).queues (by decide)
@[simp] theorem sendItem_msgs (s : State) (x : XItem) : (sendItem x s).msgs = s.msgs := (sendItem_only s x).msgs (by decide)
@[simp] theorem sendItem_fab (s : State) (x : XItem) : (sendItem x s).fab = s.fab := (sendItem_only s x).fab (by decide)
@[simp] theorem sendItem_mem (s : State) (x : XItem) : (sendItem x s).mem = s.mem := (sendItem_only s x).mem (by decide)
@[simp] theorem sendItem_poison (s : State) (x : XItem) : (sendItem x s).poison = s.poison := (sendItem_only s x).poison (by decide)
@[simp] theorem sendItem_refuse (s : State) (x : XItem) : (sendItem x s).refuse = s.refuse := (sendItem_only s x).refuse (by decide)
@[simp] theorem sendItem_nextId (s : State) (x : XItem) : (sendItem x s).nextId = s.nextId := (sendItem_only s x).nextId (by decide)
@[simp] theorem sendItem_lanes (s : State) (x : XItem) : (sendItem x s).lanes = s.lanes := (sendItem_only s x).lanes (by decide)
@[simp] theorem sendItem_cyc (s : State) (x : XItem) : (sendItem x s).cyc = s.cyc := (sendItem_only s x).cyc (by decide)
@[simp] theorem sendItem_reqs (s : State) (x : XItem) : (sendItem x s).reqs = s.reqs := (sendItem_only s x).reqs (by decide)
@[simp] theorem sendItem_out (s : State) (x : XItem) : (sendItem x s).out = s.out := (sendItem_only s x).out (by decide)

/-! ## sendArr -/

theorem sendArr_only (s : State) (src dst : Nat) (a : Arrival) : Only [.hub, .obs] s (sendArr src dst a s) :=
    sendItem_only s _

@[simp] theorem sendArr_pending (s : State) (src dst : Nat) (a : Arrival) : (sendArr src dst a s).pending = s.pending := (sendArr_only s src dst a).pending (by decide)
@[simp] theorem sendArr_variant (s : State) (src dst : Nat) (a : Arrival) : (sendArr src dst a s).variant = s.variant := (sendArr_only s src dst a).variant (by decide)
@[simp] theorem sendArr_hc (s : State) (src dst : Nat) (a : Arrival) : (sendArr src dst a s).hc = s.hc := (sendArr_only s src dst a).hc (by decide)
@[simp] theorem sendArr_tb (s : State) (src dst : Nat) (a : Arrival) : (sendArr src dst a s).tb = s.tb := (sendArr_only s src dst a).tb (by decide)
@[simp] theorem sendArr_tbPhase (s : State) (src dst : Nat) (a : Arrival) : (sendArr src dst a s).tbPhase = s.tbPhase := (sendArr_only s src dst a).tbPhase (by decide)
@[simp] theorem sendArr_fmhz (s : State) (src dst : Nat) (a : Arrival) : (sendArr src dst a s).fmhz = s.fmhz := (sendArr_only s src dst a).fmhz (by decide)
@[simp] theorem sendArr_free (s : State) (src dst : Nat) (a : Arrival) : (sendArr src dst a s).free = s.free := (sendArr_only s src dst a).free (by decide)
@[simp] theorem sendArr_regs (s : State) (src dst : Nat) (a : Arrival) : (sendArr src dst a s).regs = s.regs := (sendArr_only s src dst a).regs (by decide)
@[simp] theorem sendArr_selHost (s : State) (src dst : Nat) (a : Arrival) : (sendArr src dst a s).selHost = s.selHost := (sendArr_only s src dst a).selHost (by decide)
@[simp] theorem sendArr_selMgmt (s : State) (src dst : Nat) (a : Arrival) : (sendArr src dst a s).selMgmt = s.selMgmt := (sendArr_only s src dst a).selMgmt (by decide)
@[simp] theorem sendArr_glb (s : State) (src dst : Nat) (a : Arrival) : (sendArr src dst a s).glb = s.glb := (sendArr_only s src dst a).glb (by decide)
@[simp] theorem sendArr_en (s : State) (src dst : Nat) (a : Arrival) : (sendArr src dst a s).en = s.en := (sendArr_only s src dst a).en (by decide)
@[simp] theorem sendArr_ctxs (s : State) (src dst : Nat) (a : Arrival) : (sendArr src dst a s).ctxs = s.ctxs := (sendArr_only s src dst a).ctxs (by decide)
@[simp] theorem sendArr_templates (s : State) (src dst : Nat) (a : Arrival) : (sendArr src dst a s).templates = s.templates := (sendArr_only s src dst a).templates (by decide)
@[simp] theorem sendArr_launches (s : State) (src dst : Nat) (a : Arrival) : (sendArr src dst a s).launches = s.launches := (sendArr_only s src dst a).launches (by decide)
@[simp] theorem sendArr_heldLaunches (s : State) (src dst : Nat) (a : Arrival) : (sendArr src dst a s).heldLaunches = s.heldLaunches := (sendArr_only s src dst a).heldLaunches (by decide)
@[simp] theorem sendArr_disp (s : State) (src dst : Nat) (a : Arrival) : (sendArr src dst a s).disp = s.disp := (sendArr_only s src dst a).disp (by decide)
@[simp] theorem sendArr_fold (s : State) (src dst : Nat) (a : Arrival) : (sendArr src dst a s).fold = s.fold := (sendArr_only s src dst a).fold (by decide)
@[simp] theorem sendArr_rings (s : State) (src dst : Nat) (a : Arrival) : (sendArr src dst a s).rings = s.rings := (sendArr_only s src dst a).rings (by decide)
@[simp] theorem sendArr_cbs (s : State) (src dst : Nat) (a : Arrival) : (sendArr src dst a s).cbs = s.cbs := (sendArr_only s src dst a).cbs (by decide)
@[simp] theorem sendArr_dmas (s : State) (src dst : Nat) (a : Arrival) : (sendArr src dst a s).dmas = s.dmas := (sendArr_only s src dst a).dmas (by decide)
@[simp] theorem sendArr_dlm (s : State) (src dst : Nat) (a : Arrival) : (sendArr src dst a s).dlm = s.dlm := (sendArr_only s src dst a).dlm (by decide)
@[simp] theorem sendArr_ckpts (s : State) (src dst : Nat) (a : Arrival) : (sendArr src dst a s).ckpts = s.ckpts := (sendArr_only s src dst a).ckpts (by decide)
@[simp] theorem sendArr_sync (s : State) (src dst : Nat) (a : Arrival) : (sendArr src dst a s).sync = s.sync := (sendArr_only s src dst a).sync (by decide)
@[simp] theorem sendArr_queues (s : State) (src dst : Nat) (a : Arrival) : (sendArr src dst a s).queues = s.queues := (sendArr_only s src dst a).queues (by decide)
@[simp] theorem sendArr_msgs (s : State) (src dst : Nat) (a : Arrival) : (sendArr src dst a s).msgs = s.msgs := (sendArr_only s src dst a).msgs (by decide)
@[simp] theorem sendArr_fab (s : State) (src dst : Nat) (a : Arrival) : (sendArr src dst a s).fab = s.fab := (sendArr_only s src dst a).fab (by decide)
@[simp] theorem sendArr_mem (s : State) (src dst : Nat) (a : Arrival) : (sendArr src dst a s).mem = s.mem := (sendArr_only s src dst a).mem (by decide)
@[simp] theorem sendArr_poison (s : State) (src dst : Nat) (a : Arrival) : (sendArr src dst a s).poison = s.poison := (sendArr_only s src dst a).poison (by decide)
@[simp] theorem sendArr_refuse (s : State) (src dst : Nat) (a : Arrival) : (sendArr src dst a s).refuse = s.refuse := (sendArr_only s src dst a).refuse (by decide)
@[simp] theorem sendArr_nextId (s : State) (src dst : Nat) (a : Arrival) : (sendArr src dst a s).nextId = s.nextId := (sendArr_only s src dst a).nextId (by decide)
@[simp] theorem sendArr_lanes (s : State) (src dst : Nat) (a : Arrival) : (sendArr src dst a s).lanes = s.lanes := (sendArr_only s src dst a).lanes (by decide)
@[simp] theorem sendArr_cyc (s : State) (src dst : Nat) (a : Arrival) : (sendArr src dst a s).cyc = s.cyc := (sendArr_only s src dst a).cyc (by decide)
@[simp] theorem sendArr_reqs (s : State) (src dst : Nat) (a : Arrival) : (sendArr src dst a s).reqs = s.reqs := (sendArr_only s src dst a).reqs (by decide)
@[simp] theorem sendArr_out (s : State) (src dst : Nat) (a : Arrival) : (sendArr src dst a s).out = s.out := (sendArr_only s src dst a).out (by decide)

/-! ## State.modCb -/

theorem State.modCb_only (s : State) (ring idx : Nat) (f : Cb → Cb) : Only [.cbs] s (s.modCb ring idx f) :=
    ⟨fun _ => rfl, fun _ => rfl, fun _ => rfl, fun _ => rfl, fun _ => rfl, fun _ => rfl, fun _ => rfl, fun _ => rfl, fun _ => rfl, fun _ => rfl, fun _ => rfl, fun _ => rfl, fun _ => rfl, fun _ => rfl, fun _ => rfl, fun _ => rfl, fun _ => rfl, fun _ => rfl, fun _ => rfl, fun _ => rfl, fun h => absurd (by decide) h, fun _ => rfl, fun _ => rfl, fun _ => rfl, fun _ => rfl, fun _ => rfl, fun _ => rfl, fun _ => rfl, fun _ => rfl, fun _ => rfl, fun _ => rfl, fun _ => rfl, fun _ => rfl, fun _ => rfl, fun _ => rfl, fun _ => rfl, fun _ => rfl⟩

/-! ## completeOp -/

theorem completeOp_only (s : State) (ring idx pos st cls cause : Nat) : Only [.cbs, .obs] s (completeOp ring idx pos st cls cause s) := by
  unfold completeOp; repeat' split
  · exact Only.refl _ s
  · exact Only.refl _ s
  · exact (State.modCb_only s _ _ _).mono.trans (Only.ifThen _ (light_only _ _ _ _).mono)
  · exact Only.refl _ s

@[simp] theorem completeOp_pending (s : State) (ring idx pos st cls cause : Nat) : (completeOp ring idx pos st cls cause s).pending = s.pending := (completeOp_only s ring idx pos st cls cause).pending (by decide)
@[simp] theorem completeOp_variant (s : State) (ring idx pos st cls cause : Nat) : (completeOp ring idx pos st cls cause s).variant = s.variant := (completeOp_only s ring idx pos st cls cause).variant (by decide)
@[simp] theorem completeOp_hc (s : State) (ring idx pos st cls cause : Nat) : (completeOp ring idx pos st cls cause s).hc = s.hc := (completeOp_only s ring idx pos st cls cause).hc (by decide)
@[simp] theorem completeOp_tb (s : State) (ring idx pos st cls cause : Nat) : (completeOp ring idx pos st cls cause s).tb = s.tb := (completeOp_only s ring idx pos st cls cause).tb (by decide)
@[simp] theorem completeOp_tbPhase (s : State) (ring idx pos st cls cause : Nat) : (completeOp ring idx pos st cls cause s).tbPhase = s.tbPhase := (completeOp_only s ring idx pos st cls cause).tbPhase (by decide)
@[simp] theorem completeOp_fmhz (s : State) (ring idx pos st cls cause : Nat) : (completeOp ring idx pos st cls cause s).fmhz = s.fmhz := (completeOp_only s ring idx pos st cls cause).fmhz (by decide)
@[simp] theorem completeOp_free (s : State) (ring idx pos st cls cause : Nat) : (completeOp ring idx pos st cls cause s).free = s.free := (completeOp_only s ring idx pos st cls cause).free (by decide)
@[simp] theorem completeOp_regs (s : State) (ring idx pos st cls cause : Nat) : (completeOp ring idx pos st cls cause s).regs = s.regs := (completeOp_only s ring idx pos st cls cause).regs (by decide)
@[simp] theorem completeOp_selHost (s : State) (ring idx pos st cls cause : Nat) : (completeOp ring idx pos st cls cause s).selHost = s.selHost := (completeOp_only s ring idx pos st cls cause).selHost (by decide)
@[simp] theorem completeOp_selMgmt (s : State) (ring idx pos st cls cause : Nat) : (completeOp ring idx pos st cls cause s).selMgmt = s.selMgmt := (completeOp_only s ring idx pos st cls cause).selMgmt (by decide)
@[simp] theorem completeOp_glb (s : State) (ring idx pos st cls cause : Nat) : (completeOp ring idx pos st cls cause s).glb = s.glb := (completeOp_only s ring idx pos st cls cause).glb (by decide)
@[simp] theorem completeOp_en (s : State) (ring idx pos st cls cause : Nat) : (completeOp ring idx pos st cls cause s).en = s.en := (completeOp_only s ring idx pos st cls cause).en (by decide)
@[simp] theorem completeOp_ctxs (s : State) (ring idx pos st cls cause : Nat) : (completeOp ring idx pos st cls cause s).ctxs = s.ctxs := (completeOp_only s ring idx pos st cls cause).ctxs (by decide)
@[simp] theorem completeOp_templates (s : State) (ring idx pos st cls cause : Nat) : (completeOp ring idx pos st cls cause s).templates = s.templates := (completeOp_only s ring idx pos st cls cause).templates (by decide)
@[simp] theorem completeOp_launches (s : State) (ring idx pos st cls cause : Nat) : (completeOp ring idx pos st cls cause s).launches = s.launches := (completeOp_only s ring idx pos st cls cause).launches (by decide)
@[simp] theorem completeOp_heldLaunches (s : State) (ring idx pos st cls cause : Nat) : (completeOp ring idx pos st cls cause s).heldLaunches = s.heldLaunches := (completeOp_only s ring idx pos st cls cause).heldLaunches (by decide)
@[simp] theorem completeOp_hub (s : State) (ring idx pos st cls cause : Nat) : (completeOp ring idx pos st cls cause s).hub = s.hub := (completeOp_only s ring idx pos st cls cause).hub (by decide)
@[simp] theorem completeOp_disp (s : State) (ring idx pos st cls cause : Nat) : (completeOp ring idx pos st cls cause s).disp = s.disp := (completeOp_only s ring idx pos st cls cause).disp (by decide)
@[simp] theorem completeOp_fold (s : State) (ring idx pos st cls cause : Nat) : (completeOp ring idx pos st cls cause s).fold = s.fold := (completeOp_only s ring idx pos st cls cause).fold (by decide)
@[simp] theorem completeOp_rings (s : State) (ring idx pos st cls cause : Nat) : (completeOp ring idx pos st cls cause s).rings = s.rings := (completeOp_only s ring idx pos st cls cause).rings (by decide)
@[simp] theorem completeOp_dmas (s : State) (ring idx pos st cls cause : Nat) : (completeOp ring idx pos st cls cause s).dmas = s.dmas := (completeOp_only s ring idx pos st cls cause).dmas (by decide)
@[simp] theorem completeOp_dlm (s : State) (ring idx pos st cls cause : Nat) : (completeOp ring idx pos st cls cause s).dlm = s.dlm := (completeOp_only s ring idx pos st cls cause).dlm (by decide)
@[simp] theorem completeOp_ckpts (s : State) (ring idx pos st cls cause : Nat) : (completeOp ring idx pos st cls cause s).ckpts = s.ckpts := (completeOp_only s ring idx pos st cls cause).ckpts (by decide)
@[simp] theorem completeOp_sync (s : State) (ring idx pos st cls cause : Nat) : (completeOp ring idx pos st cls cause s).sync = s.sync := (completeOp_only s ring idx pos st cls cause).sync (by decide)
@[simp] theorem completeOp_queues (s : State) (ring idx pos st cls cause : Nat) : (completeOp ring idx pos st cls cause s).queues = s.queues := (completeOp_only s ring idx pos st cls cause).queues (by decide)
@[simp] theorem completeOp_msgs (s : State) (ring idx pos st cls cause : Nat) : (completeOp ring idx pos st cls cause s).msgs = s.msgs := (completeOp_only s ring idx pos st cls cause).msgs (by decide)
@[simp] theorem completeOp_fab (s : State) (ring idx pos st cls cause : Nat) : (completeOp ring idx pos st cls cause s).fab = s.fab := (completeOp_only s ring idx pos st cls cause).fab (by decide)
@[simp] theorem completeOp_mem (s : State) (ring idx pos st cls cause : Nat) : (completeOp ring idx pos st cls cause s).mem = s.mem := (completeOp_only s ring idx pos st cls cause).mem (by decide)
@[simp] theorem completeOp_poison (s : State) (ring idx pos st cls cause : Nat) : (completeOp ring idx pos st cls cause s).poison = s.poison := (completeOp_only s ring idx pos st cls cause).poison (by decide)
@[simp] theorem completeOp_refuse (s : State) (ring idx pos st cls cause : Nat) : (completeOp ring idx pos st cls cause s).refuse = s.refuse := (completeOp_only s ring idx pos st cls cause).refuse (by decide)
@[simp] theorem completeOp_nextId (s : State) (ring idx pos st cls cause : Nat) : (completeOp ring idx pos st cls cause s).nextId = s.nextId := (completeOp_only s ring idx pos st cls cause).nextId (by decide)
@[simp] theorem completeOp_lanes (s : State) (ring idx pos st cls cause : Nat) : (completeOp ring idx pos st cls cause s).lanes = s.lanes := (completeOp_only s ring idx pos st cls cause).lanes (by decide)
@[simp] theorem completeOp_cyc (s : State) (ring idx pos st cls cause : Nat) : (completeOp ring idx pos st cls cause s).cyc = s.cyc := (completeOp_only s ring idx pos st cls cause).cyc (by decide)
@[simp] theorem completeOp_reqs (s : State) (ring idx pos st cls cause : Nat) : (completeOp ring idx pos st cls cause s).reqs = s.reqs := (completeOp_only s ring idx pos st cls cause).reqs (by decide)
@[simp] theorem completeOp_out (s : State) (ring idx pos st cls cause : Nat) : (completeOp ring idx pos st cls cause s).out = s.out := (completeOp_only s ring idx pos st cls cause).out (by decide)

/-! ## finishOp -/

theorem finishOp_only (s : State) (w : Who) (st : Nat) : Only [.cbs, .obs] s (finishOp w st s) :=
    completeOp_only s _ _ _ st 0 0

@[simp] theorem finishOp_pending (s : State) (w : Who) (st : Nat) : (finishOp w st s).pending = s.pending := (finishOp_only s w st).pending (by decide)
@[simp] theorem finishOp_variant (s : State) (w : Who) (st : Nat) : (finishOp w st s).variant = s.variant := (finishOp_only s w st).variant (by decide)
@[simp] theorem finishOp_hc (s : State) (w : Who) (st : Nat) : (finishOp w st s).hc = s.hc := (finishOp_only s w st).hc (by decide)
@[simp] theorem finishOp_tb (s : State) (w : Who) (st : Nat) : (finishOp w st s).tb = s.tb := (finishOp_only s w st).tb (by decide)
@[simp] theorem finishOp_tbPhase (s : State) (w : Who) (st : Nat) : (finishOp w st s).tbPhase = s.tbPhase := (finishOp_only s w st).tbPhase (by decide)
@[simp] theorem finishOp_fmhz (s : State) (w : Who) (st : Nat) : (finishOp w st s).fmhz = s.fmhz := (finishOp_only s w st).fmhz (by decide)
@[simp] theorem finishOp_free (s : State) (w : Who) (st : Nat) : (finishOp w st s).free = s.free := (finishOp_only s w st).free (by decide)
@[simp] theorem finishOp_regs (s : State) (w : Who) (st : Nat) : (finishOp w st s).regs = s.regs := (finishOp_only s w st).regs (by decide)
@[simp] theorem finishOp_selHost (s : State) (w : Who) (st : Nat) : (finishOp w st s).selHost = s.selHost := (finishOp_only s w st).selHost (by decide)
@[simp] theorem finishOp_selMgmt (s : State) (w : Who) (st : Nat) : (finishOp w st s).selMgmt = s.selMgmt := (finishOp_only s w st).selMgmt (by decide)
@[simp] theorem finishOp_glb (s : State) (w : Who) (st : Nat) : (finishOp w st s).glb = s.glb := (finishOp_only s w st).glb (by decide)
@[simp] theorem finishOp_en (s : State) (w : Who) (st : Nat) : (finishOp w st s).en = s.en := (finishOp_only s w st).en (by decide)
@[simp] theorem finishOp_ctxs (s : State) (w : Who) (st : Nat) : (finishOp w st s).ctxs = s.ctxs := (finishOp_only s w st).ctxs (by decide)
@[simp] theorem finishOp_templates (s : State) (w : Who) (st : Nat) : (finishOp w st s).templates = s.templates := (finishOp_only s w st).templates (by decide)
@[simp] theorem finishOp_launches (s : State) (w : Who) (st : Nat) : (finishOp w st s).launches = s.launches := (finishOp_only s w st).launches (by decide)
@[simp] theorem finishOp_heldLaunches (s : State) (w : Who) (st : Nat) : (finishOp w st s).heldLaunches = s.heldLaunches := (finishOp_only s w st).heldLaunches (by decide)
@[simp] theorem finishOp_hub (s : State) (w : Who) (st : Nat) : (finishOp w st s).hub = s.hub := (finishOp_only s w st).hub (by decide)
@[simp] theorem finishOp_disp (s : State) (w : Who) (st : Nat) : (finishOp w st s).disp = s.disp := (finishOp_only s w st).disp (by decide)
@[simp] theorem finishOp_fold (s : State) (w : Who) (st : Nat) : (finishOp w st s).fold = s.fold := (finishOp_only s w st).fold (by decide)
@[simp] theorem finishOp_rings (s : State) (w : Who) (st : Nat) : (finishOp w st s).rings = s.rings := (finishOp_only s w st).rings (by decide)
@[simp] theorem finishOp_dmas (s : State) (w : Who) (st : Nat) : (finishOp w st s).dmas = s.dmas := (finishOp_only s w st).dmas (by decide)
@[simp] theorem finishOp_dlm (s : State) (w : Who) (st : Nat) : (finishOp w st s).dlm = s.dlm := (finishOp_only s w st).dlm (by decide)
@[simp] theorem finishOp_ckpts (s : State) (w : Who) (st : Nat) : (finishOp w st s).ckpts = s.ckpts := (finishOp_only s w st).ckpts (by decide)
@[simp] theorem finishOp_sync (s : State) (w : Who) (st : Nat) : (finishOp w st s).sync = s.sync := (finishOp_only s w st).sync (by decide)
@[simp] theorem finishOp_queues (s : State) (w : Who) (st : Nat) : (finishOp w st s).queues = s.queues := (finishOp_only s w st).queues (by decide)
@[simp] theorem finishOp_msgs (s : State) (w : Who) (st : Nat) : (finishOp w st s).msgs = s.msgs := (finishOp_only s w st).msgs (by decide)
@[simp] theorem finishOp_fab (s : State) (w : Who) (st : Nat) : (finishOp w st s).fab = s.fab := (finishOp_only s w st).fab (by decide)
@[simp] theorem finishOp_mem (s : State) (w : Who) (st : Nat) : (finishOp w st s).mem = s.mem := (finishOp_only s w st).mem (by decide)
@[simp] theorem finishOp_poison (s : State) (w : Who) (st : Nat) : (finishOp w st s).poison = s.poison := (finishOp_only s w st).poison (by decide)
@[simp] theorem finishOp_refuse (s : State) (w : Who) (st : Nat) : (finishOp w st s).refuse = s.refuse := (finishOp_only s w st).refuse (by decide)
@[simp] theorem finishOp_nextId (s : State) (w : Who) (st : Nat) : (finishOp w st s).nextId = s.nextId := (finishOp_only s w st).nextId (by decide)
@[simp] theorem finishOp_lanes (s : State) (w : Who) (st : Nat) : (finishOp w st s).lanes = s.lanes := (finishOp_only s w st).lanes (by decide)
@[simp] theorem finishOp_cyc (s : State) (w : Who) (st : Nat) : (finishOp w st s).cyc = s.cyc := (finishOp_only s w st).cyc (by decide)
@[simp] theorem finishOp_reqs (s : State) (w : Who) (st : Nat) : (finishOp w st s).reqs = s.reqs := (finishOp_only s w st).reqs (by decide)
@[simp] theorem finishOp_out (s : State) (w : Who) (st : Nat) : (finishOp w st s).out = s.out := (finishOp_only s w st).out (by decide)

end Sys2Proof.Machine
end

