-- ==== Sys2Proof/Laws/Memory.lean ====
section
/-! SUPPORT. Memory: every operation on it keeps the canonical form, a read after a write gives the value written, and a write
leaves every other byte alone. -/

namespace Sys2Proof.Machine

/-! ## The canonical form -/

theorem Mem.wfFrom_mono {m : List Host.Cell} {lo hi : Nat} (h : hi ≤ lo) (w : Mem.wfFrom lo m = true) : Mem.wfFrom hi m = true := by
  cases m with
  | nil => rfl
  | cons c t =>
    obtain ⟨k, v⟩ := c
    simp only [Mem.wfFrom, Bool.and_eq_true, decide_eq_true_eq] at w ⊢
    exact ⟨⟨by omega, w.1.2⟩, w.2⟩

theorem Mem.wfFrom_put {m : List Host.Cell} {lo a : Nat} (b : Byte) (h : lo ≤ a) (w : Mem.wfFrom lo m = true) :
    Mem.wfFrom lo (Mem.put m a b) = true := by
  induction m generalizing lo with
  | nil => by_cases hb : b = memFill <;> simp [Mem.put, Mem.wfFrom, hb, h]
  | cons c t ih =>
    obtain ⟨k, v⟩ := c
    simp only [Mem.wfFrom, Bool.and_eq_true, decide_eq_true_eq] at w
    by_cases h1 : a < k
    · by_cases hb : b = memFill
      · simp [Mem.put, h1, hb, Mem.wfFrom, w.1.1, w.1.2, w.2]
      · simp only [Mem.put, h1, hb, if_true, if_false, Mem.wfFrom, Bool.and_eq_true, decide_eq_true_eq]
        exact ⟨⟨h, hb⟩, ⟨⟨by omega, w.1.2⟩, w.2⟩⟩
    · by_cases h2 : a = k
      · subst h2
        by_cases hb : b = memFill
        · simpa [Mem.put, hb] using Mem.wfFrom_mono (by omega) w.2
        · simp only [Mem.put, h1, hb, if_true, if_false, Mem.wfFrom, Bool.and_eq_true, decide_eq_true_eq]
          exact ⟨⟨h, hb⟩, w.2⟩
      · simp only [Mem.put, h1, h2, if_false, Mem.wfFrom, Bool.and_eq_true, decide_eq_true_eq]
        exact ⟨w.1, ih (by omega) w.2⟩

theorem Mem.wf_put {m : List Host.Cell} (a : Nat) (b : Byte) (w : Mem.wf m = true) : Mem.wf (Mem.put m a b) = true :=
  Mem.wfFrom_put b (Nat.zero_le a) w

theorem Mem.wf_putBytes {m : List Host.Cell} (a : Nat) (bs : List Byte) (w : Mem.wf m = true) :
    Mem.wf (Mem.putBytes m a bs) = true := by
  induction bs generalizing m a with
  | nil => exact w
  | cons b t ih => exact ih (a + 1) (Mem.wf_put a b w)

theorem Mem.wfFrom_filter (p : Host.Cell → Bool) {m : List Host.Cell} {lo : Nat} (w : Mem.wfFrom lo m = true) :
    Mem.wfFrom lo (m.filter p) = true := by
  induction m generalizing lo with
  | nil => rfl
  | cons c t ih =>
    obtain ⟨k, v⟩ := c
    simp only [Mem.wfFrom, Bool.and_eq_true, decide_eq_true_eq] at w
    by_cases hp : p (k, v) = true
    · simp only [List.filter_cons, hp, if_true, Mem.wfFrom, Bool.and_eq_true, decide_eq_true_eq]
      exact ⟨w.1, ih w.2⟩
    · simp only [List.filter_cons, hp]
      exact ih (Mem.wfFrom_mono (by omega) w.2)

theorem Mem.wf_filter (p : Host.Cell → Bool) {m : List Host.Cell} (w : Mem.wf m = true) : Mem.wf (m.filter p) = true :=
  Mem.wfFrom_filter p w

theorem Mem.wf_foldl {α : Type} (f : List Host.Cell → α → List Host.Cell) (l : List α) {m : List Host.Cell}
    (h : ∀ m a, Mem.wf m = true → Mem.wf (f m a) = true) (w : Mem.wf m = true) : Mem.wf (l.foldl f m) = true := by
  induction l generalizing m with
  | nil => exact w
  | cons a t ih => exact ih (h m a w)

/-! ## Read after write -/

theorem Mem.get_of_lt {m : List Host.Cell} {lo x : Nat} (w : Mem.wfFrom lo m = true) (h : x < lo) : Mem.get m x = memFill := by
  induction m generalizing lo with
  | nil => rfl
  | cons c t ih =>
    obtain ⟨k, v⟩ := c
    simp only [Mem.wfFrom, Bool.and_eq_true, decide_eq_true_eq] at w
    have hk : k ≠ x := by omega
    simp only [Mem.get, hk, if_false]
    exact ih w.2 (by omega)

theorem Mem.get_put_from {m : List Host.Cell} {lo : Nat} (a x : Nat) (b : Byte) (w : Mem.wfFrom lo m = true) :
    Mem.get (Mem.put m a b) x = if x = a then b else Mem.get m x := by
  induction m generalizing lo with
  | nil =>
    by_cases hb : b = memFill <;> by_cases hx : x = a <;> simp [Mem.put, Mem.get, hb, hx]
    intro h; exact absurd h.symm hx
  | cons c t ih =>
    obtain ⟨k, v⟩ := c
    simp only [Mem.wfFrom, Bool.and_eq_true, decide_eq_true_eq] at w
    by_cases h1 : a < k
    · have hn : Mem.get ((k, v) :: t) a = memFill :=
        Mem.get_of_lt (lo := k) (by simp only [Mem.wfFrom, Bool.and_eq_true, decide_eq_true_eq]; exact ⟨⟨Nat.le_refl k, w.1.2⟩, w.2⟩) h1
      by_cases hb : b = memFill
      · simp only [Mem.put, h1, hb, if_true]
        by_cases hx : x = a
        · subst hx; simp [hn]
        · simp [hx]
      · simp only [Mem.put, h1, hb, if_true, if_false]
        by_cases hx : x = a
        · subst hx; simp [Mem.get]
        · have hx' : a ≠ x := fun h => hx h.symm
          conv => lhs; rw [Mem.get]
          simp [hx, hx']
    · by_cases h2 : a = k
      · subst h2
        by_cases hb : b = memFill
        · by_cases hx : x = a
          · subst hx; simp [Mem.put, hb, Mem.get_of_lt w.2 (Nat.lt_succ_self x)]
          · have hx' : a ≠ x := fun h => hx h.symm
            simp [Mem.put, hb, hx, hx', Mem.get]
        · by_cases hx : x = a
          · subst hx; simp [Mem.put, hb, Mem.get]
          · have hx' : a ≠ x := fun h => hx h.symm
            simp [Mem.put, hb, hx, hx', Mem.get]
      · simp only [Mem.put, h1, h2, if_false]
        by_cases hk : k = x
        · subst hk; have : k ≠ a := fun h => h2 h.symm
          simp [Mem.get, this]
        · simp only [Mem.get, hk, if_false]; exact ih w.2

/-- A byte after a write of one byte. -/
theorem Mem.get_put {m : List Host.Cell} (a x : Nat) (b : Byte) (w : Mem.wf m = true) :
    Mem.get (Mem.put m a b) x = if x = a then b else Mem.get m x := Mem.get_put_from a x b w

/-- A write of one byte leaves every other one, in canonical form or not. -/
theorem Mem.get_put_other {m : List Host.Cell} {a x : Nat} (b : Byte) (h : x ≠ a) : Mem.get (Mem.put m a b) x = Mem.get m x := by
  have ha : a ≠ x := fun e => h e.symm
  induction m with
  | nil => by_cases hb : b = memFill <;> simp [Mem.put, Mem.get, hb, ha]
  | cons c t ih =>
    obtain ⟨k, v⟩ := c
    by_cases h1 : a < k
    · by_cases hb : b = memFill <;> simp [Mem.put, Mem.get, h1, hb, ha]
    · by_cases h2 : a = k
      · subst h2; by_cases hb : b = memFill <;> simp [Mem.put, Mem.get, hb, ha]
      · rw [Mem.put, if_neg h1, if_neg h2]
        by_cases hk : k = x <;> simp [Mem.get, hk, ih]

/-- A write of bytes leaves every byte outside them. -/
theorem Mem.get_putBytes_outside {m : List Host.Cell} (a x : Nat) (bs : List Byte)
    (h : x < a ∨ a + bs.length ≤ x) : Mem.get (Mem.putBytes m a bs) x = Mem.get m x := by
  induction bs generalizing m a with
  | nil => rfl
  | cons b t ih =>
    have hx : x ≠ a := by simp only [List.length_cons] at h; omega
    rw [Mem.putBytes, ih (a + 1) (by simp only [List.length_cons] at h; omega), Mem.get_put_other b hx]

/-- The bytes written read back. -/
theorem Mem.get_putBytes_inside {m : List Host.Cell} (a i : Nat) (bs : List Byte) (w : Mem.wf m = true) (h : i < bs.length) :
    Mem.get (Mem.putBytes m a bs) (a + i) = bs[i] := by
  induction bs generalizing m a i with
  | nil => exact absurd h (by simp)
  | cons b t ih =>
    cases i with
    | zero =>
      rw [Mem.putBytes, Mem.get_putBytes_outside (a + 1) (a + 0) t (by omega), Mem.get_put _ _ _ w]
      simp
    | succ j =>
      rw [Mem.putBytes, show a + (j + 1) = (a + 1) + j by omega, ih (a + 1) j (Mem.wf_put a b w) (by simpa using h)]
      simp

/-! ## The operations of the block -/

theorem memWrite_wf (a : Nat) (bs : List Byte) {s : State} (w : Mem.wf s.mem = true) : Mem.wf (memWrite a bs s).mem = true := by
  unfold memWrite; dsimp only; split
  · exact Mem.wf_putBytes a bs w
  · refine Mem.wf_foldl _ _ (fun m ib hm => ?_) w
    split
    · exact Mem.wf_put _ _ hm
    · exact hm

theorem putIn_mem (u : Nat) (c : Option Nat) (part a : Nat) (bs : List Byte) (s : State) :
    (putIn u c part a bs s).mem = (memWrite a bs s).mem := by
  unfold putIn; dsimp only; split <;> simp

theorem writeBytes_mem (u : Nat) (c : Option Nat) (a : Nat) (bs : List Byte) (s : State) :
    (writeBytes u c a bs s).mem = (memWrite a bs s).mem := by
  unfold writeBytes
  rw [ifThen_field State.mem _ _ _ (by simp)]
  exact putIn_mem ..

theorem putIn_wf (u : Nat) (c : Option Nat) (part a : Nat) (bs : List Byte) {s : State} (w : Mem.wf s.mem = true) :
    Mem.wf (putIn u c part a bs s).mem = true := by
  rw [putIn_mem]; exact memWrite_wf a bs w

theorem writeBytes_wf (u : Nat) (c : Option Nat) (a : Nat) (bs : List Byte) {s : State} (w : Mem.wf s.mem = true) :
    Mem.wf (writeBytes u c a bs s).mem = true := by
  rw [writeBytes_mem]; exact memWrite_wf a bs w

theorem writeWords_wf (u : Nat) (c : Option Nat) (a : Nat) (ws : List Word) {s : State} (w : Mem.wf s.mem = true) :
    Mem.wf (writeWords u c a ws s).mem = true :=
  writeBytes_wf u c a (wordsBytes ws) w

theorem writeArea_wf (u base size : Nat) (parts : List (Nat × List Word)) {s : State} (w : Mem.wf s.mem = true) :
    Mem.wf (writeArea u base size parts s).mem = true := by
  unfold writeArea; dsimp only
  have h0 := Mem.wf_filter (fun c => !(decide (base ≤ c.1) && decide (c.1 < base + size)) || s.refuse.contains (c.1 / 32)) w
  generalize hs : ({ s with mem := _, poison := _ } : State) = s1
  have h1 : Mem.wf s1.mem = true := by rw [← hs]; exact h0
  clear hs h0
  induction parts generalizing s1 with
  | nil => exact h1
  | cons p t ih => exact ih _ (putIn_wf _ _ _ _ _ h1)

theorem outMap_wf (f : Nat → Nat) (ctx serial : Nat) {s : State} (w : Mem.wf s.mem = true) :
    Mem.wf (outMap f ctx serial s).mem = true := by
  unfold outMap; split
  · exact writeWords_wf _ _ _ _ w
  · exact w

/-- A write leaves every byte outside it. -/
theorem memWrite_byteAt_outside (a x : Nat) (bs : List Byte) {s : State}
    (h : x < a ∨ a + bs.length ≤ x) : (memWrite a bs s).byteAt x = s.byteAt x := by
  unfold memWrite; dsimp only; split
  · exact Mem.get_putBytes_outside a x bs h
  · show Mem.get (List.foldl _ s.mem _) x = Mem.get s.mem x
    have hl : ∀ ib ∈ List.zip (List.range bs.length) bs, a + ib.1 ≠ x := by
      intro ib hib
      have := List.mem_range.mp (List.of_mem_zip hib).1
      omega
    generalize List.zip (List.range bs.length) bs = l at hl
    clear h
    generalize s.mem = m
    induction l generalizing m with
    | nil => rfl
    | cons ib t ih =>
      simp only [List.foldl_cons]
      have hne := hl ib (List.mem_cons_self ..)
      split
      · rw [ih (fun j hj => hl j (List.mem_cons_of_mem _ hj)), Mem.get_put_other _ (Ne.symm hne)]
      · exact ih (fun j hj => hl j (List.mem_cons_of_mem _ hj)) m

/-- A write acknowledged OK throughout reads back. -/
theorem memWrite_byteAt_inside (a i : Nat) (bs : List Byte) {s : State} (w : Mem.wf s.mem = true)
    (ok : s.writeOk a bs.length = true) (h : i < bs.length) : (memWrite a bs s).byteAt (a + i) = bs[i] := by
  unfold memWrite; dsimp only; rw [if_pos ok]
  exact Mem.get_putBytes_inside a i bs w h

theorem writeBytes_byteAt (u : Nat) (c : Option Nat) (a x : Nat) (bs : List Byte) (s : State) :
    (writeBytes u c a bs s).byteAt x = (memWrite a bs s).byteAt x := by
  simp only [State.byteAt, writeBytes_mem]

theorem writeBytes_byteAt_outside (u : Nat) (c : Option Nat) (a x : Nat) (bs : List Byte) {s : State}
    (h : x < a ∨ a + bs.length ≤ x) : (writeBytes u c a bs s).byteAt x = s.byteAt x := by
  rw [writeBytes_byteAt]; exact memWrite_byteAt_outside a x bs h

/-- A write acknowledged OK throughout makes no report: it only writes. -/
theorem writeBytes_ok (u : Nat) (c : Option Nat) (a : Nat) (bs : List Byte) {s : State} (ok : s.writeOk a bs.length = true) :
    writeBytes u c a bs s = putIn u c (s.partOf c) a bs s := by
  simp [writeBytes, ok]

theorem wordBytes_length (w : Word) : (wordBytes w).length = 8 := by simp [wordBytes]

@[simp] theorem wordsBytes_length (ws : List Word) : (wordsBytes ws).length = 8 * ws.length := by
  induction ws with
  | nil => rfl
  | cons w t ih => simp only [wordsBytes, List.flatMap_cons, List.length_append, List.length_cons] at *; rw [ih, wordBytes_length]; omega

theorem writeWords_byteAt_outside (u : Nat) (c : Option Nat) (a x : Nat) (ws : List Word) {s : State}
    (h : x < a ∨ a + 8 * ws.length ≤ x) : (writeWords u c a ws s).byteAt x = s.byteAt x :=
  writeBytes_byteAt_outside u c a x (wordsBytes ws) (by simpa using h)

end Sys2Proof.Machine
end

