-- ==== Sys2Proof/Laws/FrontEnd.lean ====
section
/-! SUPPORT. Command buffers: what the start and the completion of an operation do to the command buffer that they belong to. -/

namespace Sys2Proof.Machine

/-! ## Lists with one entry changed -/

theorem find?_updFirst {α : Type} (p : α → Bool) (f : α → α) (hf : ∀ a, p a = true → p (f a) = true) (l : List α) :
    (updFirst p f l).find? p = (l.find? p).map f := by
  induction l with
  | nil => rfl
  | cons a t ih =>
    by_cases h : p a = true
    · simp [updFirst, h, hf a h]
    · simp [updFirst, h, ih]

theorem find?_updFirst_other {α : Type} (p q : α → Bool) (f : α → α) (hp : ∀ a, p a = true → q a = false ∧ q (f a) = false)
    (l : List α) : (updFirst p f l).find? q = l.find? q := by
  induction l with
  | nil => rfl
  | cons a t ih =>
    by_cases h : p a = true
    · simp [updFirst, h, (hp a h).1, (hp a h).2]
    · by_cases hq : q a = true <;> simp [updFirst, h, hq, ih]

theorem mem_updFirst {α : Type} {p : α → Bool} {f : α → α} {l : List α} {x : α} (h : x ∈ updFirst p f l) :
    x ∈ l ∨ ∃ a ∈ l, p a = true ∧ x = f a := by
  induction l with
  | nil => exact absurd h (by simp [updFirst])
  | cons a t ih =>
    by_cases hp : p a = true
    · simp only [updFirst, hp, if_true, List.mem_cons] at h
      rcases h with h | h
      · exact .inr ⟨a, List.mem_cons_self .., hp, h⟩
      · exact .inl (List.mem_cons_of_mem _ h)
    · simp only [updFirst, hp, if_false, List.mem_cons, Bool.false_eq_true] at h
      rcases h with h | h
      · exact .inl (h ▸ List.mem_cons_self ..)
      · rcases ih h with h | ⟨b, hb, hpb, hx⟩
        · exact .inl (List.mem_cons_of_mem _ h)
        · exact .inr ⟨b, List.mem_cons_of_mem _ hb, hpb, hx⟩

/-! ## The command buffer under its ring and index -/

theorem State.cb?_is {s : State} {r i : Nat} {c : Cb} (h : s.cb? r i = some c) : c.ring = r ∧ c.idx = i := by
  have := List.find?_some h
  simpa [Cb.is] using this

/-- A change of a command buffer that keeps its ring and index shows under them. -/
theorem State.cb?_modCb {s : State} {r i : Nat} {c : Cb} {f : Cb → Cb} (hf : ∀ d, (f d).ring = d.ring ∧ (f d).idx = d.idx)
    (h : s.cb? r i = some c) : (s.modCb r i f).cb? r i = some (f c) := by
  show (updFirst _ f s.cbs).find? _ = _
  rw [find?_updFirst _ _ (by intro a ha; simpa [Cb.is, hf a] using ha)]
  simp only [State.cb?] at h
  rw [h]; rfl

/-- States with the same command buffers find the same one. -/
theorem State.cb?_congr {s t : State} (h : t.cbs = s.cbs) (r i : Nat) : t.cb? r i = s.cb? r i := by
  simp [State.cb?, h]

@[simp] theorem Cb.modInst_ring (c : Cb) (p : Nat) (f : OpInst → OpInst) : (c.modInst p f).ring = c.ring := rfl
@[simp] theorem Cb.modInst_idx (c : Cb) (p : Nat) (f : OpInst → OpInst) : (c.modInst p f).idx = c.idx := rfl
@[simp] theorem Cb.modInst_frames (c : Cb) (p : Nat) (f : OpInst → OpInst) : (c.modInst p f).frames = c.frames := rfl
@[simp] theorem Cb.modInst_nextPos (c : Cb) (p : Nat) (f : OpInst → OpInst) : (c.modInst p f).nextPos = c.nextPos := rfl
@[simp] theorem Cb.modInst_hashes (c : Cb) (p : Nat) (f : OpInst → OpInst) : (c.modInst p f).hashes = c.hashes := rfl
@[simp] theorem Cb.modInst_flag (c : Cb) (p : Nat) (f : OpInst → OpInst) : (c.modInst p f).flag = c.flag := rfl
@[simp] theorem Cb.modInst_term (c : Cb) (p : Nat) (f : OpInst → OpInst) : (c.modInst p f).term = c.term := rfl
@[simp] theorem Cb.modInst_events (c : Cb) (p : Nat) (f : OpInst → OpInst) : (c.modInst p f).events = c.events := rfl

/-- What the completion of an operation leaves of its command buffer. -/
structure Cb.Kept (c d : Cb) : Prop where
  ring : d.ring = c.ring
  idx : d.idx = c.idx
  frames : d.frames = c.frames
  nextPos : d.nextPos = c.nextPos
  hashes : d.hashes = c.hashes
  state : d.state = c.state
  audits : d.audits = c.audits

theorem Cb.Kept.refl (c : Cb) : Cb.Kept c c := ⟨rfl, rfl, rfl, rfl, rfl, rfl, rfl⟩
theorem Cb.Kept.trans {c d e : Cb} (h : Cb.Kept c d) (k : Cb.Kept d e) : Cb.Kept c e :=
  ⟨k.1.trans h.1, k.2.trans h.2, k.3.trans h.3, k.4.trans h.4, k.5.trans h.5, k.6.trans h.6, k.7.trans h.7⟩

theorem Cb.kept_opStatus (c : Cb) (hc pos st cls cause : Nat) (m : Rec4) : Cb.Kept c (c.opStatus hc pos st cls cause m) := by
  unfold Cb.opStatus Cb.event Cb.setTerm
  constructor <;> (dsimp only; repeat' split) <;> rfl

theorem Cb.inst?_modInst_same {c : Cb} {p : Nat} {i : OpInst} {f : OpInst → OpInst} (hf : ∀ j, (f j).pos = j.pos)
    (h : c.inst? p = some i) : (c.modInst p f).inst? p = some (f i) := by
  show (updFirst _ f c.insts).find? _ = _
  rw [find?_updFirst _ _ (by intro a ha; simpa [hf a] using ha)]
  simp only [Cb.inst?] at h
  rw [h]; rfl

theorem Cb.inst?_modInst_other {c : Cb} {p q : Nat} {f : OpInst → OpInst} (hf : ∀ j, (f j).pos = j.pos) (h : q ≠ p) :
    (c.modInst p f).inst? q = c.inst? q := by
  refine find?_updFirst_other _ _ f (fun a ha => ?_) c.insts
  have : a.pos = p := by simpa using ha
  simp [hf, this, Ne.symm h]

/-- The instance that an operation's status reaches. -/
theorem Cb.insts_opStatus (c : Cb) (hc pos st cls cause : Nat) (m : Rec4) :
    (c.opStatus hc pos st cls cause m).insts = (c.modInst pos fun i => { i with status := some st, held := false }).insts := by
  unfold Cb.opStatus Cb.event Cb.setTerm
  dsimp only
  repeat' split
  all_goals rfl

theorem Cb.inst?_congr {c d : Cb} (h : d.insts = c.insts) (p : Nat) : d.inst? p = c.inst? p := by simp [Cb.inst?, h]

theorem Cb.inst?_opStatus_same {c : Cb} {hc pos st cls cause : Nat} {m : Rec4} {i : OpInst} (h : c.inst? pos = some i) :
    (c.opStatus hc pos st cls cause m).inst? pos = some { i with status := some st, held := false } := by
  rw [Cb.inst?_congr (Cb.insts_opStatus c hc pos st cls cause m)]
  exact Cb.inst?_modInst_same (fun _ => rfl) h

theorem Cb.inst?_opStatus_other {c : Cb} {hc pos q st cls cause : Nat} {m : Rec4} (h : q ≠ pos) :
    (c.opStatus hc pos st cls cause m).inst? q = c.inst? q := by
  rw [Cb.inst?_congr (Cb.insts_opStatus c hc pos st cls cause m)]
  exact Cb.inst?_modInst_other (fun _ => rfl) h

/-! ## What follows a completion -/

/-- Nothing that has completed changes, and the command buffer keeps what `Kept` names. -/
structure Cb.Settled (c d : Cb) : Prop where
  kept : Cb.Kept c d
  closed : ∀ q i, c.inst? q = some i → i.isOpen = false → d.inst? q = some i

theorem Cb.Settled.refl (c : Cb) : Cb.Settled c c := ⟨.refl c, fun _ _ h _ => h⟩
theorem Cb.Settled.trans {c d e : Cb} (h : Cb.Settled c d) (k : Cb.Settled d e) : Cb.Settled c e :=
  ⟨h.kept.trans k.kept, fun q i hq hi => k.closed q i (h.closed q i hq hi) hi⟩

theorem foldl_settled (f : Cb → Nat → Cb) (hf : ∀ c p, Cb.Settled c (f c p)) (l : List Nat) (c : Cb) :
    Cb.Settled c (l.foldl f c) := by
  induction l generalizing c with
  | nil => exact .refl c
  | cons a t ih => exact (hf c a).trans (ih (f c a))

/-- The completion of an open operation. -/
theorem Cb.settled_opStatus {c : Cb} {hc pos st cls cause : Nat} {m : Rec4} {i : OpInst} (h : c.inst? pos = some i)
    (ho : i.isOpen = true) : Cb.Settled c (c.opStatus hc pos st cls cause m) := by
  refine ⟨Cb.kept_opStatus .., fun q j hq hj => ?_⟩
  by_cases hqp : q = pos
  · subst hqp; rw [h] at hq; cases hq; rw [ho] at hj; cases hj
  · rw [Cb.inst?_opStatus_other hqp]; exact hq

theorem Cb.settled_settleTests (c : Cb) : Cb.Settled c c.settleTests := by
  refine foldl_settled _ (fun c p => ?_) _ c
  split
  · next i hi =>
    split
    · split
      · split
        · next ho =>
          unfold Cb.testDone
          split
          · next b _ =>
            have h : ({ c with flag := b } : Cb).inst? p = some i := hi
            have k := Cb.settled_opStatus (hc := 0) (st := stOK) (cls := 0) (cause := 0) (m := i.m) h ho
            exact ⟨⟨k.kept.1, k.kept.2, k.kept.3, k.kept.4, k.kept.5, k.kept.6, k.kept.7⟩, k.closed⟩
          · exact .refl c
        · exact .refl c
      · exact .refl c
    · exact .refl c
  · exact .refl c

theorem Cb.settled_settleEnclosing (c : Cb) : Cb.Settled c c.settleEnclosing := by
  refine foldl_settled _ (fun c p => ?_) _ c
  split
  · next i hi =>
    split
    · next h =>
      simp only [Bool.and_eq_true] at h
      exact Cb.settled_opStatus hi h.1
    · exact .refl c
  · exact .refl c

theorem Cb.settled_settle (c : Cb) : Cb.Settled c c.settle :=
  (Cb.settled_settleTests c).trans (Cb.settled_settleEnclosing _)

/-- The operation at `pos` completes: it shows its status, and the command buffer keeps its place in the sequence. -/
theorem completeOp_cb {s : State} {r i pos st cls cause : Nat} {c : Cb} {o : OpInst} (hc : s.cb? r i = some c)
    (ho : c.inst? pos = some o) (hopen : o.isOpen = true) :
    ∃ d, (completeOp r i pos st cls cause s).cb? r i = some d ∧ Cb.Kept c d ∧
      d.inst? pos = some { o with status := some st, held := false } := by
  have hk : ∀ d : Cb, ((d.opStatus s.hc pos st cls cause o.m).settle).ring = d.ring ∧
      ((d.opStatus s.hc pos st cls cause o.m).settle).idx = d.idx := fun d =>
    have k := (Cb.kept_opStatus d s.hc pos st cls cause o.m).trans (Cb.settled_settle _).kept
    ⟨k.ring, k.idx⟩
  refine ⟨(c.opStatus s.hc pos st cls cause o.m).settle, ?_,
    (Cb.kept_opStatus ..).trans (Cb.settled_settle _).kept,
    (Cb.settled_settle _).closed _ _ (Cb.inst?_opStatus_same ho) rfl⟩
  unfold completeOp
  rw [hc]
  simp only [ho, hopen, if_true]
  have h1 := State.cb?_modCb hk hc
  cases opOPC o.m == 1
  · exact h1
  · exact (State.cb?_congr (by simp) r i).trans h1

/-! ## The start of an operation -/

theorem Cb.skipOps_insts (n : Nat) (c : Cb) : (c.skipOps n).insts = c.insts := by unfold Cb.skipOps; split <;> rfl
theorem Cb.skipOps_ring (n : Nat) (c : Cb) : (c.skipOps n).ring = c.ring := by unfold Cb.skipOps; split <;> rfl
theorem Cb.skipOps_idx (n : Nat) (c : Cb) : (c.skipOps n).idx = c.idx := by unfold Cb.skipOps; split <;> rfl
theorem Cb.skipOps_nextPos (n : Nat) (c : Cb) : (c.skipOps n).nextPos = c.nextPos := by unfold Cb.skipOps; split <;> rfl
theorem Cb.skipOps_hashes (n : Nat) (c : Cb) : (c.skipOps n).hashes = c.hashes := by unfold Cb.skipOps; split <;> rfl

/-- A started operation stands at its position, which none before it has. -/
theorem Cb.inst?_enterOp {c : Cb} (tb : Nat) (m : Rec4) (h : ∀ i ∈ c.insts, i.pos < c.nextPos) :
    (c.enterOp tb m).inst? c.nextPos = some ⟨c.nextPos, m, none, c.enclosing, tb, none, none, false, 0, none, false⟩ := by
  show (c.insts ++ [_]).find? _ = _
  rw [List.find?_append, List.find?_eq_none.mpr (fun i hi => by simpa using (Nat.ne_of_lt (h i hi)))]
  simp

theorem Cb.kept_markIssued (l : List (Nat × Nat)) (c : Cb) : Cb.Kept c (c.markIssued l) := by
  unfold Cb.markIssued
  induction l generalizing c with
  | nil => exact .refl c
  | cons e t ih =>
    have h : Cb.Kept c (c.modInst e.1 fun i => { i with issued := true, lastIter := e.2 }) := ⟨rfl, rfl, rfl, rfl, rfl, rfl, rfl⟩
    exact h.trans (ih _)

/-- The status of an operation that has completed stays when the frames around it end. -/
theorem Cb.status_markIssued (l : List (Nat × Nat)) {c : Cb} {q : Nat} {i : OpInst} (h : c.inst? q = some i) :
    ∃ j, (c.markIssued l).inst? q = some j ∧ j.status = i.status ∧ j.m = i.m ∧ j.held = i.held ∧ j.dma = i.dma ∧ j.launch = i.launch := by
  unfold Cb.markIssued
  induction l generalizing c i with
  | nil => exact ⟨i, h, rfl, rfl, rfl, rfl, rfl⟩
  | cons e t ih =>
    by_cases hq : q = e.1
    · subst hq
      obtain ⟨j, hj, h1, h2, h3, h4, h5⟩ := ih (Cb.inst?_modInst_same (f := fun i => { i with issued := true, lastIter := e.2 }) (fun _ => rfl) h)
      exact ⟨j, hj, h1, h2, h3, h4, h5⟩
    · exact ih ((Cb.inst?_modInst_other (f := fun i => { i with issued := true, lastIter := e.2 }) (fun _ => rfl) hq).trans h)

/-- After an operation that has completed at its start, it shows its status still. -/
theorem Cb.closeUp_status {c : Cb} {q st : Nat} {i : OpInst} (h : c.inst? q = some i) (hs : i.status = some st) :
    ∃ j, c.closeUp.inst? q = some j ∧ j.status = some st ∧ c.closeUp.ring = c.ring ∧ c.closeUp.idx = c.idx ∧
      c.closeUp.nextPos = c.nextPos ∧ c.closeUp.hashes = c.hashes := by
  have h0 : ({ c with frames := (popFrames c.frames).1 } : Cb).inst? q = some i := h
  obtain ⟨j, hj, h1, -⟩ := Cb.status_markIssued (popFrames c.frames).2 h0
  have hk := (Cb.kept_markIssued (popFrames c.frames).2 { c with frames := (popFrames c.frames).1 })
  have hs' := Cb.settled_settle (({ c with frames := (popFrames c.frames).1 } : Cb).markIssued (popFrames c.frames).2)
  have hjs : j.status = some st := h1.trans hs
  refine ⟨j, hs'.closed q j hj (by simp [OpInst.isOpen, hjs]), hjs, ?_⟩
  exact ⟨hs'.kept.ring.trans hk.ring, hs'.kept.idx.trans hk.idx, hs'.kept.nextPos.trans hk.nextPos, hs'.kept.hashes.trans hk.hashes⟩

theorem Cb.closeUp_keys (c : Cb) : c.closeUp.ring = c.ring ∧ c.closeUp.idx = c.idx := by
  have hk := (Cb.kept_markIssued (popFrames c.frames).2 { c with frames := (popFrames c.frames).1 })
  have hs' := Cb.settled_settle (({ c with frames := (popFrames c.frames).1 } : Cb).markIssued (popFrames c.frames).2)
  exact ⟨hs'.kept.ring.trans hk.ring, hs'.kept.idx.trans hk.idx⟩

end Sys2Proof.Machine
end

