-- ==== Sys2Proof/Tests/Slice0.lean ====
section
/-! SUPPORT. Tests on small states: an ill-formed term for each check of WellFormed, and for each statement, clause by clause,
states and operands that meet its hypotheses together, with one or two fields of the one step that it speaks of. -/

namespace Sys2Proof.Tests

-- One declaration after another, for the memory of the stacks.
set_option Elab.async false

open Sys2Proof Sys2Proof.Machine Sys2Proof.Claims

/-! ## Small states -/

/-- The block after INIT_DONE and GBL_CTRL ENABLE. -/
def up : State :=
  { State.reset with glb := { Glb.zero with phase := .run, siDone := true, initDone := true, enable := true } }

/-- The command answers a next state that satisfies `p`. -/
def gives (x : Instr) (s : State) (p : State → Bool) : Bool :=
  match exec x s with
  | .next t => p t
  | _ => false

def regW (k : RegKey) (v : Nat) (s : State) : State := s.setReg k (BitVec.ofNat 32 v)
def poke (a : Nat) (ws : List Word) (s : State) : State := { s with mem := Mem.putBytes s.mem a (wordsBytes ws) }
def withUnit (u : UnitId) (s : State) : State := s.setUnit u ⟨true, true, false, false⟩
def withCtx (n : Nat) (st : CtxState) (s : State) : State := s.setCtx n { Ctx.zero with state := st }

/-- A running command buffer of ring 0 with one operation at 0x1000. -/
def cb0 : Cb :=
  { parseEntry 0 0 0 0 [] with state := .running, ops := 1, ptr := 0x1000, frames := [⟨0x1000, 1, 0, false, 0, 0, 0, none⟩] }

def opC (c : Cb) (m : Rec4) : State := poke 0x1000 (words4 m) { withCtx 0 .enabled up with cbs := [c] }
def opS (m : Rec4) : State := opC cb0 m
def opM (opc : Nat) (fs : List Fld) (w1 w2 w3 : Word) : Rec4 := ⟨word ((63, 56, opc) :: fs), w1, w2, w3⟩

/-- An image of one node: header and node record. -/
def img1 (node : List Word) : List Word := [word [(63, 43, 1)], 0, word [(31, 0, 64)], 0, word [(31, 0, 128)], 0, 0, 0] ++ node
/-- A node record of index 0. -/
def nodeW (pred cls prio : Nat) : List Word := [word [(63, 48, pred), (47, 45, cls), (44, 42, prio)], 0, 0, 0, 0, 0, 0, 0]

def vs (st : VState) (n : Nat) (im : List Word) : VSlot := ⟨st, n, 1, im, [], false⟩
def tplOf (l : List VSlot) : Template := { Template.empty with slots := l, lastVersion := 1 }
/-- Template 0 of context 0 with a CURRENT version in slot 0. -/
def curT (n : Nat) (im : List Word) : Template := tplOf [vs .current n im, VSlot.empty, VSlot.empty, VSlot.empty]

/-- A launch of template 0 in version slot 0. -/
def lau (ctx serial : Nat) : Launch :=
  ⟨ctx, serial, 0, 1, 0, 0, false, false, 0, 0, 0, [], none, false, false, false, false, 0, 0, [], false, false, 0, false, false,
   true, true, none⟩

/-- The state of operation `pos` of command buffer 0 of ring 0. -/
def opStatus (t : State) (pos : Nat) : Option (Option Nat) := ((t.cb? 0 0).bind (·.inst? pos)).map (·.status)

/-! ## Ill-formed commands are refused by WellFormed -/

theorem test_wf_slot : (Instr.launch 16384).wf = false ∧ (Instr.launch 16383).wf = true := by decide
theorem test_wf_ctx : (Instr.launchHoldRelease 64 0).wf = false ∧ (Instr.ctxQuiescent 64).wf = false := by decide
theorem test_wf_tid : (Instr.buildComplete 0 65536).wf = false ∧ (Instr.buildAbort 0 65535).wf = true := by decide
theorem test_wf_path : (Instr.decArrival 21 0 0).wf = false ∧ (Instr.lateArrival 20 16 0).wf = false := by decide
theorem test_wf_shard : (Instr.refill 16 0 false).wf = false ∧ (Instr.walkIssue 15 0).wf = true := by decide
theorem test_wf_list : (Instr.readyRingRefill 0 5 0).wf = false ∧ (Instr.readyLinkToRing 0 4 8).wf = false := by decide
theorem test_wf_engine : (Instr.descriptorLand 1024).wf = false ∧ (Instr.consumerIndexReport 1023 128).wf = false := by decide
theorem test_wf_core : (Instr.cpAck 128).wf = false ∧ (Instr.stationDrainComplete 127).wf = true := by decide
theorem test_wf_fold : (Instr.foldContribution 0 4).wf = false ∧ (Instr.foldWaitAdmit 4 false).wf = false := by decide
theorem test_wf_ring : (Instr.ringDb 8 0).wf = false ∧ (Instr.cbComplete 0 (2 ^ 32)).wf = false := by decide
theorem test_wf_serial : (Instr.launchComplete 0 (2 ^ 20)).wf = false ∧ (Instr.dlmFallbackStart 0 0 16384).wf = false := by decide
theorem test_wf_requester : (Instr.engineSignal 1152 ⟨0, 0, 0, 0⟩).wf = false ∧ (Instr.arrive 1151 ⟨0, 0, 0, 0⟩).wf = true := by decide
theorem test_wf_chip : (Instr.gapTimeout 1024).wf = false ∧ (Instr.orphanTimeout 0 (2 ^ 18)).wf = false := by decide
theorem test_wf_units : (Instr.barrierDrainComplete 64).wf = false ∧ (Instr.groupDrainComplete 256).wf = false := by decide
theorem test_wf_group : (Instr.deadlockDeclare 16).wf = false := by decide
theorem test_wf_queue : (Instr.sendAccept 65536).wf = false ∧ (Instr.headRead 0 32 0).wf = false := by decide
theorem test_wf_throttle : (Instr.thrReq 9).wf = false ∧ (Instr.thrReq 10).wf = true ∧ (Instr.thrReq 16).wf = false := by decide
theorem test_wf_fifo : (Instr.fifoReset 0x7000 []).wf = false := by decide
theorem test_wf_bist : (Instr.selfInitDone 0x1C).wf = false ∧ (Instr.selfInitDone 0x1B).wf = true := by decide
theorem test_wf_offset : (Instr.hostBad .host (2 ^ 20) 4 true).wf = false := by decide
theorem test_wf_scrub : (Instr.scrub 0 0 0 1).wf = false ∧ (Instr.scrub 1 0 0 4).wf = false := by decide
theorem test_wf_wrap : (Instr.counterWrap 24 0 1).wf = false ∧ (Instr.counterWrap 0 0 0).wf = false := by decide
theorem test_wf_watch : (Instr.watch 8 ⟨0, 0, 0, none⟩).wf = false ∧ (Instr.watch 0 ⟨5, 0, 0, none⟩).wf = false := by decide
theorem test_wf_size : (Instr.rcRead .host 0 2).wf = false ∧ (Instr.registerWrite .host 0 16 0).wf = false := by decide

/-! ## The step -/

theorem test_empty_queue : (up.pending = [] ∧ (∀ e ∈ up.lanes, e.2 = []) ∧ (∀ p ∈ up.fab.hold, isAnn p = false) ∧ up.accesses = [] ∧
      up.fab.locked = false) ∧
    (match step up with | .next t => t.hc == 1 && t.hub == up.hub && t.glb == up.glb | _ => false) = true := by decide +kernel

/-! ## Launches and templates -/

def mL : Rec4 := opM 0x01 [] 0 0 0
def sL (t : Template) : State := (opS mL).setTemplate 0 0 t

theorem test_launch_unsupported :
    (Starting (opS mL) cb0 mL ∧ opOPC mL = 0x01 ∧ cb0.skips mL = false ∧ (opS mL).serialBusy 0 = false ∧
      (∀ h ∈ (opS mL).heldLaunches, h.ctx ≠ 0) ∧ ((opS mL).template 0 0).current = none) ∧
    gives (.launch 0) (opS mL) (fun t => opStatus t 0 == some (some stUNSUPPORTED)) = true := by
  unfold Starting SeqInv SeqOk; decide

theorem test_launch_version_busy :
    (Starting (sL (curT 1048575 [])) cb0 mL ∧ (sL (curT 1048575 [])).serialBusy 0 = false ∧
      ((sL (curT 1048575 [])).template 0 0).current = some 0 ∧ 1048575 ≤ ((sL (curT 1048575 [])).vslot 0 0 0).launches) ∧
    gives (.launch 0) (sL (curT 1048575 [])) (fun t => opStatus t 0 == some (some stVERSION_BUSY)) = true := by
  unfold Starting SeqInv SeqOk; decide

theorem test_launch_pins :
    (Starting (sL (curT 1048574 [])) cb0 mL ∧ (sL (curT 1048574 [])).serialBusy 0 = false ∧
      ((sL (curT 1048574 [])).template 0 0).current = some 0 ∧ ((sL (curT 1048574 [])).vslot 0 0 0).launches < 1048575 ∧
      ((sL (curT 1048574 [])).captured 0 0 (bits mL.w2 47 0)).isSome = true) ∧
    gives (.launch 0) (sL (curT 1048574 [])) (fun t => (t.vslot 0 0 0).launches == 1048575 && t.serialNext 0 == 1) = true := by
  unfold Starting SeqInv SeqOk; decide +kernel

/-- A launch of serial 0 in flight holds the next one (R28). -/
def sHeld : State := { sL (curT 1 []) with launches := [lau 0 0] }

theorem test_launch_held :
    (Starting sHeld cb0 mL ∧ sHeld.serialBusy 0 = true) ∧
    gives (.launch 0) sHeld (fun t => t.heldLaunches == [⟨0, 0, 0, 0, mL⟩] && t.launches == [lau 0 0]) = true := by
  unfold Starting SeqInv SeqOk; decide

def sRel : State := { sL (curT 1 []) with heldLaunches := [⟨0, 0, 0, 0, mL⟩] }

theorem test_hold_stays : ({ sRel with launches := [lau 0 0] } : State).serialBusy 0 = true ∧
    gives (.launchHoldRelease 0 0) { sRel with launches := [lau 0 0] } (·.heldLaunches == [⟨0, 0, 0, 0, mL⟩]) = true := by decide

theorem test_hold_release :
    (sRel.running = true ∧ sRel.serialBusy 0 = false ∧ sRel.heldLaunches.find? (fun h => h.ctx == 0) = some ⟨0, 0, 0, 0, mL⟩ ∧
      (sRel.template 0 0).current = some 0 ∧ (sRel.vslot 0 0 0).launches < 1048575 ∧
      (sRel.captured 0 0 (bits mL.w2 47 0)).isSome = true) ∧
    gives (.launchHoldRelease 0 0) sRel (fun t => (t.launch? 0 0).isSome && t.heldLaunches == []) = true := by decide +kernel

/-- Slot 0 CURRENT and pinned, slot 1 BUILDING with a build. -/
def tB (ab : Option (Nat × Nat)) : Template :=
  { tplOf [vs .current 1 [], vs .building 0 [5], VSlot.empty, VSlot.empty] with build := some ⟨1, 0, 0, 0, 0, ab⟩ }
def sB (ab : Option (Nat × Nat)) : State := up.setTemplate 0 0 (tB ab)

theorem test_build_complete :
    ((sB none).running = true ∧ ((sB none).template 0 0).build = some ⟨1, 0, 0, 0, 0, none⟩ ∧
      ((sB none).template 0 0).slots.length = 4 ∧ (((sB none).template 0 0).slot 1).state = .building ∧
      (sB none).buildBad 0 0 1 = none ∧ ((sB none).template 0 0).current = some 0 ∧ 0 < ((sB none).vslot 0 0 0).launches) ∧
    gives (.buildComplete 0 0) (sB none)
      (fun t => (t.vslot 0 0 1).state == .current && (t.vslot 0 0 0).state == .retiring && (t.vslot 0 0 0).launches == 1) = true := by
  decide
/-- The version before it has no launch, so it is FREE at once. -/
def sB0 : State := up.setTemplate 0 0 { tB none with slots := [vs .current 0 [], vs .building 0 [5], VSlot.empty, VSlot.empty] }
theorem test_build_complete_frees : ((sB0.template 0 0).current = some 0 ∧ (sB0.vslot 0 0 0).launches = 0 ∧ sB0.buildBad 0 0 1 = none) ∧
    gives (.buildComplete 0 0) sB0 (fun t => (t.vslot 0 0 0).state == .free) = true := by decide
/-- The page of the version takes no write. -/
def sB1 : State :=
  { up.setTemplate 0 0 { tB none with slots := [VSlot.empty, ⟨.building, 0, 1, [5], [1024], false⟩, VSlot.empty, VSlot.empty] } with
    refuse := [1024 * 4096 / 32] }
theorem test_build_page_refused : (sB1.buildBad 0 0 1).isSome = true ∧
    gives (.buildComplete 0 0) sB1
      (fun t => (t.template 0 0).build.map (·.abort) == some (some (1, 5)) && (t.vslot 0 0 1).state == .building && t.reg K.ERR_CONT == 1) =
      true := by decide

theorem test_build_abort :
    ((sB (some (1, 5))).running = true ∧ ((sB (some (1, 5))).template 0 0).build = some ⟨1, 0, 0, 0, 0, some (1, 5)⟩ ∧
      (((sB (some (1, 5))).template 0 0).slot 1).state = .building) ∧
    gives (.buildAbort 0 0) (sB (some (1, 5)))
      (fun t => (t.vslot 0 0 1).state == .free && (t.vslot 0 0 0).state == .current) = true := by decide

def mPP : Rec4 := opM 0x0E [(30, 30, 1)] 0 0x2000 0
def sPP : State := poke 0x2000 [7] ((opS mPP).setTemplate 0 0 (curT 1 []))

theorem test_patch_param :
    (Starting sPP cb0 mPP ∧ opOPC mPP = 0x0E ∧ bit mPP.w0 30 = true ∧ cb0.skips mPP = false ∧
      (sPP.template 0 (opTID mPP)).current = some 0 ∧ (sPP.readWords (bits mPP.w2 47 0) 16).isSome = true) ∧
    gives .opPatchParam sPP (fun t => (t.template 0 0).defaults.headD 0 == 7 && (t.template 0 0).lastVersion == 1) = true := by
  unfold Starting SeqInv SeqOk; decide

theorem slot_of_empty (k : Nat) : (Template.empty.slot k).state = .free := by
  match k with
  | 0 | 1 | 2 | 3 => rfl
  | n + 4 => rfl

/-- LOAD of a one-node image at 0x2000, into a store with one free page. -/
def mLd : Rec4 := opM 0x0D [] 0 0x2000 0x3000
def sLd : State := regW (K.CTX_TPL_N 0) 1025 (poke 0x2000 (img1 (nodeW 1 0 0)) (opS mLd))

theorem test_load :
    (Starting sLd cb0 mLd ∧ cb0.skips mLd = false ∧ opOPC mLd = 0x0D ∧ (sLd.template 0 0).slots.length = 4 ∧
      sLd.readImage (bits mLd.w2 47 0) = some (img1 (nodeW 1 0 0)) ∧ (sLd.readWords (bits mLd.w3 47 0) 16).isSome = true ∧
      sLd.takePages 0 (imagePages (hdrSize (img1 (nodeW 1 0 0)))) = some [1024]) ∧
    gives .opLoad sLd (fun t => (t.vslot 0 0 0).state == .building && (t.template 0 0).lastVersion == 1) = true := by
  unfold Starting SeqInv SeqOk; decide +kernel

theorem test_load_slots_free : ∀ k, ((sLd.template 0 (opTID mLd)).slot k).state = .free := slot_of_empty

/-- A structural patch of one word, at offset 64. -/
def mPS : Rec4 := opM 0x0E [] 1 0x2000 0
def sPS : State :=
  regW (K.CTX_TPL_N 0) 1026 (poke 0x2000 [64, 0xAB] ((opS mPS).setTemplate 0 0
    (tplOf [⟨.current, 1, 1, img1 (nodeW 1 0 0), [1024], false⟩, VSlot.empty, VSlot.empty, VSlot.empty])))

theorem test_patch_structural :
    (Starting sPS cb0 mPS ∧ cb0.skips mPS = false ∧ opOPC mPS = 0x0E ∧ bit mPS.w0 30 = false ∧
      (sPS.template 0 0).current = some 0 ∧ (sPS.template 0 0).building = false ∧ (sPS.template 0 0).freeSlot = some 1 ∧
      sPS.readWords (bits mPS.w2 47 0) 2 = some [64, 0xAB] ∧
      (∀ e ∈ patchEntries [64, 0xAB], patchOk (hdrSize (sPS.vslot 0 0 0).image) e = true) ∧
      sPS.takePages 0 1 = some [1025]) ∧
    gives .opPatchStructural sPS
      (fun t => wordAt (t.vslot 0 0 1).image 8 == 0xAB && (t.vslot 0 0 1).version == 2) = true := by
  unfold Starting SeqInv SeqOk; decide +kernel

def mUn : Rec4 := opM 0x0F [] 0 0 0
def sUn (n : Nat) : State := (opS mUn).setTemplate 0 0 (curT n [])

theorem test_unload :
    (Starting (sUn 1) cb0 mUn ∧ opOPC mUn = 0x0F ∧ ((sUn 1).template 0 0).building = false ∧
      ((sUn 1).template 0 0).current = some 0) ∧
    gives .opUnload (sUn 1) (fun t => (t.vslot 0 0 0).state == .retiring) = true ∧
    gives .opUnload (sUn 0) (fun t => (t.vslot 0 0 0).state == .free) = true := by
  unfold Starting SeqInv SeqOk; decide

def lC : Launch := { lau 0 3 with cancelled := true }
def sDone (l : Launch) : State := { up.setTemplate 0 0 (curT 1 []) with launches := [l] }

theorem test_launch_complete :
    ((sDone (lau 0 3)).running = true ∧ (sDone (lau 0 3)).launch? 0 3 = some (lau 0 3) ∧ (lau 0 3).fbOf = none ∧
      (∀ j ∈ (sDone (lau 0 3)).launches, j.ctx = 0 → j.serial = 3 → j = lau 0 3) ∧ (sDone (lau 0 3)).launches.Nodup ∧
      (lau 0 3).pinned = true ∧ (sDone (lau 0 3)).launchDone (lau 0 3) = true) ∧
    gives (.launchComplete 0 3) (sDone (lau 0 3)) (fun t => t.launches == [] && (t.vslot 0 0 0).launches == 0) = true := by decide

theorem test_launch_cancel_complete :
    ((sDone lC).launch? 0 3 = some lC ∧ (sDone lC).cancelDone lC = true) ∧
    gives (.launchCancelComplete 0 3) (sDone lC) (fun t => t.launches == [] && (t.vslot 0 0 0).launches == 0) = true := by decide

/-- A RUNNING instance keeps a cancelled launch in flight (R173). -/
theorem test_launch_cancel_waits :
    gives (.launchCancelComplete 0 3)
      ((sDone lC).setSlot 0 0 { Slot.empty with state := .running, ordinal := mkOrdinal 3 0 0 }) (·.launches == [lC]) = true := by
  decide

/-! ## Operations of a command buffer -/

theorem test_nop :
    (Starting (opS (opM 0 [] 0 0 0)) cb0 (opM 0 [] 0 0 0) ∧ cb0.skips (opM 0 [] 0 0 0) = false) ∧
    gives .opNop (opS (opM 0 [] 0 0 0)) (fun t => opStatus t 0 == some (some stOK)) = true := by
  unfold Starting SeqInv SeqOk; decide

theorem test_reserved_opcode :
    (Starting (opS (opM 0x10 [] 0 0 0)) cb0 (opM 0x10 [] 0 0 0) ∧ 0x10 ≤ opOPC (opM 0x10 [] 0 0 0)) ∧
    gives .reservedOpcode (opS (opM 0x10 [] 0 0 0)) (fun t => opStatus t 0 == some (some stUNSUPPORTED)) = true ∧
    gives .reservedOpcode (opS (opM 0xFF [] 0 0 0)) (fun t => opStatus t 0 == some (some stUNSUPPORTED)) = true := by
  unfold Starting SeqInv SeqOk; decide

/-- A WRITE whose condition asks for a set flag is skipped. -/
def mSk : Rec4 := opM 0x07 [(55, 54, 1)] 0 0x2000 9

theorem test_skipped_write :
    (Starting (opS mSk) cb0 mSk ∧ cb0.skips mSk = true ∧ NoneWaits cb0 ∧ opOPC mSk = 0x07) ∧
    gives .opWrite (opS mSk) (fun t => opStatus t 0 == some (some stOK) && t.dmas == [] && t.mem == (opS mSk).mem) = true := by
  unfold Starting SeqInv SeqOk NoneWaits; decide

/-- Both forms of a skipped PATCH. -/
def mSkP (k : Nat) : Rec4 := opM 0x0E [(55, 54, 1), (30, 30, k)] 1 0x2000 0
theorem test_skipped_patch :
    (Starting (opS (mSkP 0)) cb0 (mSkP 0) ∧ cb0.skips (mSkP 0) = true ∧ bit (mSkP 0).w0 30 = false ∧
      Starting (opS (mSkP 1)) cb0 (mSkP 1) ∧ cb0.skips (mSkP 1) = true ∧ bit (mSkP 1).w0 30 = true) ∧
    gives .opPatchStructural (opS (mSkP 0)) (fun t => opStatus t 0 == some (some stOK)) = true ∧
    gives .opPatchParam (opS (mSkP 1)) (fun t => opStatus t 0 == some (some stOK)) = true := by
  unfold Starting SeqInv SeqOk; decide

/-- A LOOP whose condition asks for a clear flag skips its body with it. -/
def cbL : Cb := { cb0 with flag := true, ops := 2, frames := [⟨0x1000, 2, 0, false, 0, 0, 0, none⟩] }
def mSkL : Rec4 := opM 0x0A [(55, 54, 2)] (word [(63, 44, 1), (31, 0, 2)]) 0 0

theorem test_skipped_loop :
    (Starting (opC cbL mSkL) cbL mSkL ∧ cbL.skips mSkL = true ∧ NoneWaits cbL) ∧
    gives .opLoop (opC cbL mSkL) (fun t => (t.cb? 0 0).map (·.frames) == some [⟨0x1000, 2, 2, false, 0, 0, 0, none⟩]) = true := by
  unfold Starting SeqInv SeqOk NoneWaits; decide

def mCp : Rec4 := opM 0x06 [] 0x2000 0x3000 (word [(63, 32, 64)])
def mWr : Rec4 := opM 0x07 [] 0 0x3000 9
def mHs : Rec4 := opM 0x08 [] 0x2000 0 (word [(63, 32, 64)])

theorem test_copy :
    (Starting (opS mCp) cb0 mCp ∧ cb0.skips mCp = false ∧ opOPC mCp = 0x06) ∧
    gives .opCopy (opS mCp) (fun t => t.dmas == [⟨0, 0, 0, 0, 0, 6, 0x2000, 0x3000, 64, 0⟩]) = true := by
  unfold Starting SeqInv SeqOk; decide
theorem test_write :
    (Starting (opS mWr) cb0 mWr ∧ cb0.skips mWr = false ∧ opOPC mWr = 0x07) ∧
    gives .opWrite (opS mWr) (fun t => t.dmas == [⟨0, 0, 0, 0, 0, 7, 0, 0x3000, 8, 9⟩]) = true := by
  unfold Starting SeqInv SeqOk; decide

def cb63 : Cb := { cb0 with hashes := List.replicate 63 (0, 0, ⟨0, 0, 0, 0⟩) }
def cb64 : Cb := { cb0 with hashes := List.replicate 64 (0, 0, ⟨0, 0, 0, 0⟩) }

theorem test_hash :
    (Starting (opC cb63 mHs) cb63 mHs ∧ opOPC mHs = 0x08 ∧ (opC cb63 mHs).hashesOf cb63 < 64) ∧
    gives .opHash (opC cb63 mHs) (fun t => t.dmas == [⟨0, 0, 0, 0, 0, 8, 0x2000, 0, 64, 0⟩]) = true := by
  unfold Starting SeqInv SeqOk; decide +kernel
theorem test_hash_full :
    (Starting (opC cb64 mHs) cb64 mHs ∧ 64 ≤ (opC cb64 mHs).hashesOf cb64) ∧
    gives .opHash (opC cb64 mHs) (fun t => t.dmas == [] && opStatus t 0 == some (some stUNSUPPORTED)) = true := by
  unfold Starting SeqInv SeqOk; decide +kernel

def dCp : Dma := ⟨4, 0, 0, 0, 0, 6, 0x2000, 0x3000, 2, 0⟩
def dWr : Dma := ⟨4, 0, 0, 0, 0, 7, 0, 0x3000, 8, 9⟩
def dHs : Dma := ⟨4, 0, 0, 0, 0, 8, 0x2000, 0, 2, 0⟩
/-- The command buffer of the operation that waits for DMA command 4. -/
def iDm : OpInst := ⟨0, mCp, none, [], 0, none, some 4, true, 0, none, false⟩
def cbDm : Cb := { cb0 with nextPos := 1, insts := [iDm] }
def sD (d : Dma) : State := poke 0x2000 [0x0201] { withCtx 0 .enabled up with dmas := [d], cbs := [cbDm] }

theorem test_dma_copy :
    ((sD dCp).running = true ∧ MemInv (sD dCp) ∧ (sD dCp).dmas.find? (fun e => e.id == 4) = some dCp ∧
      (sD dCp).dmaOk dCp = true ∧ (sD dCp).cb? 0 0 = some cbDm ∧ cbDm.inst? 0 = some iDm ∧ iDm.isOpen = true) ∧
    gives (.dmaComplete 4 false ⟨0, 0, 0, 0⟩) (sD dCp)
      (fun t => t.byteAt 0x3000 == 1 && t.byteAt 0x3001 == 2 && opStatus t 0 == some (some stOK)) = true := by
  unfold MemInv; decide
theorem test_dma_write :
    (MemInv (sD dWr) ∧ (sD dWr).dmaOk dWr = true ∧ dWr.kind = 0x07 ∧ dWr.len = 8) ∧
    gives (.dmaComplete 4 false ⟨0, 0, 0, 0⟩) (sD dWr) (fun t => t.wordAtAddr 0x3000 == 9 && t.dmas == []) = true := by
  unfold MemInv; decide
theorem test_dma_hash : (sD dHs).dmaOk dHs = true ∧ dHs.kind = 0x08 ∧
    gives (.dmaComplete 4 false ⟨0, 0, 0, 0⟩) (sD dHs)
      (fun t => t.mem == (sD dHs).mem && (t.cb? 0 0).map (fun c => c.hashes.map (fun h => (h.1, h.2.1))) == some [(0, 2)]) = true := by decide
theorem test_dma_error :
    gives (.dmaComplete 4 true ⟨0, 0, 0, 0⟩) (sD dCp)
      (fun t => t.reg K.ERR_CONT == 1 && t.mem == (sD dCp).mem && opStatus t 0 == some (some stCANCELLED)) = true := by decide
/-- The destination takes no write. -/
theorem test_dma_refused : ({ sD dCp with refuse := [0x3000 / 32] } : State).dmaOk dCp = false ∧
    gives (.dmaComplete 4 false ⟨0, 0, 0, 0⟩) { sD dCp with refuse := [0x3000 / 32] }
      (fun t => t.reg K.ERR_CONT == 1 && t.mem == (sD dCp).mem && opStatus t 0 == some (some stCANCELLED)) = true := by decide

/-- TEST EQ with memory, and with the iteration number (0 outside a loop). -/
def mTM : Rec4 := opM 0x09 [] 0x2000 7 0
def mTI : Rec4 := opM 0x09 [(30, 28, 3)] 0 7 0

theorem test_test_mem :
    (Starting (poke 0x2000 [7] (opS mTM)) cb0 mTM ∧ opOPC mTM = 0x09 ∧ cb0.skips mTM = false ∧ NoneWaits cb0 ∧
      bits mTM.w0 30 28 = 0 ∧ (poke 0x2000 [7] (opS mTM)).readWords (bits mTM.w1 47 0 / 8 * 8) 1 = some [7] ∧
      testHolds (bits mTM.w0 27 25) 7 mTM.w2 = some true) ∧
    gives .opTest (poke 0x2000 [7] (opS mTM)) (fun t => (t.cb? 0 0).map (·.flag) == some true) = true := by
  unfold Starting SeqInv SeqOk NoneWaits; decide
theorem test_test_iter :
    (Starting (opS mTI) cb0 mTI ∧ bits mTI.w0 30 28 = 3 ∧
      testHolds (bits mTI.w0 27 25) (BitVec.ofNat 64 (innerIter cb0)) mTI.w2 = some false) ∧
    gives .opTest (opS mTI) (fun t => (t.cb? 0 0).map (·.flag) == some false) = true := by
  unfold Starting SeqInv SeqOk; decide

def fr (n : Nat) : List Frame := List.replicate n ⟨0x1000, 1, 0, false, 0, 0, 0, some 0⟩
/-- At depth `n` (the top is depth 0). -/
def cbD (n : Nat) : Cb := { cb0 with nextPos := 1, frames := fr n ++ [⟨0x1000, 1, 0, false, 0, 0, 0, none⟩] }
def mLo : Rec4 := opM 0x0A [] (word [(63, 44, 1), (31, 0, 2)]) 3 0
def mCa : Rec4 := opM 0x0C [] 0x4000 (word [(19, 0, 1)]) 0
def mBr : Rec4 := opM 0x0B [] 0 0 0

theorem test_loop :
    (Starting (opC (cbD 3) mLo) (cbD 3) mLo ∧ (cbD 3).skips mLo = false ∧ (cbD 3).nextAddr = some 0x1000 ∧
      (cbD 3).frames.length ≤ 4 ∧ 0 < bits mLo.w1 31 0 ∧ 0 < bits mLo.w1 63 44) ∧
    gives .opLoop (opC (cbD 3) mLo) (fun t =>
      ((t.cb? 0 0).map (·.frames.headD ⟨0, 0, 0, false, 0, 0, 0, none⟩)) == some ⟨0x1020, 1, 0, true, 2, 0, 3, some 1⟩) = true := by
  unfold Starting SeqInv SeqOk; decide
theorem test_call :
    (Starting (opC (cbD 3) mCa) (cbD 3) mCa ∧ 0 < bits mCa.w2 19 0) ∧
    gives .opCall (opC (cbD 3) mCa) (fun t => ((t.cb? 0 0).map (·.frames.length)) == some 5) = true := by
  unfold Starting SeqInv SeqOk; decide
/-- COUNT 0: the loop has no iteration. -/
def mLo0 : Rec4 := opM 0x0A [] (word [(63, 44, 1), (31, 0, 0)]) 3 0
theorem test_loop_without_iteration :
    (Starting (opC cbL mLo0) cbL mLo0 ∧ cbL.skips mLo0 = false ∧ bits mLo0.w1 31 0 = 0 ∧ cbL.frames.length ≤ 4) ∧
    gives .opLoop (opC cbL mLo0)
      (fun t => opStatus t 0 == some (some stOK) && (t.cb? 0 0).map (·.frames.map (·.pc)) == some [2]) = true := by
  unfold Starting SeqInv SeqOk; decide
theorem test_loop_too_deep :
    (Starting (opC (cbD 4) mLo) (cbD 4) mLo ∧ 5 ≤ (cbD 4).frames.length) ∧
    gives .opLoop (opC (cbD 4) mLo) (fun t => opStatus t 1 == some (some stUNSUPPORTED)) = true := by
  unfold Starting SeqInv SeqOk; decide
/-- At the fourth level the operation behind the body is next. -/
def cbD4 : Cb := { cb0 with nextPos := 1, frames := ⟨0x1000, 4, 0, false, 0, 0, 0, some 0⟩ :: fr 3 ++ [⟨0x1000, 1, 0, false, 0, 0, 0, none⟩] }
theorem test_loop_too_deep_skips :
    (Starting (opC cbD4 mLo) cbD4 mLo ∧ 5 ≤ cbD4.frames.length) ∧
    gives .opLoop (opC cbD4 mLo) (fun t => (t.cb? 0 0).map (fun d => (d.frames.length, d.frames.head?.map (·.pc))) == some (5, some 2)) =
      true := by
  unfold Starting SeqInv SeqOk; decide
theorem test_call_too_deep :
    (Starting (opC (cbD 4) mCa) (cbD 4) mCa ∧ opOPC mCa = 0x0C) ∧
    gives .opCall (opC (cbD 4) mCa) (fun t => opStatus t 1 == some (some stUNSUPPORTED)) = true := by
  unfold Starting SeqInv SeqOk; decide

/-- In a LOOP body: the LOOP stands at position 0. -/
def cbB : Cb :=
  { cb0 with nextPos := 1, frames := [⟨0x1000, 2, 0, true, 3, 0, 1, some 0⟩, ⟨0x2000, 2, 1, false, 0, 0, 0, none⟩] }

theorem test_break :
    (Starting (opC cbB mBr) cbB mBr ∧ cbB.skips mBr = false ∧ opOPC mBr = 0x0B) ∧
    gives .opBreak (opC cbB mBr) (fun t => (t.cb? 0 0).map (·.frames) == some [⟨0x2000, 2, 1, false, 0, 0, 0, none⟩]) = true := by
  unfold Starting SeqInv SeqOk; decide

/-- BREAK in a CALL within the body ends the call with the loop. -/
def cbB2 : Cb := { cbB with nextPos := 2, frames := ⟨0x1000, 3, 0, false, 0, 0, 0, some 1⟩ :: cbB.frames }
theorem test_break_through_call :
    (Starting (opC cbB2 (mBr)) cbB2 mBr ∧ cbB2.skips mBr = false ∧ opOPC mBr = 0x0B) ∧
    gives .opBreak (opC cbB2 mBr) (fun t => (t.cb? 0 0).map (·.frames) == some [⟨0x2000, 2, 1, false, 0, 0, 0, none⟩]) = true := by
  unfold Starting SeqInv SeqOk; decide
theorem test_break_outside :
    (Starting (opC cbL mBr) cbL mBr ∧ (∀ g ∈ cbL.frames, g.isLoop = false)) ∧
    gives .opBreak (opC cbL mBr)
      (fun t => opStatus t 0 == some (some stOK) && (t.cb? 0 0).map (·.frames.map (·.pc)) == some [1]) = true := by
  unfold Starting SeqInv SeqOk; decide

def cbI : Cb :=
  { cb0 with nextPos := 2, events := 3, frames := [⟨0x1000, 1, 1, true, 3, 0, 1, some 0⟩, ⟨0x2000, 2, 1, false, 0, 0, 0, none⟩] }

theorem test_loop_iteration :
    (({ up with cbs := [cbI] } : State).cb? 0 0 = some cbI ∧ cbI.term = none ∧
      cbI.iterDone ⟨0x1000, 1, 1, true, 3, 0, 1, some 0⟩ 0 = true) ∧
    gives (.loopIteration 0 0) { up with cbs := [cbI] } (fun t =>
      (t.cb? 0 0).map (fun d => (d.events, d.frames.length, (d.frames.map (·.iter)))) == some (2, 2, [1, 0])) = true := by decide
def cbI2 : Cb := { cbI with frames := [⟨0x1000, 1, 1, true, 3, 2, 1, some 0⟩, ⟨0x2000, 2, 1, false, 0, 0, 0, none⟩] }
theorem test_loop_last_iteration : ({ up with cbs := [cbI2] } : State).cb? 0 0 = some cbI2 ∧
    gives (.loopIteration 0 0) { up with cbs := [cbI2] } (fun t => t.cbs == [cbI2]) = true := by decide

def sPoi : State := { opS (opM 0 [] 0 0 0) with poison := [0x1000 / 32] }

theorem test_operation_read_error :
    (sPoi.running = true ∧ SeqInv sPoi ∧ sPoi.opWinner = some cb0 ∧ sPoi.cb? 0 0 = some cb0 ∧ cb0.nextAddr = some 0x1000 ∧
      sPoi.opWords 0x1000 = none) ∧
    gives .operationReadError sPoi (fun t => opStatus t 0 == some (some stCANCELLED) && t.reg K.ERR_CONT == 1) = true := by
  unfold SeqInv SeqOk; decide

/-! ## Hub shards -/

/-- Two nodes: node 0 of class TNS with one successor entry and one STABLE input region, node 1 with the ordinal rule given. -/
def img2 (kind tgt rule : Nat) : List Word :=
  [word [(63, 43, 2)], word [(23, 0, 1)], word [(31, 0, 64)], word [(63, 32, 192), (31, 0, 200)], word [(63, 44, 1), (31, 0, 216)],
   0, 0, 0,
   word [(63, 48, 1), (47, 45, 2), (44, 42, 2), (32, 30, 1)], word [(43, 40, 1)], word [(63, 48, 1)], 0, 0xA0, 0xA1, 0, 0,
   word [(63, 48, 2), (47, 45, 2), (32, 30, rule)], word [(63, 44, 1)], 0, 0, 0, 0, 0, 0,
   word [(31, 30, kind), (19, 0, tgt)], word [(47, 0, 0x5000)], word [(63, 32, 256)]]

/-- Launch 3 of context 0 in flight with `im`, and shard 0 enabled. -/
def sH (im : List Word) : State :=
  { withUnit (.shard 0) (withCtx 0 .enabled (up.setTemplate 0 0 (curT 1 im))) with launches := [{ lau 0 3 with outstanding := 1 }] }

def o3 (p : Nat) : Word := mkOrdinal 3 0 p
def arr (k : ArrKind) (node n : Nat) : Arrival := ⟨k, 0, node, o3 0, 0, n, 0x9000, 0, none⟩
def onPath (a : Arrival) (s : State) : State := { s with hub := { s.hub with xbar := [⟨1, 0, a, none⟩] } }

/-- Slot 5 of shard 0 with the instance of node 0. -/
def slotIn (st : SlotState) (cls n : Nat) : Slot := { Slot.empty with state := st, cls := cls, counter := n, ordinal := o3 0, prio := 2 }
def sW (cls n : Nat) (a : Arrival) : State := onPath a ((sH (img2 0 1 1)).setSlot 0 5 (slotIn .waiting cls n))

/-- `Arrives` with the item that heads the path written out. -/
def ArrivesAt (s : State) (src dst : Nat) (a : Arrival) : Prop :=
  s.running = true ∧ s.hub.xbar.find? (·.onPath src dst) = some ⟨src, dst, a, none⟩ ∧ dst < s.shards ∧ s.holdsReady dst a = false
theorem arrives_of {s : State} {src dst : Nat} {a : Arrival} (h : ArrivesAt s src dst a) : Arrives s src dst a :=
  ⟨h.1, ⟨none, h.2.1⟩, h.2.2⟩

theorem test_dec_arrival :
    (ArrivesAt (sW 2 2 (arr .dec 0 1)) 1 0 (arr .dec 0 1) ∧ Live (sW 2 2 (arr .dec 0 1)) (arr .dec 0 1) ∧
      OutOk (sW 2 2 (arr .dec 0 1)) 0 3 ∧ ((sW 2 2 (arr .dec 0 1)).slot 0 5).ctx = 0 ∧
      (sW 2 2 (arr .dec 0 1)).findKey 0 0 0 (o3 0) = some (5, slotIn .waiting 2 2) ∧
      (arr .dec 0 1).count < ((sW 2 2 (arr .dec 0 1)).slot 0 5).counter) ∧
    gives (.decArrival 1 0 0) (sW 2 2 (arr .dec 0 1)) (fun t => (t.slot 0 5).counter == 1 && t.hub.xbar == []) = true := by
  unfold ArrivesAt Live OutOk; decide
theorem test_dec_arrival_last :
    ((arr .dec 0 1).count = ((sW 2 1 (arr .dec 0 1)).slot 0 5).counter ∧ ((sW 2 1 (arr .dec 0 1)).slot 0 5).cls ≠ clsJoin ∧
      ArrivesAt (sW 2 1 (arr .dec 0 1)) 1 0 (arr .dec 0 1) ∧ Live (sW 2 1 (arr .dec 0 1)) (arr .dec 0 1) ∧
      (sW 2 1 (arr .dec 0 1)).readyPlace 0 2 2 ≠ .ring) ∧
    gives (.decArrival 1 0 0) (sW 2 1 (arr .dec 0 1)) (fun t => (t.slot 0 5).state == .ready && t.hub.ready.length == 1) = true := by
  unfold ArrivesAt Live; decide
theorem test_join_walks :
    ((arr .dec 0 1).count = ((sW 7 1 (arr .dec 0 1)).slot 0 5).counter ∧ ((sW 7 1 (arr .dec 0 1)).slot 0 5).cls = clsJoin) ∧
    gives (.decArrival 1 0 0) (sW 7 1 (arr .dec 0 1)) (fun t => (t.slot 0 5).state == .walking && t.hub.ready == []) = true := by
  decide
/-- The entry goes to its ready ring while the ring holds others; it is written at the next position there (R59, R73). -/
def sRg1 : State :=
  let s := sW 2 1 (arr .dec 0 1)
  { s with hub := { s.hub with ready := [⟨0, 2, 2, 0, 0, 6, 1, false, 0, .ring, 0, 0⟩] } }
theorem test_ready_ring_write :
    (ArrivesAt sRg1 1 0 (arr .dec 0 1) ∧ sRg1.readyPlace 0 2 2 = .ring ∧ sRg1.writeOk (sRg1.ringSlot 0 2 2 (sRg1.ringNext 0 2 2)) 16 = true) ∧
    gives (.decArrival 1 0 0) sRg1 (fun t => t.hub.ready.map (·.pos) == [0, 1] && t.mem.length != sRg1.mem.length) = true := by
  unfold ArrivesAt; decide +kernel
/-- With L2 and BP 1 a fifth READY record of the hub cycle is held (R397). -/
def sHr : State :=
  let s := regW K.TRC_CTRL (2 * 2 ^ 30 + 2 ^ 29) (sW 2 1 (arr .dec 0 1))
  { s with obs := { s.obs with budget := 1000, l2Now := 4, budgetHc := s.hc } }
theorem test_arrival_held :
    (sHr.running = true ∧ sHr.hub.xbar.find? (·.onPath 1 0) = some ⟨1, 0, arr .dec 0 1, none⟩ ∧ sHr.holdsReady 0 (arr .dec 0 1) = true) ∧
    gives (.decArrival 1 0 0) sHr (· == sHr) = true := by decide +kernel
/-- LATE brings AMOUNT at once. -/
theorem test_late_arrival :
    ArrivesAt (sW 2 4 (arr .late 0 3)) 1 0 (arr .late 0 3) ∧
    gives (.lateArrival 1 0 0) (sW 2 4 (arr .late 0 3)) (fun t => (t.slot 0 5).counter == 1) = true := by
  unfold ArrivesAt; decide
theorem test_sprout_arrival :
    ArrivesAt (sW 2 2 (arr .sprout 0 0)) 1 0 (arr .sprout 0 0) ∧
    gives (.sproutArrival 1 0 0) (sW 2 2 (arr .sprout 0 0)) (fun t => (t.slot 0 5).counter == 1 && (t.slot 0 5).sprPtr == 0x9000) = true := by
  unfold ArrivesAt; decide

/-- Node 1 has two predecessors. -/
def sN (a : Arrival) : State := onPath a (sH (img2 0 1 1))

theorem test_arrival_creates :
    (ArrivesAt (sN (arr .dec 1 1)) 1 0 (arr .dec 1 1) ∧ Calm (sN (arr .dec 1 1)) ∧ (sN (arr .dec 1 1)).findKey 0 0 1 (o3 0) = none ∧
      (sN (arr .dec 1 1)).mustPark 0 0 = false ∧ (sN (arr .dec 1 1)).pickSlot 0 5 = some 5 ∧
      ((sN (arr .dec 1 1)).launch? 0 3).isSome = true ∧
      (node? ((sN (arr .dec 1 1)).imageOf (lau 0 3)) 1).map (·.pred) = some 2 ∧ (arr .dec 1 1).count < 2 ∧
      (sN (arr .dec 1 1)).nodeBad (lau 0 3) 1 = none ∧ Live (sN (arr .dec 1 1)) (arr .dec 1 1)) ∧
    gives (.decArrival 1 0 5) (sN (arr .dec 1 1)) (fun t => (t.slot 0 5).state == .waiting && (t.slot 0 5).counter == 1) = true := by
  unfold ArrivesAt Calm Live; decide
/-- LATE brings both predecessors, or three where the node has two. -/
theorem test_arrival_creates_ready : ((arr .late 1 2).count = 2 ∧ ArrivesAt (sN (arr .late 1 2)) 1 0 (arr .late 1 2)) ∧
    gives (.lateArrival 1 0 5) (sN (arr .late 1 2)) (fun t => (t.slot 0 5).state == .ready && t.hub.ready.length == 1) = true := by
  unfold ArrivesAt; decide
theorem test_arrival_creates_beyond : (2 < (arr .late 1 3).count ∧ ArrivesAt (sN (arr .late 1 3)) 1 0 (arr .late 1 3)) ∧
    gives (.lateArrival 1 0 5) (sN (arr .late 1 3))
      (fun t => (t.slot 0 5).state == .waiting && (t.slot 0 5).counter == 2 && t.reg (K.SHD_DEC_ZERO 0) == 1) = true := by
  unfold ArrivesAt; decide
theorem test_sprout_arrival_creates :
    ((arr .sprout 1 0).kind = .sprout ∧
      (sN (arr .sprout 1 0)).fld K.SPR_CFG 15 0 < (sN (arr .sprout 1 0)).freeOrdinary 0) ∧
    gives (.sproutArrival 1 0 16383) (sN (arr .sprout 1 0)) (fun t => (t.slot 0 16383).counter == 1) = true := by decide

/-- A shard that is not enabled parks (R56). -/
def sPk : State :=
  regW K.HUB_CFG (2 ^ 20) (regW (K.CEL_CTRL 0) 256 ((sN (arr .dec 1 1)).setUnit (.shard 0) UnitEn.off))

theorem test_arrival_parks :
    (ArrivesAt sPk 1 0 (arr .dec 1 1) ∧ Calm sPk ∧ sPk.findKey 0 0 1 (o3 0) = none ∧ sPk.mustPark 0 0 = true ∧
      sPk.hub.parked = [] ∧ sPk.onBlock 0 < sPk.fld K.HUB_CFG 31 20 * 64 ∧
      sPk.onBlockOf 0 0 < sPk.fld (K.CEL_CTRL 0) 19 8 * 64) ∧
    gives (.decArrival 1 0 5) sPk (fun t => t.hub.parked == [⟨0, 0, 0, false, .edge (arr .dec 1 1)⟩]) = true := by
  unfold ArrivesAt Calm; decide

/-- A sprout arrival is parked as a ONE record (R114). -/
def sPs : State := onPath (arr .sprout 1 0) sPk
theorem test_sprout_arrival_parks : (ArrivesAt sPs 1 0 (arr .sprout 1 0) ∧ sPs.mustPark 0 0 = true) ∧
    gives (.sproutArrival 1 0 5) sPs (fun t => t.hub.parked.map (·.item) == [.spr (oneRec (arr .sprout 1 0) 0)]) = true := by
  unfold ArrivesAt; decide
/-- No on-block room: to the cellar, or lost without room there. -/
def sPc (n : Nat) : State := regW (K.CEL_CTRL 0) 0 (regW (K.CEL_SIZE 0) n sPk)
theorem test_arrival_spills :
    (ArrivesAt (sPc 600) 1 0 (arr .dec 1 1) ∧ (sPc 600).fld (K.CEL_CTRL 0) 19 8 * 64 ≤ (sPc 600).onBlockOf 0 0 ∧
      (sPc 600).celHasRoom 0 0 0 1 = true ∧ (∀ w ∈ spillWrites (sPc 600) 0 0 0 1, (sPc 600).writeOk w.1 w.2 = true)) ∧
    gives (.decArrival 1 0 5) (sPc 600) (fun t => t.hub.parked.map (·.inCellar) == [true] && t.reg (K.CEL_SPILL 0) == 1) = true := by
  unfold ArrivesAt; decide +kernel
theorem test_arrival_lost : (sPc 577).celHasRoom 0 0 0 1 = false ∧
    gives (.decArrival 1 0 5) (sPc 577)
      (fun t => t.reg (K.CEL_LOST 0) == 1 && t.launches.map (fun l => (l.failed, l.cancelled)) == [(true, true)]) = true := by
  decide +kernel
/-- An arrival of a context being saved goes to the cellar (R203). -/
def sSv : State := withCtx 0 .saving (regW (K.CEL_SIZE 0) 600 (sN (arr .dec 1 1)))
theorem test_arrival_of_saved : (sSv.saveHeld 0 = true ∧ ArrivesAt sSv 1 0 (arr .dec 1 1)) ∧
    gives (.decArrival 1 0 5) sSv (fun t => t.hub.parked.map (·.inCellar) == [true] && t.hub.slots == []) = true := by
  unfold ArrivesAt; decide +kernel

def sDr : State := { sN (arr .dec 1 1) with launches := [{ lau 0 3 with cancelled := true }] }

theorem test_arrival_dropped :
    (ArrivesAt sDr 1 0 (arr .dec 1 1) ∧ sDr.dropsItem 0 3 = true) ∧
    gives (.decArrival 1 0 5) sDr (fun t => t.reg (K.SHD_CANCEL_DROP 0) == 1 && t.hub.slots == []) = true := by
  unfold ArrivesAt; decide

/-- COUNTER cannot give more than it has (R68). -/
theorem test_dec_zero : gives (.lateArrival 1 0 0) (sW 2 2 (arr .late 0 3)) (fun t => t.reg (K.SHD_DEC_ZERO 0) == 1) = true := by decide

def pk (a : Arrival) : Parked := ⟨0, 0, 0, false, .edge a⟩
def sRf : State :=
  let s := (sH (img2 0 1 1)).setSlot 0 5 (slotIn .waiting 2 2)
  { s with hub := { s.hub with parked := [pk (arr .dec 0 1)] } }

theorem test_refill :
    (sRf.running = true ∧ (∀ q ∈ sRf.hub.parked, q.shard = 0 → q.ctx = 0) ∧ sRf.saveHeld 0 = false ∧
      sRf.bucketHead 0 0 = some (pk (arr .dec 0 1)) ∧ sRf.dropsItem 0 3 = false ∧
      sRf.findKey 0 0 0 (o3 0) = some (5, slotIn .waiting 2 2) ∧ 1 < (sRf.slot 0 5).counter) ∧
    gives (.refill 0 5 false) sRf (fun t => (t.slot 0 5).counter == 1 && t.hub.parked == []) = true := by decide

/-- An edge record in a pool block of the cellar answered with POISON. -/
def sRp : State :=
  let s := sH (img2 0 1 1)
  { s with hub := { s.hub with parked := [{ pk (arr .dec 0 1) with inCellar := true }], cellar := [((0, 0, 0), ⟨[⟨577, 0, 1⟩]⟩)] } }
theorem test_refill_poison :
    (sRp.bucketHead 0 0 = some { pk (arr .dec 0 1) with inCellar := true } ∧
      sRp.writeOk (addr48 (sRp.celPage 0 1 + 16 * (0 * 4096 + 0))) 16 = true ∧ sRp.writeOk (sRp.celPage 0 0) 16 = true) ∧
    gives (.refill 0 5 true) sRp
      (fun t => t.hub.parked == [] && t.reg K.ERR_CONT == 1 && bit (t.reg K.AUD_UNC) 0 && bit (t.reg K.AUD_UNC) 2) = true := by
  decide +kernel

def rdy (p : Place) : ReadyEntry := ⟨0, 2, 2, 0, 0, 5, 1, false, 0, p, 0, 0⟩
def sRdy (l : List ReadyEntry) : State :=
  let s := (sH (img2 0 1 1)).setSlot 0 5 (slotIn .ready 2 0)
  { s with hub := { s.hub with ready := l }, hc := 2 }

theorem test_ready_ring_refill :
    ((regW (K.DSP_CTXn 0) 65536 (sRdy [rdy .ring])).dirHasRoom 0 = true ∧
      (sRdy [rdy .ring]).hub.ready.find? (fun e => e.inList 0 2 2 && e.place == .ring) = some (rdy .ring)) ∧
    gives (.readyRingRefill 0 2 2) (regW (K.DSP_CTXn 0) 65536 (sRdy [rdy .ring])) (·.hub.ready == [rdy .directory]) = true := by
  decide
theorem test_ready_link_to_ring :
    ((sRdy [rdy .linked]).running = true ∧ (sRdy [rdy .linked]).ringHeld 0 2 2 < 2048 ∧
      (sRdy [rdy .linked]).hub.ready.find? (fun e => e.inList 0 2 2 && e.place == .linked) = some (rdy .linked)) ∧
    gives (.readyLinkToRing 0 2 2) (sRdy [rdy .linked]) (·.hub.ready == [rdy .ring]) = true := by decide +kernel

def h05 : Nat := handleOf 0 5 1
def tok (st : Nat) : Rec4 := ⟨word [(63, 32, h05), (31, 22, 4), (15, 8, st)], 0x7000, 0, 0⟩
def sTok (im : List Word) : State := (sH im).setSlot 0 5 { slotIn .running 2 0 with engine := 4 }

theorem test_token_done :
    (TokenTaken (sTok (img2 0 1 1)) 4 (tok 0) ∧ TokenOk (sTok (img2 0 1 1)) (tok 0) 0 5 ∧ (parseToken (tok 0)).status = 0) ∧
    gives (.tokenIntake 4 (tok 0)) (sTok (img2 0 1 1)) (fun t => (t.slot 0 5).state == .walking && (t.slot 0 5).partialPtr == 0x7000) = true := by
  unfold TokenOk TokenTaken; decide
theorem test_token_yielded :
    ((parseToken (tok 1)).status = 1 ∧ TokenOk (sTok (img2 0 1 1)) (tok 1) 0 5 ∧ (sTok (img2 0 1 1)).dropsItem 0 3 = false) ∧
    gives (.tokenIntake 4 (tok 1)) (sTok (img2 0 1 1))
      (fun t => (t.slot 0 5).state == .ready && t.hub.ready.map (fun e => (e.resume, e.resumeEng)) == [(true, 4)]) = true := by
  unfold TokenOk; decide
theorem test_token_faulted :
    (LrecsOk (sTok (img2 0 1 1)) ∧ TokenOk (sTok (img2 0 1 1)) (tok 2) 0 5 ∧ 2 ≤ (parseToken (tok 2)).status ∧ ((sTok (img2 0 1 1)).launch? 0 3).isSome = true) ∧
    gives (.tokenIntake 4 (tok 2)) (sTok (img2 0 1 1)) (fun t => t.launches.map (·.failed) == [true] && t.reg K.ERR_CONT == 1) = true := by
  unfold TokenOk LrecsOk OutOk; decide
theorem test_token_stale :
    (up.running = true ∧ up.traceHoldsFor (parseToken (tok 0)).ctx = false ∧ (parseToken ⟨0, 0, 0, 0⟩).handle = 0 ∧
      ((sTok []).setSlot 0 5 Slot.empty |>.slot 0 5).gen = hGen (parseToken (tok 0)).handle) ∧
    gives (.tokenIntake 4 ⟨0, 0, 0, 0⟩) up (fun t => t.reg (K.SHD_TOK_STALE 0) == 1) = true ∧
    gives (.tokenIntake 4 (tok 0)) (up.setSlot 0 5 { Slot.empty with gen := 2 }) (fun t => t.reg (K.SHD_TOK_STALE 0) == 1) = true := by
  decide

/-- A duplicate: the instance has ended its run, or ran elsewhere. -/
theorem test_token_dup :
    (TokenTaken (sH []) 4 (tok 0) ∧ ((sH []).setSlot 0 5 (slotIn .walking 2 0) |>.slot 0 5).state ≠ .running) ∧
    gives (.tokenIntake 4 (tok 0)) ((sH []).setSlot 0 5 (slotIn .walking 2 0)) (fun t => t.reg (K.SHD_TOK_DUP 0) == 1) = true := by
  unfold TokenTaken; decide
/-- The token of a yielded task of a cancelled launch frees its slot. -/
def sTc : State := { sTok (img2 0 1 1) with launches := [{ lau 0 3 with cancelled := true }] }
theorem test_token_yielded_cancelled : sTc.dropsItem 0 3 = true ∧
    gives (.tokenIntake 4 (tok 1)) sTc (fun t => (t.slot 0 5).state == .free && t.hub.ready == []) = true := by decide
/-- A token behind a record of its lane waits (R340). -/
def sTl : State := { sTok (img2 0 1 1) with lanes := [((0, 4), [⟨2, ⟨0, 0, 0, 0⟩⟩])] }
theorem test_token_waits : (sTl.running = true ∧ sTl.lane 0 4 ≠ [] ∧ (sTl.lane 0 4).length < 16) ∧
    gives (.tokenIntake 4 (tok 0)) sTl (fun t => t.lane 0 4 == [⟨2, ⟨0, 0, 0, 0⟩⟩, ⟨1, tok 0⟩] && (t.slot 0 5).state == .running) = true := by
  decide

def sWk (im : List Word) (silent : Bool) : State := (sH im).setSlot 0 5 { slotIn .walking 2 0 with silent := silent, partialPtr := 0x7000 }

theorem test_walk_silent :
    ((sWk [] true).running = true ∧ ((sWk [] true).slot 0 5).state = .walking ∧ ((sWk [] true).slot 0 5).silent = true) ∧
    gives (.walkIssue 0 5) (sWk [] true) (fun t => t.slot 0 5 == { Slot.empty with gen := 2 } && t.hub.xbar == []) = true := by decide
theorem test_walk_dec :
    (((sWk (img2 0 1 1) false).slot 0 5).silent = false ∧ ((sWk (img2 0 1 1) false).ctx 0).state ≠ .resetting ∧
      ((sWk (img2 0 1 1) false).launch? 0 3).map (·.cancelled) = some false ∧
      (node? (img2 0 1 1) 0).map (fun n => (n.succCount, n.succBase)) = some (1, 0) ∧
      (sWk (img2 0 1 1) false).hub.remHeld = [] ∧ succ? (img2 0 1 1) 0 = some (0, 1) ∧
      (sWk (img2 0 1 1) false).deriveFor 0 3 1 (o3 0) = some (o3 0)) ∧
    gives (.walkIssue 0 5) (sWk (img2 0 1 1) false)
      (fun t => t.hub.xbar.map (fun x => (x.src, x.arr.node, x.arr.ordinal)) == [(0, 1, o3 0)]) = true := by decide
theorem test_walk_fold :
    succ? (img2 1 0 1) 0 = some (1, 0) ∧
    gives (.walkIssue 0 5) (sWk (img2 1 0 1) false)
      (fun t => (t.foldUnit (foldUnitOf 0 3 0)).routing == [⟨0, 0, 0, 0, 0, o3 0, 0x7000, 0, 0⟩] && t.hub.xbar == []) = true := by decide

/-- A walk with nothing to issue forwards the record that its shard keeps; a silent one drops it. -/
def kept : SprRec := { parseSprout ⟨word [(63, 32, h05), (19, 0, 1)], o3 0, word [(63, 48, 8), (47, 0, 0x9000)], word [(63, 44, 1)]⟩ with rid := 0 }
def img0 : List Word := img1 (nodeW 1 0 0)
def sKp (silent : Bool) : State := let s := sWk img0 silent; { s with hub := { s.hub with sprKept := [(3, kept)] } }
theorem test_walk_forwards :
    ((sKp false).keptOf (handleOf 0 5 1) = [(3, kept)] ∧ (node? img0 0).map (·.succCount) = some 0 ∧ (sKp false).nodeBad (lau 0 3) 0 = none ∧
      OutOk (sKp false) 0 3) ∧
    gives (.walkIssue 0 5) (sKp false) (fun t => t.hub.sprHeld == [(3, kept)] && t.hub.sprKept == []) = true ∧
    gives (.walkIssue 0 5) (sKp true) (fun t => t.hub.sprHeld == [] && t.hub.sprKept == [] && t.reg (K.SHD_CANCEL_DROP 0) == 1) = true := by
  unfold OutOk; decide

/-! ## Dispatch -/

def sDsp : State :=
  let s := regW (K.DSP_ELIMk 2) 4 (withUnit (.station 0) (sRdy [rdy .directory]))
  { s with disp := { s.disp with outOfReset := [4] } }

theorem test_dispatch :
    (sDsp.running = true ∧ sDsp.hub.ready = [rdy .directory] ∧ sDsp.eligible (rdy .directory) = true ∧ sDsp.traceHolds = false ∧
      firstPlace sDsp (rdy .directory) = some (4, true) ∧
      (sDsp.slotLaunch? (sDsp.slot 0 5)).isSome = true ∧ (sDsp.slotNode? (sDsp.slot 0 5)).isSome = true) ∧
    gives .dispatchCycle sDsp (fun t => (t.slot 0 5).state == .running && (t.engine 4).landing.length == 1 && t.hub.ready == []) = true := by
  decide +kernel
theorem sDsp_reads : DispatchReads sDsp := by
  intro q hq l nd hl hn
  simp only [show sDsp.hub.ready = [rdy .directory] from rfl, List.mem_singleton] at hq
  subst hq
  have h : (sDsp.slotLaunch? (sDsp.slot 0 5)).bind (fun l => (sDsp.slotNode? (sDsp.slot 0 5)).bind fun nd => sDsp.dispatchBad l nd) = none := by
    decide +kernel
  have hl' : sDsp.slotLaunch? (sDsp.slot 0 5) = some l := hl
  have hn' : sDsp.slotNode? (sDsp.slot 0 5) = some nd := hn
  rw [hl', hn'] at h
  exact h

/-- A second entry of priority 3 stands before it in the list of lists, and one of class 1 after: the entry of priority 2 goes first. -/
def q3 : ReadyEntry := ⟨0, 2, 3, 0, 0, 6, 1, false, 0, .directory, 0, 0⟩
def q1 : ReadyEntry := ⟨0, 1, 2, 0, 0, 7, 1, false, 0, .directory, 0, 0⟩
def sDs3 : State :=
  let s := (sDsp.setSlot 0 6 { slotIn .ready 2 0 with prio := 3 }).setSlot 0 7 (slotIn .ready 1 0)
  { s with hub := { s.hub with ready := [q3, rdy .directory, q1] } }
theorem test_dispatch_order :
    ((sDs3.hub.ready.map fun q => (q.shard, q.slot)).Nodup ∧ sDs3.eligible (rdy .directory) = true ∧
      firstPlace sDs3 (rdy .directory) = some (4, true) ∧ firstPlace sDs3 q1 = none ∧
      (∀ q ∈ sDs3.hub.ready, sDs3.eligible q = true → comesFirst sDs3 [q3] q (rdy .directory) →
        firstPlace sDs3 q = none ∧ (q.prio < 2 → sDs3.mayPreempt q = false))) ∧
    gives .dispatchCycle sDs3 (fun t => (t.slot 0 5).state == .running && !t.hub.ready.contains (rdy .directory)) = true := by
  unfold comesFirst; decide +kernel
theorem test_dispatch_pointers : sDs3.disp.classPtr < 5 ∧ ∀ kp, Tab.get 0 sDs3.disp.rr kp < 64 := ⟨by decide, fun _ => Nat.zero_lt_of_lt (by decide : 0 < 64)⟩

/-- An express entry finds engine 4 full with a task of priority 2, which is sent PREEMPT. -/
def qX : ReadyEntry := ⟨0, 2, 0, 0, 0, 6, 1, false, 0, .directory, 0, 0⟩
def sPx : State :=
  let s := regW (K.DSP_CTXn 0) (2 ^ 29) (regW (K.DSP_ELIMk 2) 1 (sDsp.setSlot 0 6 { slotIn .ready 2 0 with prio := 0 }))
  let s := s.setSlot 0 5 { slotIn .running 2 0 with engine := 4 }
  { s with hub := { s.hub with ready := [qX] } }
theorem test_dispatch_preempts :
    (sPx.eligible qX = true ∧ sPx.traceHolds = false ∧ firstPlace sPx qX = none ∧ sPx.mayPreempt qX = true ∧ sPx.victim qX = some 4) ∧
    gives .dispatchCycle sPx (fun t => t.disp.pre.map (·.victim) == [some 4] && t.out.length == 1 && t.hub.ready == [qX]) = true := by
  decide +kernel

theorem test_dispatch_idle : up.hub.ready = [] ∧
    gives .dispatchCycle { up with disp := { up.disp with classPtr := 4 } } (fun t => t.disp.classPtr == 0) = true := by decide +kernel

def lnd : Landing := ⟨0, 5, 1, ⟨1, 2, 3, 4, 5, 6, 7, 8⟩⟩
def sLnd : State := (sTok (img2 0 1 1)).setEngine 4 ⟨127, 127, [lnd]⟩

theorem test_descriptor_land :
    (sLnd.running = true ∧ MemInv sLnd ∧ (sLnd.engine 4).landing = [lnd] ∧ sLnd.traceHoldsFor (sLnd.slot 0 5).ctx = false ∧
      sLnd.writeOk (sLnd.wqAddr 4 127) 64 = true) ∧
    gives (.descriptorLand 4) sLnd (fun t => (t.engine 4).pi == 0 && t.wordAtAddr (sLnd.wqAddr 4 127 + 8) == 2) = true := by
  unfold MemInv; decide
theorem test_consumer_index : gives (.consumerIndexReport 4 127) up (fun t => (t.engine 4).ci == 127) = true := by decide

def pst (v c : Option Nat) : PreStage := ⟨0, 5, 1, 0, 2, v, c, [], 0, false, false⟩
def sPre (p : PreStage) : State := { up with disp := { up.disp with pre := [p] }, tb := 10 ^ 9 }

theorem test_ack_yield :
    gives (.ackYield 4 (BitVec.ofNat 32 h05)) (sPre (pst (some 4) none))
      (fun t => t.fld (K.STN_PREEMPT 0) 31 16 == 1 && t.disp.pre.map (·.answered) == [true]) = true := by decide
theorem test_nack :
    ((sPre (pst (some 4) none)).disp.pre.find? (·.forVictim 4 (BitVec.ofNat 32 h05)) = some (pst (some 4) none) ∧
      (sPre (pst (some 4) none)).flag (K.DSP_CTXn 0) 28 = false) ∧
    gives (.nack 4 (BitVec.ofNat 32 h05)) (sPre (pst (some 4) none)) (fun t => t.disp.pre == [] && t.disp.preDone == [(0, 5, 1)]) = true := by
  decide
theorem test_cp_ack : gives (.cpAck 3) (sPre (pst none (some 3))) (fun t => t.disp.pre.map (·.answered) == [true]) = true := by decide
theorem test_preempt_timeout :
    ((sPre (pst (some 4) none)).disp.pre.find? (fun p => p.victim == some 4 && p.expired (sPre (pst (some 4) none))) =
      some (pst (some 4) none)) ∧
    gives (.preemptTimeout 4) (sPre (pst (some 4) none)) (fun t => t.fld (K.STN_TIMEOUT 0) 31 16 == 1 && t.disp.pre == []) = true := by
  decide
theorem test_cp_irq_timeout :
    ((sPre (pst none (some 3))).disp.pre.find?
      (fun p => p.core == some 3 && p.expired (sPre (pst none (some 3)))) = some (pst none (some 3))) ∧
    gives (.cpIrqTimeout 3) (sPre (pst none (some 3))) (fun t => t.fld (K.STN_TIMEOUT 3) 15 0 == 1 && t.disp.pre == []) = true := by
  decide

/-- A stage that was answered and served ends uncounted. -/
def pstA (v c : Option Nat) : PreStage := { pst v c with answered := true, acked := true }
theorem test_stage_served :
    gives (.preemptTimeout 4) (sPre (pstA (some 4) none)) (fun t => t.fld (K.STN_TIMEOUT 0) 31 16 == 0 && t.disp.pre == []) = true ∧
    gives (.cpIrqTimeout 3) (sPre (pstA none (some 3))) (fun t => t.fld (K.STN_TIMEOUT 3) 15 0 == 0 && t.disp.pre == []) = true := by decide

/-- A steep request of a WAITING instance at the station of core 0, with one 4 KiB of steep area. -/
def sStp : State :=
  let s := regW (K.STN_AREA 0) 0 (regW (K.STN_STEEP_SZ 0) 1 (regW K.DSP_CFG 256 (withUnit (.station 0)
    ((sH (img2 0 1 1)).setSlot 0 5 (slotIn .waiting 2 1)))))
  { s with disp := { s.disp with steepReqs := [⟨0, 5, 1, 0⟩] } }

theorem test_steep_request :
    (sStp.running = true ∧ Calm sStp ∧ (sStp.slot 0 5).gen = 1 ∧ (sStp.slotLaunch? (sStp.slot 0 5)).isSome = true ∧
      (sStp.slotNode? (sStp.slot 0 5)).map (sStp.steepRegions (img2 0 1 1)) = some [(0, ⟨false, 0, 0x5000, 256⟩)] ∧
      granules [(0, (⟨false, 0, 0x5000, 256⟩ : Region))] = 1 ∧ sStp.active (.station 0) = true ∧ sStp.admits 0 0 = true ∧
      sStp.dispatchBad (lau 0 3) (parseNode (nodeW 1 0 0)) = none ∧ Tab.get 0 sStp.disp.steepHc 0 ≠ sStp.hc + 1 ∧ sStp.granPick 0 255 1 = some 255) ∧
    gives (.steepRequest 0 255) sStp
      (fun t => t.disp.steeps == [⟨0, 5, 1, 0, 0, 255, 1, 1, false, none, false, [(0x5000, 256)]⟩] && t.out == [.steepRead 0 0x5000 256 0]) = true := by
  unfold Calm; decide

def stp : Steep := ⟨0, 5, 1, 0, 0, 255, 1, 1, false, none, false, [(0x5000, 256)]⟩
def sSta : State := { sStp with disp := { sStp.disp with steepReqs := [], steeps := [stp] } }

theorem test_steep_write_ack :
    (sSta.disp.steeps.find? (fun t => t.shard == 0 && t.slot == 5 && !t.acked) = some stp ∧ stp.gone = false ∧ stp.granted = none) ∧
    gives (.steepWriteAck 0 5) sSta (fun t => t.disp.steeps.map (·.acked) == [true]) = true := by decide +kernel
theorem test_steep_area : sSta.stagedBad stp = none ∧ granArea stp = 256 ∧ sSta.writeOk (scratchBase 0 + 255 * 256) 256 = true := by
  decide
/-- The source reads as POISON. -/
def sStb : State := { sSta with poison := [0x5000 / 32] }
theorem test_steep_poison : (sStb.stagedBad stp).isSome = true ∧
    gives (.steepWriteAck 0 5) sStb (fun t => t.disp.steeps.map (·.granted) == [some false] && t.reg K.ERR_CONT == 1) = true := by
  decide +kernel

/-- Instance `i` of window type `ty` selected by the host. -/
def selW (ty i : Nat) (s : State) : State :=
  s.setSel .host { Selector.zero with winSel := BitVec.ofNat 32 (ty * 2 ^ 28 + i) }

theorem test_context_mask_write :
    ((selW 5 127 up).live = true ∧ (selW 5 127 up).glb.phase ≠ .boot ∧ (selW 5 127 up).winInst .host 5 = some 127) ∧
    gives (.stnCtxmWrite .host false 1) (selW 5 127 up) (fun t => t.reg (K.STN_CTXM_LO 127) == 1 && t.disp.switching == [127]) = true ∧
    gives (.stnCtxmWrite .host true 2) (selW 5 127 up) (fun t => t.reg (K.STN_CTXM_HI 127) == 2 && t.mask 127 == allCtxs) = true := by
  decide
theorem test_context_mask_apply :
    gives (.ctxMaskApply 3) (regW (K.STN_CTXM_LO 3) 5 (regW (K.STN_CTXM_HI 3) 1 { up with disp := { up.disp with switching := [3] } }))
      (fun t => t.mask 3 == 2 ^ 32 + 5 && t.disp.switching == []) = true := by decide

/-! ## Enables and drains -/

theorem enables_listed :
    (.stnCtrlEnableWrite .host 1, .station 127) ∈ enables (selW 5 127 up) 1 ∧ (.shdCtrlEnableWrite .host 1, .shard 15) ∈ enables (selW 3 15 up) 1 ∧
      (.ringCtrlEnableWrite 7 1, .ring 7) ∈ enables up 1 ∧ (.barCtrlEnableWrite .host 1, .bar 63) ∈ enables (selW 8 63 up) 1 ∧
      (.grpCtrlEnableWrite .host 1, .grp 255) ∈ enables (selW 8 511 up) 1 := by decide +kernel

def inPhase (p : Phase) (en : Bool) (s : State) : State := { s with glb := { s.glb with phase := p, enable := en } }

theorem test_enable_in_setup : gives (.ringCtrlEnableWrite 7 1) (inPhase .setup false up) (fun t => t.en == []) = true := by decide
theorem test_enable_before_run : (inPhase .ready false up).live = true ∧
    gives (.ringCtrlEnableWrite 7 1) (inPhase .ready false up) (fun t => t.unit (.ring 7) == ⟨true, false, false, false⟩) = true := by
  decide
theorem test_enable : (selW 5 127 up).unit (.station 127) = UnitEn.off ∧
    gives (.stnCtrlEnableWrite .host 1) (selW 5 127 up) (fun t => t.unit (.station 127) == ⟨true, true, false, false⟩) = true ∧
    gives (.shdCtrlEnableWrite .host 1) (selW 3 15 up) (fun t => t.unit (.shard 15) == ⟨true, true, false, false⟩) = true ∧
    gives (.barCtrlEnableWrite .host 1) (selW 8 63 up) (fun t => t.unit (.bar 63) == ⟨true, true, false, false⟩) = true ∧
    gives (.grpCtrlEnableWrite .host 1) (selW 8 511 up) (fun t => t.unit (.grp 255) == ⟨true, true, false, false⟩) = true := by decide
theorem test_enable_zero_drains :
    gives (.ringCtrlEnableWrite 7 0) (withUnit (.ring 7) up) (fun t => t.unit (.ring 7) == ⟨false, true, true, false⟩) = true := by decide
theorem test_enable_pending :
    gives (.ringCtrlEnableWrite 7 1) (up.setUnit (.ring 7) ⟨false, true, true, false⟩)
      (fun t => t.unit (.ring 7) == ⟨true, true, true, true⟩) = true := by decide

theorem drains_listed :
    (.stationDrainComplete 3, .station 3, true) ∈ drains up 3 ∧ (.shardDrainComplete 3, .shard 3, true) ∈ drains up 3 ∧
      (.ringDrainComplete 3, .ring 3, true) ∈ drains up 3 ∧ (.barrierDrainComplete 3, .bar 3, true) ∈ drains up 3 ∧
      (.groupDrainComplete 3, .grp 3, true) ∈ drains up 3 ∧
      (.ringDrainComplete 0, .ring 0, false) ∈ drains (opS (opM 0 [] 0 0 0)) 0 := by decide

def draining (u : UnitId) (p : Bool) (s : State) : State := s.setUnit u ⟨p, true, true, p⟩

theorem test_drain_completes :
    gives (.stationDrainComplete 3) (draining (.station 3) false up) (fun t => t.unit (.station 3) == UnitEn.off) = true ∧
    gives (.shardDrainComplete 3) (draining (.shard 3) true up) (fun t => t.unit (.shard 3) == ⟨true, true, false, false⟩) = true ∧
    gives (.ringDrainComplete 3) (draining (.ring 3) false up) (fun t => t.unit (.ring 3) == UnitEn.off) = true ∧
    gives (.barrierDrainComplete 3) (draining (.bar 3) true up) (fun t => t.unit (.bar 3) == ⟨true, true, false, false⟩) = true ∧
    gives (.groupDrainComplete 3) (draining (.grp 3) false up) (fun t => t.unit (.grp 3) == UnitEn.off) = true := by decide

/-! ## Sprouting -/

/-- A SPROUT record of node 1 (ORD_RULE TREE) with `n` instances from the running task of slot 5. -/
def sprR (n : Nat) : Rec4 := ⟨word [(63, 32, h05), (19, 0, 1)], o3 0, word [(63, 48, 8), (47, 0, 0x9000)], word [(63, 44, n)]⟩
def sSpr : State := (sH (img2 0 1 3)).setSlot 0 5 { slotIn .running 0 0 with engine := 0 }

theorem test_sprout_intake :
    (sSpr.running = true ∧ sSpr.traceHoldsFor 0 = false ∧ sSpr.producerBad h05 0 0 = false ∧ (sSpr.slot 0 5).cls = 0 ∧
      (sSpr.ctx 0).state ≠ .resetting ∧ (sSpr.launch? 0 3).map (·.cancelled) = some false ∧ (parseSprout (sprR 0xFFF)).kind < 2 ∧
      (parseSprout (sprR 0xFFF)).node < hdrNodes (img2 0 1 3) ∧ ordSerial (parseSprout (sprR 0xFFF)).baseOrd = 3 ∧
      (node? (img2 0 1 3) 1).map (fun nd => sproutRefused (hdrHops (img2 0 1 3)) nd (parseSprout (sprR 0xFFF))) = some false) ∧
    gives (.sproutRecordIntake 0 (sprR 0xFFF)) sSpr (fun t => t.hub.sprKept.length == 1 && t.reg (K.SPR_RECn 0) == 1) = true := by
  decide
theorem test_sprout_taken : SproutTaken sSpr 0 (sprR 0xFFF) 0 5 ∧ OutOk sSpr 0 3 ∧ sSpr.nodeBad (lau 0 3) 1 = none := by
  unfold SproutTaken OutOk; decide
/-- COUNT 0 breaks a rule of Table 04-2. -/
theorem test_sprout_intake_refused : SproutTaken sSpr 0 (sprR 0) 0 5 ∧
    (node? (img2 0 1 3) 1).map (fun nd => sproutRefused (hdrHops (img2 0 1 3)) nd (parseSprout (sprR 0))) = some true ∧
    gives (.sproutRecordIntake 0 (sprR 0)) sSpr
      (fun t => t.fld (K.SPR_ERRn 0) 31 16 == 1 && t.launches.map (·.failed) == [true] && t.hub.sprKept == []) = true := by
  unfold SproutTaken; decide
def sSpc : State := { sSpr with launches := [{ lau 0 3 with cancelled := true }] }
theorem test_sprout_intake_cancelled : (SproutTaken sSpc 0 (sprR 1) 0 5 ∧ sSpc.dropsItem 0 3 = true) ∧
    gives (.sproutRecordIntake 0 (sprR 1)) sSpc (fun t => t.reg (K.SHD_CANCEL_DROP 0) == 1 && t.hub.sprKept == []) = true := by
  unfold SproutTaken; decide
def sSpl : State := { sSpr with lanes := [((0, 0), [⟨1, tok 0⟩])] }
theorem test_sprout_intake_waits : (sSpl.lane 0 0 ≠ [] ∧ (sSpl.lane 0 0).length < 16) ∧
    gives (.sproutRecordIntake 0 (sprR 1)) sSpl (fun t => t.lane 0 0 == [⟨1, tok 0⟩, ⟨2, sprR 1⟩] && t.hub.sprKept == []) = true := by
  decide
theorem test_sprout_intake_stale : up.producerBad h05 0 0 = true ∧
    gives (.sproutRecordIntake 0 (sprR 1)) up (fun t => t.fld (K.SPR_ERRn 0) 15 0 == 1 && t.hub.sprHeld == []) = true := by decide

def rec3 (n : Nat) : SprRec := { parseSprout (sprR n) with rid := 0, rule := 3 }
def sExp : State :=
  let s := regW (K.SPR_CTXn 0) (2 ^ 19) sSpr
  { s with hub := { s.hub with sprHeld := [(0, rec3 1)] } }
def sIss (n : Nat) : State := { sSpr with hub := { sSpr.hub with sprQueue := [(0, rec3 n)] } }

theorem test_sprout_expansion :
    (sExp.running = true ∧ sExp.hub.sprHeld.find? (fun q => q.1 == 0) = some (0, rec3 1) ∧ sExp.dropsItem 0 3 = false ∧
      (sExp.hub.sprQueue.filter fun q => q.1 == 0).length < 64 ∧ sExp.hasParked 0 0 = false ∧ sExp.treeOk (rec3 1) = true) ∧
    gives (.sproutExpansionEntry 0) sExp (fun t => t.hub.sprQueue == [(0, rec3 1)] && t.hub.sprHeld == []) = true := by decide
/-- No tree entry may be taken: the record is parked. -/
def sExp0 : State := regW K.HUB_CFG (2 ^ 20) (regW (K.CEL_CTRL 0) 256 (regW (K.SPR_CTXn 0) 0 sExp))
theorem test_sprout_expansion_parks : (sExp0.treeOk (rec3 1) = false ∧ sExp0.hub.parked = [] ∧
      sExp0.onBlock 0 < sExp0.fld K.HUB_CFG 31 20 * 64 ∧ sExp0.onBlockOf 0 0 < sExp0.fld (K.CEL_CTRL 0) 19 8 * 64) ∧
    gives (.sproutExpansionEntry 0) sExp0 (fun t => t.hub.sprQueue == [] && t.hub.parked.map (·.item) == [.spr (rec3 1)]) = true := by decide
def sExpc : State := { sExp with launches := [{ lau 0 3 with cancelled := true }] }
theorem test_sprout_expansion_drops : sExpc.dropsItem 0 3 = true ∧
    gives (.sproutExpansionEntry 0) sExpc (fun t => t.reg (K.SHD_CANCEL_DROP 0) == 1 && t.hub.sprHeld == [] && t.hub.sprQueue == []) = true := by
  decide
/-- A LATE record of amount 3. -/
def recL : SprRec := { rec3 1 with kind := 1, amount := 3 }
def sIsl : State := { sSpr with hub := { sSpr.hub with sprQueue := [(0, recL)] } }
theorem test_sprout_issue_late : sIsl.nextIssue 0 = some recL ∧
    gives (.sproutIssue 0) sIsl
      (fun t => t.hub.sprQueue == [] && t.hub.xbar.map (fun x => (x.arr.kind, x.arr.amount)) == [(.late, 3)]) = true := by decide
/-- The next instance lies in the same tree. -/
def recK : SprRec := { rec3 2 with rule := 0 }
def sIsk : State := { sSpr with hub := { sSpr.hub with sprQueue := [(0, recK)] } }
theorem test_sprout_issue_stays : (sIsk.nextIssue 0 = some recK ∧ ({ recK with next := 1 } : SprRec).key = recK.key) ∧
    gives (.sproutIssue 0) sIsk (fun t => t.hub.sprQueue == [(0, { recK with next := 1 })]) = true := by decide
theorem test_sprout_issue_last :
    ((sIss 1).nextIssue 0 = some (rec3 1) ∧ (sIss 1).dropsItem 0 3 = false ∧ (rec3 1).kind = 0 ∧
      (sproutInstance (sIss 1) 0 (rec3 1) 0).isSome = true ∧ (rec3 1).count ≤ (rec3 1).next + 1) ∧
    gives (.sproutIssue 0) (sIss 1) (fun t => t.hub.sprQueue == [] && t.hub.xbar.map (·.arr.ptr) == [0x9000]) = true := by decide
theorem test_sprout_issue_next :
    ((sIss 2).nextIssue 0 = some (rec3 2) ∧ (rec3 2).next + 1 < (rec3 2).count ∧
      (sproutInstance (sIss 2) 0 (rec3 2) 0).isSome = true) ∧
    gives (.sproutIssue 0) (sIss 2) (fun t => t.hub.xbar.length == 1) = true := by decide

/-! ## Ordered fold -/

def fdW : List Word := [word [(63, 44, 1), (22, 17, 3)], word [(47, 32, 15), (31, 16, 2)], 0, word [(63, 32, 32)]]
def fdD : FoldDesc := parseFoldDesc fdW
def fIt (node p : Nat) : FoldItem := ⟨0, node, 0, 0, 0, o3 p, 0x7000, 0, 0⟩
def fGr (so : Word) (n : Nat) : FGroup :=
  ⟨0, 3, 0, 0, 0, .opened, false, false, so, n, 0, fdD, [], [], none, [], false, false⟩
/-- Fold unit 1 with a descriptor table of one entry at 0x6000. -/
def sF (w : FoldUnit) : State :=
  (regW (K.FLDW_TBL_LO 0) 0x6000 (regW (K.FLDW_TBL_N 0) 1 (poke 0x6000 fdW (sH (img2 1 0 1))))).setFoldUnit 1 w

def fC : State := sF ⟨[fIt 0 5], [], [fGr (o3 5) 1], [], 63⟩

theorem test_fold_contribution :
    (fC.running = true ∧ (fC.foldUnit 1).routing.find? (fun i => i.srcShard == 0) = some (fIt 0 5) ∧ fC.firstAdmit? 1 = none ∧
      fC.viewItem (fIt 0 5) = .part fdD (o3 5) ∧ keyOutside (fIt 0 5) fdD = false ∧ fC.saveHeld 0 = false ∧
      (fC.foldUnit 1).groupOf (fIt 0 5) (o3 5) = some (fGr (o3 5) 1) ∧ (fC.foldUnit 1).group? 0 = some (fGr (o3 5) 1) ∧
      (fGr (o3 5) 1).accepted < fdD.window) ∧
    gives (.foldContribution 0 1) fC
      (fun t => ((t.foldUnit 1).groups.map fun g => (g.accepted, g.leaves)) == [(2, [⟨5, some (0x7000, 0)⟩])]) = true := by decide

theorem test_fold_taken : (InGroup fC 1 (fIt 0 5) (o3 5) (fGr (o3 5) 1) ∧ TakesKey (fGr (o3 5) 1) (fIt 0 5) ∧ OutOk fC 0 3) := by
  unfold InGroup TakesKey OutOk; decide
/-- The key is decided already; the window is full; no group may open. -/
def fDu : State := sF ⟨[fIt 0 5], [], [{ fGr (o3 5) 1 with leaves := [⟨5, none⟩] }], [], 63⟩
theorem test_fold_duplicate : (∃ l ∈ ({ fGr (o3 5) 1 with leaves := [⟨5, none⟩] } : FGroup).leaves, l.key = bits (fIt 0 5).ordinal fdD.keyHi fdD.keyLo) ∧
    gives (.foldContribution 0 1) fDu (fun t => t.reg (K.FLDW_DUP 0) == 1 && t.launches.map (·.failed) == [true]) = true := by decide
def fOv : State := sF ⟨[fIt 0 5], [], [fGr (o3 5) 32], [], 63⟩
theorem test_fold_beyond_window : (fGr (o3 5) 32).d.window ≤ (fGr (o3 5) 32).accepted ∧
    gives (.foldContribution 0 1) fOv (fun t => t.reg (K.FLDW_OVER 0) == 1 && t.launches.map (·.failed) == [true]) = true := by decide
/-- A group of another ordinal holds all slots, and another item of the context waits. -/
def gFull : FGroup := { fGr (o3 4) 1 with d := { fdD with window := 16384 } }
def fWa (n : Nat) : State := regW (K.FLDW_WAIT_LO 0) 0xB000 (regW (K.FLDW_WAIT_N 0) n (sF ⟨[fIt 0 5], [fIt 0 9], [gFull], [], 63⟩))
theorem test_fold_waits :
    (((fWa 2).foldUnit 1).groupOf (fIt 0 5) (o3 5) = none ∧ (fWa 2).firstAdmit? 1 = none ∧ (∃ j ∈ ((fWa 2).foldUnit 1).waiting, j.ctx = 0) ∧
      (fWa 2).foldWaiting 0 < ((fWa 2).reg (K.FLDW_WAIT_N 0)).toNat ∧ (fWa 2).writeOk ((fWa 2).waitAddr 0 ((fWa 2).waitPos 0)) 32 = true) ∧
    gives (.foldContribution 0 1) (fWa 2) (fun t => (t.foldUnit 1).waiting.map (·.pos) == [0, 1] && (t.foldUnit 1).routing == []) = true := by
  decide +kernel
theorem test_fold_wait_full : ((fWa 1).reg (K.FLDW_WAIT_N 0)).toNat ≤ (fWa 1).foldWaiting 0 ∧
    gives (.foldContribution 0 1) (fWa 1) (fun t => t.reg (K.FLDW_LOST 0) == 1 && t.launches.map (·.failed) == [true]) = true := by
  decide +kernel

def fS : State := sF ⟨[fIt 1 5], [], [fGr (o3 5) 1], [], 63⟩

theorem test_fold_seal :
    (fS.viewItem (fIt 1 5) = .isSeal fdD ∧ fS.firstAdmit? 1 = none ∧ (fS.foldUnit 1).groupOf (fIt 1 5) (o3 5) = some (fGr (o3 5) 1)) ∧
    gives (.foldSeal 0 1) fS (fun t => t.reg (K.FLDW_ACCEPT 0) == 1 && (t.foldUnit 1).routing == []) = true := by decide

def fA : State := sF ⟨[], [fIt 0 5], [fGr (o3 5) 1], [], 63⟩
def fX : State := { fA with launches := [{ lau 0 3 with cancelled := true }] }

theorem test_fold_admit :
    (fA.running = true ∧ fA.firstAdmit? 1 = some (fIt 0 5) ∧ fA.viewItem (fIt 0 5) = .part fdD (o3 5)) ∧
    gives (.foldWaitAdmit 1 false) fA (fun t => (t.foldUnit 1).waiting == [] && (t.foldUnit 1).groups.map (·.accepted) == [2]) = true := by
  decide
theorem test_fold_admit_poison :
    gives (.foldWaitAdmit 1 true) fA (fun t => (t.foldUnit 1).waiting == [] && bit (t.reg K.AUD_UNC) 3) = true := by decide
theorem test_fold_admit_cancelled : (fX.firstAdmit? 1 = some (fIt 0 5) ∧ fX.viewItem (fIt 0 5) = .cancelled) ∧
    gives (.foldWaitAdmit 1 false) fX (fun t => t.reg (K.FLDW_CANCEL 0) == 1) = true := by decide

def fq (fin : Bool) (e : Option Nat) : FReq := ⟨0, fin, 1, 0, 0, 0x7000, 0x7100, 0, 1, e⟩
def fR (q : FReq) : State := sF ⟨[], [], [fGr (o3 5) 2], [q], 63⟩

theorem test_combine_issue :
    ((fR (fq false none)).issuable 1 = [fq false none] ∧ ((fR (fq false none)).foldUnit 1).group? 0 = some (fGr (o3 5) 2) ∧
      engClass 1023 = 4 ∧ (fR (fq false none)).combinesTo 1023 < 8 ∧ (fR (fq false none)).traceHoldsFor 0 = false) ∧
    gives (.combineRequestIssue 1 1023 0) (fR (fq false none)) (fun t => (t.foldUnit 1).reqs == [fq false (some 1023)]) = true := by
  decide

def cAckN : Rec4 := ⟨word [(63, 54, 7), (53, 52, 1), (51, 38, (fq false none).tag)], 0, 0, 0⟩
theorem test_combine_ack_node : ((fGr (o3 5) 2).state = .opened ∧ (fGr (o3 5) 2).arrival = false ∧ (fq false (some 7)).fin = false) ∧
    gives (.combineAck 7 cAckN) (fR (fq false (some 7))) (fun t => ((t.foldUnit 1).groups.map (·.combined)) == [[(1, 0)]]) = true := by decide

def cAck (st : Nat) : Rec4 := ⟨word [(63, 54, 7), (53, 52, 1), (51, 38, (fq true none).tag), (37, 30, st)], 0, 0, 0⟩

theorem test_combine_ack_finish :
    ((fR (fq true (some 7))).running = true ∧
      ((fR (fq true (some 7))).foldUnit 1).reqs.find? (fun q => q.eng == some (bits (cAck 0).w0 63 54) && q.tag == bits (cAck 0).w0 51 38) =
        some (fq true (some 7)) ∧ (fGr (o3 5) 2).dead = false ∧ (fGr (o3 5) 2).d.doneEn = false) ∧
    gives (.combineAck 7 (cAck 0)) (fR (fq true (some 7))) (fun t => (t.foldUnit 1).groups == [] && (t.foldUnit 1).reqs == []) = true := by
  decide
theorem test_combine_ack_fault : (bits (cAck 1).w0 37 30 ≠ 0 ∧ ((fR (fq true (some 7))).launch? 0 3).isSome = true) ∧
    gives (.combineAck 7 (cAck 1)) (fR (fq true (some 7))) (fun t => t.reg (K.FLDW_FAULT 0) == 1 && t.launches.map (·.failed) == [true]) = true := by
  decide

/-! ## Rings and command buffers -/

/-- Ring 0 with 16 entries at 0x8000, enabled. -/
def sRg (x : Ring) : State :=
  regW (K.RING_SIZE 0) 16 (regW (K.RING_BASE_LO 0) 0x8000 (withUnit (.ring 0) ((withCtx 0 .enabled up).setRing 0 x)))
def rg (db fetch : Nat) : Ring := { Ring.zero with db := db, fetch := fetch }

theorem test_doorbell_bad : (sRg (rg 0 0)).ringEntries 0 < idxSub 17 (((sRg (rg 0 0)).ring 0).doneIdx) ∧
    gives (.ringDb 0 17) (sRg (rg 0 0)) (fun t => t.reg K.FE_DB_BAD == 1 && (t.ring 0).db == 0) = true := by decide
theorem test_doorbell_latched : idxSub 16 ((sRg (rg 0 0)).ring 0).doneIdx ≤ (sRg (rg 0 0)).ringEntries 0 ∧
    gives (.ringDb 0 16) (sRg (rg 0 0)) (fun t => (t.ring 0).db == 16) = true := by decide
theorem test_doorbell_behind : idxSub 3 ((sRg (rg 5 0)).ring 0).doneIdx < idxSub ((sRg (rg 5 0)).ring 0).db ((sRg (rg 5 0)).ring 0).doneIdx ∧
    gives (.ringDb 0 3) (sRg (rg 5 0)) (fun t => (t.ring 0).db == 5) = true := by decide

theorem test_fetch_nothing : (sRg (rg 1 1)).active (.ring 0) = true ∧
    idxSub ((sRg (rg 1 1)).ring 0).db ((sRg (rg 1 1)).ring 0).doneIdx ≤ idxSub ((sRg (rg 1 1)).ring 0).fetch ((sRg (rg 1 1)).ring 0).doneIdx ∧
    gives (.ringFetch 0) (sRg (rg 1 1)) (·.cbs == []) = true := by decide
theorem test_fetch :
    (idxSub ((sRg (rg 1 0)).ring 0).fetch 0 < idxSub ((sRg (rg 1 0)).ring 0).db 0 ∧ ((sRg (rg 1 0)).readWords ((sRg (rg 1 0)).entryAddr 0 0) 8).isSome = true) ∧
    gives (.ringFetch 0) (sRg (rg 1 0)) (fun t => t.cbs.length == 1 && (t.ring 0).fetch == 1 && (t.ring 0).csnNext == 1) = true := by decide
theorem test_fetch_poison :
    ({ sRg (rg 1 0) with poison := [0x400] } : State).readWords ((sRg (rg 1 0)).entryAddr 0 0) 8 = none ∧
    gives (.ringFetch 0) { sRg (rg 1 0) with poison := [0x400] }
      (fun t => t.cbs.map (·.status) == [stCANCELLED] && t.reg K.ERR_CONT == 1) = true := by decide

def cbF (n : Nat) : Cb := { cb0 with state := .fetched, ops := n }
def sSt (n : Nat) (st : CtxState) : State := { withCtx 0 st up with cbs := [cbF n] }

theorem test_cb_start :
    ((sSt 1 .enabled).cbs.find? (fun d => d.ring == 0 && d.state == .fetched) = some (cbF 1) ∧ (sSt 1 .enabled).cb? 0 0 = some (cbF 1) ∧
      (cbF 1).order = false ∧ ((sSt 1 .enabled).unit (.ctx 0)).draining = false ∧ (sSt 1 .enabled).cbsRunning 0 < (sSt 1 .enabled).ringActive 0) ∧
    gives (.cbStart 0) (sSt 1 .enabled) (·.cbs.map (·.state) == [.running]) = true := by decide
theorem test_cb_start_disabled : ((sSt 1 .disabled).ctx 0).state = .disabled ∧ (cbF 1).term = none ∧
    gives (.cbStart 0) (sSt 1 .disabled) (·.cbs.map (·.status) == [stNOT_READY]) = true := by decide
theorem test_cb_start_resetting : ((sSt 1 .resetting).ctx 0).state = .resetting ∧
    gives (.cbStart 0) (sSt 1 .resetting) (·.cbs.map (·.term) == [some ⟨stCANCELLED, 7, 0, 0, 0, 2⟩]) = true := by decide
theorem test_cb_start_empty : (cbF 0).ops = 0 ∧
    gives (.cbStart 0) (sSt 0 .enabled) (·.cbs.map (fun c => (c.state, c.status)) == [(.finished, stOK)]) = true := by decide

/-- Name 0 of context 0 maps to object 7. -/
def ob (token : Bool) (v : Nat) : Obj := ⟨token, false, 0, 0, v, 0, 0, 0, false, false, 0⟩
def named (o : Obj) (s : State) : State :=
  (regW (K.SYN_VT_LOn 0) 0xA000 (regW (K.SYN_VT_Nn 0) 1 (poke 0xA000 [word [(63, 63, 1), (17, 0, 7)]] s))).setObj 7 (some o)
def mWt (thr : Word) : Rec4 := opM 0x02 [(30, 29, 2)] 0 thr 0

theorem test_wait_satisfied :
    (Starting (named (ob false 5) (opS (mWt 5))) cb0 (mWt 5) ∧ opOPC (mWt 5) = 0x02 ∧ cb0.skips (mWt 5) = false ∧
      (named (ob false 5) (opS (mWt 5))).poolFull = false ∧ Maps (named (ob false 5) (opS (mWt 5))) 0 (opOBJ (mWt 5)) 7 (ob false 5) ∧
      (ob false 5).abandoned = false ∧ (ob false 5).signalled = false ∧ (mWt 5).w2.toNat ≤ (ob false 5).value) ∧
    gives .opWait (named (ob false 5) (opS (mWt 5))) (fun t => opStatus t 0 == some (some stOK)) = true := by
  unfold Starting SeqInv SeqOk Maps; decide
theorem test_wait_token :
    (Starting (named (ob true 1) (opS (mWt 0))) cb0 (mWt 0) ∧ Maps (named (ob true 1) (opS (mWt 0))) 0 0 7 (ob true 1) ∧
      (ob true 1).token = true ∧ 1 ≤ (ob true 1).value) ∧
    gives .opWait (named (ob true 1) (opS (mWt 0)))
      (fun t => opStatus t 0 == some (some stOK) && (t.obj? 7).map (·.value) == some 0) = true := by
  unfold Starting SeqInv SeqOk Maps; decide
theorem test_wait_queues :
    (Starting (named (ob false 4) (opS (mWt 5))) cb0 (mWt 5) ∧ Maps (named (ob false 4) (opS (mWt 5))) 0 0 7 (ob false 4) ∧
      (ob false 4).value < (mWt 5).w2.toNat) ∧
    gives .opWait (named (ob false 4) (opS (mWt 5)))
      (fun t => opStatus t 0 == some none && t.sync.waiters.map (fun w => (w.phys, w.threshold)) == [(7, 5)]) = true := by
  unfold Starting SeqInv SeqOk Maps; decide
/-- A signal of scope SELF of another source does not contain the waiting ring: counted, and SCOPE_MISMATCH with SCOPE_CHK. -/
def obS : Obj := { ob false 5 with signalled := true, lastSrc := 9 }
theorem test_wait_scope :
    (Starting (named obS (opS (mWt 5))) cb0 (mWt 5) ∧ Maps (named obS (opS (mWt 5))) 0 0 7 obS ∧
      scopeMiss (named obS (opS (mWt 5))) obS (srcRing 0) (opSCOPE (mWt 5)) = true) ∧
    gives .opWait (named obS (opS (mWt 5))) (fun t => opStatus t 0 == some (some stOK) && t.reg K.SCOPE_MM == 1) = true ∧
    gives .opWait (regW K.SYN_CFG (2 ^ 31) (named obS (opS (mWt 5)))) (fun t => opStatus t 0 == some (some stSCOPE_MISMATCH)) = true := by
  unfold Starting SeqInv SeqOk Maps; decide
def obA : Obj := { ob false 5 with abandoned := true }
theorem test_wait_abandoned : (Starting (named obA (opS (mWt 9))) cb0 (mWt 9) ∧ Maps (named obA (opS (mWt 9))) 0 0 7 obA) ∧
    gives .opWait (named obA (opS (mWt 9))) (fun t => opStatus t 0 == some (some stABANDONED) && t.sync.waiters == []) = true := by
  unfold Starting SeqInv SeqOk Maps; decide
/-- The table entry reads as POISON. -/
def sWp1 : State := { named (ob false 5) (opS (mWt 5)) with poison := [0xA000 / 32] }
theorem test_wait_poison : (Starting sWp1 cb0 (mWt 5) ∧ sWp1.poolFull = false ∧ sWp1.savedOf 0 = none ∧ sWp1.nameOf 0 0 = .poison) ∧
    gives .opWait sWp1 (fun t => opStatus t 0 == some (some stUNSUPPORTED) && t.reg K.SYN_UNMAPPED == 1 && t.flag K.AUD_UNC 4) = true := by
  unfold Starting SeqInv SeqOk; decide
/-- The objects of the context are in its save area. -/
def vWt : Saved := ⟨[], [], [ob false 4], [7], [], []⟩
def sWsv : State := (opS (mWt 5)).setCtx 0 { Ctx.zero with state := .enabled, saved := some vWt }
theorem test_wait_saved : (Starting sWsv cb0 (mWt 5) ∧ sWsv.savedOf 0 = some vWt ∧ vWt.find 0 = some 0 ∧ sWsv.poolFull = false) ∧
    gives .opWait sWsv (fun t => opStatus t 0 == some none && (t.savedOf 0).map (fun v => v.waiters.map (·.phys)) == some [0]) = true := by
  unfold Starting SeqInv SeqOk; decide
theorem test_wait_unmapped :
    ((opS (mWt 5)).savedOf 0 = none ∧ (opS (mWt 5)).nameOf 0 (opOBJ (mWt 5)) = .unmapped) ∧
    gives .opWait (opS (mWt 5)) (fun t => opStatus t 0 == some (some stUNSUPPORTED) && t.reg K.SYN_UNMAPPED == 1) = true := by decide

/-- A pool of 65,536 waiters is full (G4). -/
def wtr : Waiter := ⟨true, 0, 0, 7, 0, 0, 0, 0, 0, 0, 0, 0⟩
def sPool : State := { opS (mWt 5) with sync := { Sync.empty with waiters := List.replicate 65536 wtr } }

theorem test_wait_pool_full : Starting sPool cb0 (mWt 5) ∧ sPool.poolFull = true :=
  ⟨by unfold Starting SeqInv SeqOk; decide, by unfold State.poolFull sPool; rw [List.length_replicate]; decide⟩

def mSg (opc : Nat) (v : Word) : Rec4 := opM opc [] 0 v 0

theorem test_signal :
    (Starting (named (ob false 5) (opS (mSg 3 9))) cb0 (mSg 3 9) ∧ cb0.skips (mSg 3 9) = false ∧
      (named (ob false 5) (opS (mSg 3 9))).waitersOf 7 = [] ∧ (named (ob false 5) (opS (mSg 3 9))).sync.heldWaits = []) ∧
    gives .opSignal (named (ob false 5) (opS (mSg 3 9))) (fun t => (t.obj? 7).map (fun o => (o.value, o.signalled)) == some (9, true)) = true := by
  unfold Starting SeqInv SeqOk; decide
/-- A RECORD to a token object saturates (R216). -/
theorem test_record_saturates :
    (Starting (named (ob true (2 ^ 64 - 1)) (opS (mSg 4 1))) cb0 (mSg 4 1) ∧ opOPC (mSg 4 1) = 0x04) ∧
    gives .opRecord (named (ob true (2 ^ 64 - 1)) (opS (mSg 4 1)))
      (fun t => (t.obj? 7).map (·.value) == some (2 ^ 64 - 1) && t.reg K.SYN_OVF == 1) = true := by
  unfold Starting SeqInv SeqOk; decide
/-- A value object releases the waiter whose threshold is reached, a token object one for each token. -/
def wS (thr : Nat) : Waiter := { wtr with threshold := thr, src := 9, scope := 2 }
def sSgw (o : Obj) (m : Rec4) : State := let s := named o (opS m); { s with sync := { s.sync with waiters := [wS 9, wS 10] } }
theorem test_signal_releases :
    (Starting (sSgw (ob false 5) (mSg 3 9)) cb0 (mSg 3 9) ∧ Maps (sSgw (ob false 5) (mSg 3 9)) 0 0 7 (ob false 5) ∧
      ((sSgw (ob false 5) (mSg 3 9)).ctx 0).state ≠ .saving) ∧
    gives .opSignal (sSgw (ob false 5) (mSg 3 9))
      (fun t => t.sync.waiters == [wS 10] && (t.obj? 7).map (·.value) == some 9) = true := by
  unfold Starting SeqInv SeqOk Maps; decide
theorem test_signal_tokens :
    gives .opSignal (sSgw (ob true 0) (mSg 3 1)) (fun t => t.sync.waiters.length == 1 && (t.obj? 7).map (·.value) == some 0) = true ∧
    gives .opRecord (sSgw (ob true 0) (mSg 4 3)) (fun t => t.sync.waiters == [] && (t.obj? 7).map (·.value) == some 1) = true := by decide
theorem test_signal_unmapped :
    (Starting (opS (mSg 3 9)) cb0 (mSg 3 9) ∧ (opS (mSg 3 9)).nameOf 0 (opOBJ (mSg 3 9)) = .unmapped) ∧
    gives .opSignal (opS (mSg 3 9)) (fun t => opStatus t 0 == some (some stUNSUPPORTED)) = true := by
  unfold Starting SeqInv SeqOk; decide

def mBa : Rec4 := opM 0x05 [] 63 0 0
def sBa (expect : Nat) : State := regW (K.BAR_FE 63) expect (withUnit (.bar 63) (opS mBa))

theorem test_barrier_disabled :
    (Starting (opS mBa) cb0 mBa ∧ bit mBa.w0 28 = false ∧ bits mBa.w1 8 0 = 63 ∧ (opS mBa).enabled (.bar 63) = false) ∧
    gives .opBarrier (opS mBa) (fun t => opStatus t 0 == some (some stUNSUPPORTED)) = true := by
  unfold Starting SeqInv SeqOk; decide
/-- An ABANDONED unit; a number beyond the units. -/
def sBab : State := let s := sBa 2; { s with sync := { s.sync with bars := [(63, { s.bar 63 with abandoned := true })] } }
def mBo : Rec4 := opM 0x05 [] 64 0 0
theorem test_barrier_abandoned : (Starting sBab cb0 mBa ∧ barUnit sBab mBa = some 63 ∧ (sBab.bar 63).abandoned = true) ∧
    gives .opBarrier sBab (fun t => opStatus t 0 == some (some stABANDONED)) = true := by
  unfold Starting SeqInv SeqOk; decide
theorem test_barrier_no_unit : (Starting (opS mBo) cb0 mBo ∧ barUnit (opS mBo) mBo = none) ∧
    gives .opBarrier (opS mBo) (fun t => opStatus t 0 == some (some stUNSUPPORTED)) = true := by
  unfold Starting SeqInv SeqOk; decide
theorem test_barrier_waits :
    (Starting (sBa 2) cb0 mBa ∧ (sBa 2).enabled (.bar 63) = true ∧ (sBa 2).barOwner 63 = 0 ∧ ((sBa 2).bar 63).abandoned = false ∧
      ((sBa 2).bar 63).waiting = [] ∧ ((sBa 2).bar 63).cur.fes.length < (sBa 2).barExpect 63 ∧
      ((sBa 2).bar 63).cur.fes.length + 1 ≠ (sBa 2).barExpect 63) ∧
    gives .opBarrier (sBa 2) (fun t => opStatus t 0 == some none && (t.bar 63).cur.fes == [(0, 0, 0)]) = true := by
  unfold Starting SeqInv SeqOk; decide
theorem test_barrier_releases :
    (Starting (sBa 1) cb0 mBa ∧ ((sBa 1).bar 63).cur.cores.length = (sBa 1).barCores 63 ∧
      ((sBa 1).bar 63).cur.fes.length + 1 = (sBa 1).barExpect 63 ∧ (sBa 1).groupOf 63 = none ∧ ((sBa 1).bar 63).next = ⟨[], []⟩) ∧
    gives .opBarrier (sBa 1) (fun t => opStatus t 0 == some (some stOK) && (t.bar 63).gen == 1) = true := by
  unfold Starting SeqInv SeqOk; decide +kernel

/-- A finished command buffer of ring 0, the only one fetched. -/
def cbE (t : Option Term) : Cb := { cb0 with state := .finished, term := t }
def sE (t : Option Term) : State :=
  { regW (K.RING_STAT_LO 0) 0xC000 (regW (K.RING_CSNA_LO 0) 0xD000 (sRg { rg 1 1 with csnNext := 1 })) with cbs := [cbE t] }

theorem test_cb_complete :
    ((sE none).running = true ∧ (sE none).cb? 0 0 = some (cbE none) ∧ (cbE none).complete = true ∧ (cbE none).good = true ∧
      ((sE none).ring 0).recorded = [] ∧ ((sE none).ring 0).nextCover = 0 ∧ (cbE none).audited = false ∧ MemInv (sE none) ∧
      addr48 ((sE none).addrOf (K.RING_STAT_LO 0) (K.RING_STAT_HI 0) + 0) = 0xC000 ∧
      (sE none).addrOf (K.RING_CSNA_LO 0) (K.RING_CSNA_HI 0) = 0xD000 ∧ (sE none).writeOk 0xC000 32 = true) ∧
    gives (.cbComplete 0 0) (sE none) (fun t => t.cbs == [] && (t.ring 0).doneIdx == 1 && t.reg (K.RING_CB_DONE 0) == 1) = true := by
  unfold MemInv; decide
/-- The CSN word and the completion record hold what they should. -/
theorem test_cb_writes :
    ((sE none).writeOk (csnAt (sE none) (cbE none)) 8 = true ∧ recordAt (sE none) (cbE none) = 0xC000 ∧
      Apart (recordAt (sE none) (cbE none)) 32 (csnAt (sE none) (cbE none)) 8 ∧ ((sE none).ring 0).owed = [] ∧
      (∀ w ∈ recordWrites (sE none) (cbE none) ++ [(csnAt (sE none) (cbE none), 8)], (sE none).writeOk w.1 w.2 = true)) ∧
    gives (.cbComplete 0 0) (regW (K.RING_CSNA_LO 0) 0xD000 { sE none with cbs := [{ cbE none with csn := 0, irq := true, vector := 5 }] })
      (fun t => t.out == [.msix 5] && bits (t.wordAtAddr 0xC000) 63 56 == 0) = true := by
  unfold Apart; decide +kernel
/-- An earlier one is missing: the CSN word stays. -/
def cbE1 : Cb := { cbE none with csn := 1, idx := 1 }
def sE1 : State := { sE none with cbs := [cbE1] }
theorem test_cb_complete_early : ((sE1.ring 0).nextCover ≠ cbE1.csn ∧ (sE1.ring 0).nextCover ∉ (sE1.ring 0).recorded ∧ sE1.cb? 0 1 = some cbE1) ∧
    gives (.cbComplete 0 1) sE1 (fun t => (t.ring 0).recorded == [1] && (t.ring 0).doneIdx == (sE1.ring 0).doneIdx) = true := by decide
/-- An audited command buffer leaves one audit record. -/
def xAu : Audit := ⟨0, [], 0, 0, []⟩
def cbEa : Cb := { cbE none with audPtr := 0x4000, audits := [xAu] }
def sEa : State := { sE none with cbs := [cbEa] }
theorem test_cb_audited :
    (cbEa.audited = true ∧ sEa.writeOk (addr48 cbEa.audPtr) (auditBytes cbEa xAu).length = true ∧
      Apart (addr48 cbEa.audPtr) (auditBytes cbEa xAu).length (recordAt sEa cbEa) 32 ∧
      Apart (addr48 cbEa.audPtr) (auditBytes cbEa xAu).length (csnAt sEa cbEa) 8) ∧
    gives (.cbComplete 0 0) sEa (fun t => t.bytesAt 0x4000 8 == (auditBytes cbEa xAu).take 8) = true := by
  unfold Apart; decide +kernel
theorem test_cb_complete_fails : (cbE (some ⟨stTIMEOUT, 0, 0, 0, 0, 1⟩)).good = false ∧
    gives (.cbComplete 0 0) (sE (some ⟨stTIMEOUT, 0, 0, 0, 0, 1⟩))
      (fun t => t.reg (K.RING_CB_FAIL 0) == 1 && bits (t.wordAtAddr 0xC008) 63 56 == stTIMEOUT) = true := by decide

def sHo (tb : Nat) (m : Option Nat) : State := { sRg { rg 0 0 with holdoff := some 5, merged := m } with tb := tb }

theorem test_holdoff_early : (sHo 4 (some 9)).tb < 5 ∧ gives (.msixHoldoffExpiry 0) (sHo 4 (some 9)) (·.out == []) = true := by decide
theorem test_holdoff_merged : ((sHo 5 (some 9)).ring 0).merged = some 9 ∧
    gives (.msixHoldoffExpiry 0) (sHo 5 (some 9)) (fun t => t.out == [.msix 9] && (t.ring 0).merged == none) = true := by decide
/-- A message of this vector has gone in this hub cycle (R421). -/
theorem test_holdoff_same_cycle :
    gives (.msixHoldoffExpiry 0) { sHo 5 (some 9) with cyc := { Cyc.empty with vecs := [9] } } (fun t => t.out == [] && (t.ring 0).merged == none) =
      true := by decide
theorem test_holdoff_ends : ((sHo 5 none).ring 0).merged = none ∧
    gives (.msixHoldoffExpiry 0) (sHo 5 none) (fun t => t.out == [] && (t.ring 0).holdoff == none) = true := by decide

/-- A running command buffer with a timeout of 1 µs, and one whose WAIT is open. -/
def cbT : Cb := { cb0 with timeout := 1 }
def iW : OpInst := ⟨0, opM 0x02 [] 0 0 (word [(63, 32, 1)]), none, [], 0, none, none, false, 0, none, false⟩
def cbW : Cb := { cbT with insts := [iW], nextPos := 1, frames := [⟨0x1000, 1, 1, false, 0, 0, 0, none⟩] }
def sTo (c : Cb) (tb : Nat) : State := { up with cbs := [c], tb := tb }

theorem test_cb_timeout :
    ((sTo cbT 1000).cb? 0 0 = some cbT ∧ cbT.state = .running ∧ cbT.complete = false ∧ cbT.timed = false ∧ cbT.term = none ∧
      (sTo cbT 1000).cbLimit cbT ≠ 0 ∧ cbT.startStamp + (sTo cbT 1000).cbLimit cbT * 1000 ≤ (sTo cbT 1000).tb ∧
      (sTo cbT 1000).flag K.HANG_CTRL 29 = false ∧ OnlyRunningOps cbT) ∧
    gives (.cbTimeout 0 0) (sTo cbT 1000) (fun t => t.cbs.map (·.status) == [stTIMEOUT] && t.reg K.FE_TIMEOUT == 1) = true := by
  unfold OnlyRunningOps; decide
theorem test_cb_timeout_wait :
    (cbW.insts.filter (·.isOpen) = [iW] ∧ SeqOk cbW ∧ cbW.inst? 0 = some iW ∧ cbW.complete = false ∧ (sTo cbW 1000).sync.heldWaits = []) ∧
    gives (.cbTimeout 0 0) (sTo cbW 1000) (fun t => opStatus t 0 == some (some stTIMEOUT)) = true := by
  unfold SeqOk; decide
theorem test_wtime_early : (sTo cbW 999).tb < iW.stamp + opWTIME iW.m * 1000 ∧ opWTIME iW.m ≠ 0 ∧
    gives (.wtimeExpiry 0 0 0) (sTo cbW 999) (fun t => opStatus t 0 == some none) = true := by decide
theorem test_wtime : iW.stamp + opWTIME iW.m * 1000 ≤ (sTo cbW 1000).tb ∧ iW.isOpen = true ∧ opOPC iW.m = 0x02 ∧
    gives (.wtimeExpiry 0 0 0) (sTo cbW 1000) (fun t => opStatus t 0 == some (some stTIMEOUT)) = true := by decide

def vLa : W32 := BitVec.ofNat 32 (2 ^ 29 + 3)
def vEn : W32 := BitVec.ofNat 32 (2 ^ 30)
def vRi : W32 := BitVec.ofNat 32 (2 ^ 31 + 2 ^ 29)

theorem test_cancel_launch :
    ((sDone (lau 0 3)).live = true ∧ (sDone (lau 0 3)).glb.phase ≠ .boot ∧ bits vLa 31 30 = 0 ∧
      (sDone (lau 0 3)).launch? (bits vLa 25 20) (bits vLa 19 0) = some (lau 0 3) ∧ (lau 0 3).cancelled = false) ∧
    gives (.feCancelLaunch vLa) (sDone (lau 0 3)) (·.launches.map (fun l => (l.cancelled, l.dlk)) == [(true, true)]) = true := by decide
/-- A launch cancelled already, with no switch of it going on. -/
theorem test_cancel_launch_again : ((sDone lC).launch? 0 3 = some lC ∧ (sDone lC).switchLive lC = false) ∧
    gives (.feCancelLaunch vLa) (sDone lC) (· == sDone lC) = true ∧ gives (.feCancelLaunch vLa) up (· == up) = true := by decide
theorem test_cancel_entry_fetched :
    (bits vEn 31 30 = 1 ∧ (sSt 1 .enabled).cbs.find? (fun c => c.ring == bits vEn 28 26 && c.idx % 2 ^ 16 == bits vEn 15 0) = some (cbF 1) ∧
      (cbF 1).state = .fetched) ∧
    gives (.feCancelEntry vEn) (sSt 1 .enabled) (·.cbs.map (fun c => (c.state, c.status)) == [(.finished, stCANCELLED)]) = true := by decide
theorem test_cancel_entry_running : (cbT.state = .running ∧ cbT.complete = false ∧ OnlyRunningOps cbT) ∧
    gives (.feCancelEntry vEn) (sTo cbT 0) (·.cbs.map (fun c => (c.cancel, c.status)) == [(true, stCANCELLED)]) = true := by
  unfold OnlyRunningOps; decide
theorem test_cancel_ring :
    (bits vRi 31 30 = 2 ∧ ((sSt 1 .enabled).cbs.map fun c => (c.ring, c.idx)).Nodup ∧
      (∀ c ∈ (sSt 1 .enabled).cbs, c.ring = bits vRi 28 26 → c.state = .fetched ∧ c.term = none)) ∧
    gives (.feCancelRing vRi) (sSt 1 .enabled) (·.cbs.map (·.status) == [stDEADLOCK]) = true := by decide
theorem test_cancel_other_kind : gives (.feCancelRing vEn) (sSt 1 .enabled) (· == sSt 1 .enabled) = true := by decide

/-! ## Contexts -/

/-- The window of context 63 with sizes that pass the checks of R194. -/
def sCx (st : CtxState) : State :=
  regW (K.CEL_SIZE 63) 577 (regW (K.CTX_TPL_N 63) 1025 (regW (K.CTX_LT_N 63) 64 (selW 1 63 (withCtx 63 st up))))

theorem test_ctx_enable :
    (CtxWrite (sCx .disabled) .host 63 ∧ (sCx .disabled).unit (.ctx 63) = UnitEn.off ∧ ((sCx .disabled).ctx 63).state = .disabled ∧
      (sCx .disabled).ctxChecks 63 = true) ∧
    gives (.ctxCtrlEnableWrite .host 1) (sCx .disabled) (fun t => t.ctxOn 63 && t.enabled (.ctx 63)) = true ∧
    gives (.ctxPauseWrite .host 3) (sCx .disabled) (fun t => (t.ctx 63).state == .paused && t.enabled (.ctx 63)) = true := by
  unfold CtxWrite; decide
theorem test_ctx_enable_refused : (selW 1 63 up).ctxChecks 63 = false ∧
    gives (.ctxCtrlEnableWrite .host 1) (selW 1 63 up) (fun t => (t.ctx 63).refused && t.unit (.ctx 63) == UnitEn.off) = true := by decide
theorem test_ctx_pause :
    ((withUnit (.ctx 63) (sCx .enabled)).unit (.ctx 63) = ⟨true, true, false, false⟩ ∧
      ((withUnit (.ctx 63) (sCx .enabled)).ctx 63).state = .enabled) ∧
    gives (.ctxPauseWrite .host 3) (withUnit (.ctx 63) (sCx .enabled)) (fun t => (t.ctx 63).state == .paused) = true ∧
    gives (.ctxPauseWrite .host 1) (withUnit (.ctx 63) (sCx .paused)) (fun t => (t.ctx 63).state == .enabled) = true := by decide
theorem test_ctx_disable_drains :
    gives (.ctxCtrlEnableWrite .host 0) (withUnit (.ctx 63) (sCx .enabled)) (fun t => t.unit (.ctx 63) == ⟨false, true, true, false⟩) = true := by
  decide
def sCd : State := draining (.ctx 63) false (sCx .enabled)
theorem test_ctx_drained : (sCd.running = true ∧ sCd.unit (.ctx 63) = ⟨false, true, true, false⟩ ∧ sCd.ctxDrained 63 = true) ∧
    gives (.ctxDrainComplete 63) sCd (fun t => (t.ctx 63).state == .disabled && t.unit (.ctx 63) == UnitEn.off) = true := by decide
theorem test_ctx_not_drained : ({ sCd with launches := [lau 63 0] } : State).ctxDrained 63 = false ∧
    gives (.ctxDrainComplete 63) { sCd with launches := [lau 63 0] } (fun t => (t.ctx 63).state == .enabled) = true := by decide

def cmd (n : Nat) : W32 := BitVec.ofNat 32 (n * 2 ^ 29)
def sCs (st : CtxState) : State := regW (K.CTX_SAVE_LO 63) 0x100000 (sCx st)

theorem test_ctx_save :
    (CtxCmd (sCs .paused) .host (cmd 1) 63 1 ∧ ((sCs .paused).ctx 63).state = .paused ∧ (sCs .paused).saveBase 63 ≠ 0 ∧
      ((sCs .paused).unit (.ctx 63)).draining = false) ∧
    gives (.ctxSave .host (cmd 1)) (sCs .paused) (fun t => (t.ctx 63).state == .saving) = true ∧
    gives (.ctxSave .host (cmd 1)) (sCs .enabled) (fun t => (t.ctx 63).refused && (t.ctx 63).state == .enabled) = true := by
  unfold CtxCmd; decide
theorem test_ctx_quiescent : ((sCs .saving).quiescent 63 = true ∧ (sCs .saving).sync.heldWaits = []) ∧
    gives (.ctxQuiescent 63) (sCs .saving) (fun t => (t.ctx 63).quiet && (t.ctx 63).saved == some ⟨[], [], [], [], [], []⟩) = true := by
  decide +kernel
theorem test_ctx_not_quiescent : (sCs .enabled).quiescent 63 = false ∧ gives (.ctxQuiescent 63) (sCs .enabled) (· == sCs .enabled) = true := by
  decide +kernel

/-- A context to save: a slot, an object that a command buffer waits for, and the room for its save area. -/
def wC : Waiter := ⟨false, 0, 2, 7, 0, 9, 0, 0, 0, 0, 0, 63⟩
def sQu : State :=
  let s := ((sCs .saving).setSlot 0 5 { slotIn .waiting 2 1 with ctx := 63 }).setObj 7 (some { ob false 5 with ctx := 63 })
  { s with sync := { s.sync with waiters := [wC] } }
theorem test_ctx_capture :
    (sQu.quiescent 63 = true ∧ sQu.sync.heldWaits = [] ∧ MemInv sQu ∧ sQu.ctxSlots 63 = [((0, 5), { slotIn .waiting 2 1 with ctx := 63 })] ∧
      sQu.ctxObjs 63 = [(7, { ob false 5 with ctx := 63 })] ∧ (∀ p ∈ sQu.hub.parked, p.ctx = 63 → p.inCellar = true)) ∧
    gives (.ctxQuiescent 63) sQu (fun t => t.obj? 7 == none && t.sync.waiters == [] &&
      (t.ctx 63).saved.map (fun v => (v.physIds, v.waiters.map (·.phys))) == some ([7], [0])) = true := by
  unfold MemInv; decide +kernel
theorem sQu_area : SaveArea sQu 63 (fun a n => sQu.writeOk a n = true) := by
  refine ⟨by decide, fun a n h1 h2 => ?_⟩
  have hb : sQu.saveBase 63 = 0x100000 := by decide
  rw [hb] at h1 h2
  have h3 : sQu.refuse = [] := rfl
  simp only [State.writeOk, List.all_eq_true, h3, List.contains_nil, Bool.not_false, Bool.and_true, Bool.not_eq_true']
  intro x hx
  have hx2 : x * 32 < 0x2000000 := by
    obtain ⟨i, hi, rfl⟩ := List.mem_map.1 hx
    have := List.mem_range.1 hi
    omega
  simp [reservedAddr]
  omega

def savedC (st : CtxState) : Ctx := { Ctx.zero with state := st, quiet := true, saved := some ⟨[], [], [], [], [], []⟩ }
def sSd : State := (up.setCtx 63 (savedC .saving)).setSlot 0 5 { slotIn .waiting 2 1 with ctx := 63 }

theorem test_ctx_save_done : ((sSd.ctx 63).state = .saving ∧ (sSd.ctx 63).quiet = true ∧ (sSd.slot 0 5).ctx = 63) ∧
    gives (.ctxSaveDone 63) sSd (fun t => (t.ctx 63).state == .saved && (t.slot 0 5).state == .free) = true := by decide
theorem test_ctx_restore :
    (CtxCmd ((sCx .saved).setCtx 63 (savedC .saved)) .host (cmd 2) 63 2) ∧
    gives (.ctxRestore .host (cmd 2)) ((sCx .saved).setCtx 63 (savedC .saved)) (fun t => (t.ctx 63).state == .restoring) = true ∧
    gives (.ctxRestore .host (cmd 2)) (sCx .enabled) (fun t => (t.ctx 63).refused) = true := by
  unfold CtxCmd; decide

def sRs : State := up.setCtx 63 { savedC .restoring with pause := true }

theorem test_ctx_restore_done :
    ((sRs.ctx 63).saved = some ⟨[], [], [], [], [], []⟩ ∧ sRs.objUsed ≤ sRs.nObjs ∧ sRs.sync.waiters.length ≤ sRs.poolSize ∧
      sRs.ctxSlots 63 = [] ∧ sRs.ctxObjs 63 = [] ∧ (restoreAll 63 ⟨[], [], [], [], [], []⟩ sRs).isSome = true) ∧
    gives (.ctxRestoreDone 63) sRs (fun t => (t.ctx 63).state == .paused && (t.ctx 63).saved == none) = true := by decide +kernel
/-- What a save of a slot, an object and a waiter left, and the block with room for it. -/
def vRe : Saved :=
  ⟨[((0, 5), { slotIn .waiting 2 1 with ctx := 63 })], [], [{ ob false 5 with ctx := 63 }], [7], [{ wC with phys := 0 }], []⟩
def sRe : State := { withUnit (.shard 0) (up.setCtx 63 { savedC .restoring with saved := some vRe }) with launches := [lau 63 3] }
theorem sRe_fits : RestoreFits sRe vRe := by
  refine ⟨by decide +kernel, by decide +kernel, fun sh => ?_, by decide, by decide, by decide⟩
  by_cases h : sh = 0
  · subst h; decide +kernel
  · have hz : (vRe.slots.filter fun e => e.1.1 == sh) = [] := by simp [vRe, Ne.symm h]
    have hu : sRe.usedSlots sh = 0 := rfl
    rw [hz, hu]; simp
theorem test_ctx_restore_slots :
    ((sRe.ctx 63).saved = some vRe ∧ sRe.ctxSlots 63 = [] ∧ sRe.ctxObjs 63 = [] ∧
      (∀ e ∈ vRe.slots, e.2.state ≠ .free ∧ sRe.goesOn 63 (ordSerial e.2.ordinal) = true) ∧ (∀ w ∈ vRe.waiters, w.phys < vRe.objs.length)) ∧
    gives (.ctxRestoreDone 63) sRe (fun t => (t.ctx 63).state == .enabled && (t.slot 0 0).state == .waiting && (t.obj? 0).map (·.value) == some 5 &&
      t.sync.waiters.map (·.phys) == [0]) = true := by decide +kernel

/-- A saved fold group of a launch in flight, for which the unit has no room, is not restored yet. -/
def gBig : FGroup := { fGr (o3 5) 0 with ctx := 63, d := { fdD with window := 16385 } }
def sRn : State :=
  { up.setCtx 63 { savedC .restoring with saved := some ⟨[], [], [], [], [], [(0, gBig)]⟩ } with launches := [lau 63 3] }
theorem test_ctx_restore_waits : restoreAll 63 ⟨[], [], [], [], [], [(0, gBig)]⟩ sRn = none ∧
    gives (.ctxRestoreDone 63) sRn (fun t => (t.ctx 63).state == .restoring) = true := by decide +kernel

theorem test_ctx_reset :
    (CtxCmd (sCx .enabled) .host (cmd 3) 63 3 ∧ ((sCx .enabled).ctx 63).state ≠ .disabled) ∧
    gives (.ctxReset .host (cmd 3)) { sCx .enabled with launches := [lau 63 0] }
      (fun t => (t.ctx 63).state == .resetting && t.launches.map (·.cancelled) == [true]) = true ∧
    gives (.ctxReset .host (cmd 3)) (sCx .disabled) (fun t => (t.ctx 63).refused) = true := by
  unfold CtxCmd; decide +kernel
/-- An object, a waiter on it and a barrier unit of the context are abandoned. -/
def sRx : State :=
  let s := withUnit (.bar 9) (regW (K.BAR_CTRL 9) (63 * 2 ^ 24) ((sCx .enabled).setObj 7 (some { ob false 5 with ctx := 63 })))
  { s with sync := { s.sync with waiters := [{ wC with isEng := true, src := 9, handle := 66 }] } }
theorem test_ctx_reset_abandons :
    gives (.ctxReset .host (cmd 3)) sRx (fun t => (t.obj? 7).map (·.abandoned) == some true && t.sync.waiters == [] &&
      t.out.contains (.lane 9 3 (notice 66 stABANDONED 5))) = true := by decide +kernel
def sRc : State := (sCx .resetting).setUnit (.ctx 63) ⟨false, true, false, false⟩
theorem test_ctx_reset_complete :
    (sRc.hubGone 63 = true ∧ sRc.foldGone 63 = true ∧ sRc.feGone 63 = true ∧ sRc.channelsGone 63 = true ∧ sRc.fabGone 63 = true) ∧
    gives (.ctxResetComplete 63) sRc (fun t => (t.ctx 63).state == .disabled && t.unit (.ctx 63) == UnitEn.off) = true := by decide
theorem test_ctx_reset_waits : ({ sRc with launches := [lau 63 0] } : State).feGone 63 = false ∧
    gives (.ctxResetComplete 63) { sRc with launches := [lau 63 0] } (fun t => (t.ctx 63).state == .resetting) = true := by decide
theorem test_ctx_init :
    CtxCmd (sCx .disabled) .host (cmd 4) 63 4 ∧
    gives (.ctxInit .host (cmd 4)) (regW (K.CTX_SERIAL 63) 9 (regW (K.CEL_LOST 63) 4 ((sCx .disabled).setObj 7 (some { ob false 5 with ctx := 63 }))))
      (fun t => t.serialNext 63 == 0 && t.reg (K.CEL_LOST 63) == 0 && (t.obj? 7).map (·.value) == some 0) = true ∧
    gives (.ctxInit .host (cmd 4)) (sCx .paused) (fun t => (t.ctx 63).refused) = true := by
  unfold CtxCmd; decide

/-! ## The deadline monitor -/

def ck : Ckpt := ⟨0, 3, 0, 100, 0, 1500⟩
def dl (deadline : Nat) : DlmEntry := ⟨3, 1, .tracking, 0, 0, deadline, 0, 0, none, false, false⟩
/-- Launch 3 tracked, its fall-back template 1 loaded, an estimate of 50 ns remaining after node 0. -/
def sDl (deadline est : Nat) : State :=
  { regW (K.CTX_EST_LO 0) est (regW K.DLM_CFG 1 (poke 0xE000 [word [(27, 27, 1)], word [(63, 32, 50)]]
      ((sDone { lau 0 3 with outstanding := 1 }).setTemplate 0 1 (curT 0 [])))) with ckpts := [ck], dlm := [dl deadline] }

theorem test_checkpoint_no_estimate :
    ((sDl 150 0).running = true ∧ (sDl 150 0).dlm.find? (·.is 0 3) = some (dl 150) ∧ (sDl 150 0).launch? 0 3 = some { lau 0 3 with outstanding := 1 } ∧
      (sDl 150 0).launchDone { lau 0 3 with outstanding := 1 } = false ∧
      (sDl 150 0).estimate 0 0 0 = .none) ∧
    gives .checkpointEval (sDl 150 0) (fun t => t.reg K.DLM_NOEST == 1 && t.ckpts == []) = true := by decide
theorem test_checkpoint_in_time :
    ((sDl 151 0xE000).estimate 0 0 0 = .found 50 false ∧ ck.t + remaining 50 false ck.fmhz + (sDl 151 0xE000).fld K.DLM_CFG 31 12 < 151) ∧
    gives .checkpointEval (sDl 151 0xE000) (·.dlm == [{ dl 151 with projection := 150 }]) = true := by decide
theorem test_checkpoint_switches :
    ((sDl 150 0xE000).serialBusy 0 = false ∧ ((sDl 150 0xE000).template 0 1).current = some 0 ∧
      ((sDl 150 0xE000).vslot 0 1 0).launches < 1048575) ∧
    gives .checkpointEval (sDl 150 0xE000)
      (fun t => t.dlm.map (·.state) == [.switching] && t.launches.map (fun l => (l.serial, l.cancelled, l.fbOf)) ==
        [(3, true, none), (0, false, some 3)]) = true := by decide +kernel

/-- The launch is complete already. -/
def sDlc : State := { sDone (lau 0 3) with ckpts := [ck], dlm := [dl 150] }
theorem test_checkpoint_of_complete : (sDlc.launchDone (lau 0 3) = true ∧ sDlc.dlm.find? (·.is 0 3) = some (dl 150)) ∧
    gives .checkpointEval sDlc (· == { sDlc with ckpts := [] }) = true := by decide
/-- The estimate, or the launch record, reads as POISON. -/
def sDlp (a : Nat) : State := { sDl 150 0xE000 with poison := [a / 32] }
theorem test_checkpoint_poison : (sDlp 0xE000).estimate 0 0 0 = .poison 0xE000 ∧
    gives .checkpointEval (sDlp 0xE000) (fun t => t.launches.map (fun l => (l.failed, l.cancelled)) == [(true, true)]) = true := by
  decide +kernel
theorem test_checkpoint_record_poison :
    ((sDlp ((sDl 150 0).lrecAddr 0 3)).lrecBad { lau 0 3 with outstanding := 1 }).isSome = true ∧
    gives .checkpointEval (sDlp ((sDl 150 0).lrecAddr 0 3)) (fun t => t.launches.map (fun l => (l.failed, l.cancelled)) == [(true, true)]) =
      true := by decide +kernel

def sSw (pf : Option Nat) : State :=
  { sDone lC with dlm := [{ dl 150 with state := .switching, pinFail := pf, fbSerial := 4 }] }

theorem test_fallback_start :
    ((sSw none).dlm.find? (·.is 0 3) = some { dl 150 with state := .switching, fbSerial := 4 } ∧ (sSw none).launch? 0 3 = some lC ∧
      (sSw none).drained 0 3 = true ∧ lC.pinned = true) ∧
    gives (.dlmFallbackStart 0 3 0) (sSw none)
      (fun t => t.dlm.map (fun d => (d.state, d.drained)) == [(.fallback, true)] && (t.vslot 0 0 0).launches == 0) = true := by decide
theorem test_fallback_waits :
    ((sSw none).setSlot 0 5 (slotIn .running 2 0)).drained 0 3 = false ∧
    gives (.dlmFallbackStart 0 3 0) ((sSw none).setSlot 0 5 (slotIn .running 2 0)) (fun t => t.dlm.map (·.state) == [.switching]) = true := by
  decide
theorem test_fallback_unpinned : (sSw (some stVERSION_BUSY)).drained 0 3 = true ∧
    gives (.dlmFallbackStart 0 3 0) (sSw (some stVERSION_BUSY)) (fun t => t.dlm == [] && t.launches == []) = true := by decide

/-! ## Synchronisation objects and requests -/

def kSyn (c : Nat) (tok : Nat) : W32 := BitVec.ofNat 32 (c * 2 ^ 30 + tok * 2 ^ 29)
/-- The object table of context 0 has one name, not mapped yet. -/
def sSy : State := regW (K.SYN_VT_LOn 0) 0xA000 (regW (K.SYN_VT_Nn 0) 1 (regW K.SYN_VAL_LO 9 up))

theorem test_syn_busy : (sSy.running = true ∧ sSy.glb.phase ≠ .boot) ∧
    gives (.synCreate (kSyn 1 0)) { sSy with sync := { sSy.sync with cmdBusy := true } } (·.sync.objs == []) = true := by decide
theorem test_syn_create_outside : (up.reg (K.SYN_VT_Nn 0)).toNat ≤ up.fld K.SYN_ARG 23 0 ∧ bits (kSyn 1 0) 31 30 = 1 ∧
    gives (.synCreate (kSyn 1 0)) up (fun t => t.sync.cmdStatus == stUNSUPPORTED && t.sync.objs == []) = true := by decide
theorem test_syn_create :
    (sSy.fld K.SYN_ARG 23 0 < (sSy.reg (K.SYN_VT_Nn 0)).toNat ∧ sSy.readWords (sSy.vtAddr 0 0) 1 = some [0] ∧ sSy.saveHeld 0 = false ∧
      (sSy.ctx 0).state ≠ .resetting ∧ sSy.freeObj = some 0 ∧ MemInv sSy ∧ sSy.writeOk (sSy.vtAddr 0 0) 8 = true) ∧
    gives (.synCreate (kSyn 1 1)) sSy
      (fun t => (t.obj? 0).map (fun o => (o.token, o.value)) == some (true, 9) && bit (t.wordAtAddr 0xA000) 63) = true := by
  unfold MemInv; decide

def sNm : State := regW K.SYN_VAL_LO 9 (named (ob false 5) up)

theorem test_syn_destroy : (sNm.nameOf 0 0 = .phys 7 ∧ sNm.obj? 7 = some (ob false 5) ∧ sNm.waitersOf 7 = []) ∧
    gives (.synDestroy (kSyn 2 0)) sNm (fun t => t.obj? 7 == none && t.sync.cmdStatus == stOK) = true := by decide
theorem test_syn_destroy_waiters : sNm.sync.heldWaits = [] ∧
    gives (.synDestroy (kSyn 2 0)) { sNm with sync := { sNm.sync with waiters := [⟨true, 0, 2, 7, 9, 6, 0, 0, 0, 0, 77, 0⟩] } }
      (fun t => t.obj? 7 == none && t.sync.waiters == []) = true := by decide
/-- The port refuses the write of the entry: reported. -/
theorem test_syn_create_refused : ({ sSy with refuse := [0xA000 / 32] } : State).writeOk (sSy.vtAddr 0 0) 8 = false ∧
    gives (.synCreate (kSyn 1 1)) { sSy with refuse := [0xA000 / 32] } (fun t => (t.obj? 0).isSome && t.reg K.ERR_CONT == 1) = true := by
  decide
theorem test_syn_reinit : bits (kSyn 3 0) 31 30 = 3 ∧ sNm.waitersOf 7 = [] ∧
    gives (.synReinit (kSyn 3 0)) sNm (fun t => (t.obj? 7).map (·.value) == some 9) = true := by decide

/-- An engine that waits on object 7 for the value 6. -/
def wE : Waiter := ⟨true, 0, 2, 7, 9, 6, 0, 0, 0, 0, 77, 0⟩
def sNw : State := { sNm with sync := { sNm.sync with waiters := [wE] } }

theorem test_syn_reinit_waiters : sNw.waitersOf 7 ≠ [] ∧
    gives (.synReinit (kSyn 3 0)) sNw (fun t => (t.obj? 7).map (·.value) == some 5 && t.sync.cmdStatus == stUNSUPPORTED) = true := by decide

def aR0 : Rec4 := ⟨word [(63, 62, 2), (30, 25, 63)], 0, word [(63, 32, 66)], 0⟩
/-- A request of the engine port for object 0 of context 0. -/
def jR (op scope frag dest tag : Nat) (v : Word) : Rec4 :=
  ⟨word [(63, 62, op), (61, 60, scope), (58, 55, frag), (24, 15, dest)], v, word [(63, 32, 66), (31, 16, tag)], 0⟩

theorem test_engine_signal :
    (sNm.running = true ∧ jOP (jR 0 2 0 0 0 8) = 0 ∧ jDEST (jR 0 2 0 0 0 8) = sNm.chipId ∧ jFRAG (jR 0 2 0 0 0 8) = 0 ∧
      Maps sNm 0 0 7 (ob false 5) ∧ (ob false 5).abandoned = false ∧ sNm.sync.heldWaits = [] ∧ sNm.waitersOf 7 = []) ∧
    gives (.engineSignal 9 (jR 0 2 0 0 0 8)) sNm (fun t => (t.obj? 7).map (·.value) == some 8) = true := by
  unfold Maps; decide
theorem test_engine_signal_releases :
    (sNw.waitersOf 7 = [wE] ∧ wE.threshold ≤ max 5 (jR 0 2 0 0 0 6).w1.toNat ∧ jADD (jR 0 2 0 0 0 6) = false ∧
      scopeHas 2 0 4 0 9 = true) ∧
    gives (.engineSignal 4 (jR 0 2 0 0 0 6)) sNw (fun t => t.sync.waiters == [] && t.out == [.lane 9 3 (notice 77 stOK 6)]) = true := by
  decide
/-- Scope SELF of another engine does not contain the waiter: counted, and the status only with SYN_CFG MM. -/
theorem test_engine_signal_scope : scopeHas 0 0 4 0 9 = false ∧
    gives (.engineSignal 4 (jR 0 0 0 0 0 6)) sNw (fun t => t.reg K.SCOPE_MM == 1) = true := by decide

/-- The fabric port enabled, on chip 0 with parent 7. -/
def sPo : State := regW K.FAB_CFG (7 * 4096 + 1) up

theorem test_engine_signal_remote :
    (jDEST (jR 0 2 0 5 0 8) ≠ sPo.chipId ∧ sPo.portEn = true ∧ sPo.fab.txWait = [] ∧
      (sPo.fab.unacked.filter fun u => u.chip == 5).length < 65536) ∧
    gives (.engineSignal 9 (jR 0 2 0 5 0 8)) sPo (fun t => t.fab.unacked == [⟨5, 0, 0⟩] && t.reg K.FAB_SENT == 1) = true := by decide

/-- On a G4E another chip's object is no object; a data-carried signal for this chip does nothing. -/
theorem test_engine_signal_g4e : ({ up with variant := .g4e } : State).isG4 = false ∧
    gives (.engineSignal 9 (jR 0 2 0 5 0 8)) { up with variant := .g4e } (fun t => t.reg K.SYN_UNMAPPED == 1 && t.reg K.ERR_CONT == 1) = true := by
  decide
theorem test_engine_signal_data : jFRAG (jR 0 2 3 0 4 8) ≠ 0 ∧
    gives (.engineSignal 9 (jR 0 2 3 0 4 8)) sNm (fun t => (t.obj? 7).map (·.value) == some 5 && t.sync.pend == []) = true := by decide
/-- A request behind another one of its lane waits; a full lane takes none. -/
def lanesN (n : Nat) : State := { up with lanes := [((1, 9), List.replicate n ⟨4, aR0⟩)] }
theorem test_request_waits : (lanesN 7).lane 1 9 ≠ [] ∧ ((lanesN 7).lane 1 9).length < 8 ∧ 8 ≤ ((lanesN 8).lane 1 9).length ∧
    gives (.engineSignal 9 (jR 0 2 0 0 0 8)) (lanesN 7) (fun t => (t.lane 1 9).length == 8) = true ∧
    gives (.engineSignal 9 (jR 0 2 0 0 0 8)) (lanesN 8) (· == lanesN 8) = true := by decide
theorem test_engine_wait :
    (sNm.engResetting 9 = false ∧ sNm.poolFull = false ∧ jOP (jR 1 2 0 0 0 5) = 1 ∧ (ob false 5).signalled = false ∧
      (jR 1 2 0 0 0 5).w1.toNat ≤ 5) ∧
    gives (.engineWait 9 (jR 1 2 0 0 0 5)) sNm (fun t => t.out == [.lane 9 3 (notice 66 stOK 5)]) = true := by decide
theorem test_engine_wait_queues : 5 < (jR 1 2 0 0 0 6).w1.toNat ∧
    gives (.engineWait 9 (jR 1 2 0 0 0 6)) sNm (fun t => t.sync.waiters.map (fun w => (w.src, w.threshold, w.handle)) == [(9, 6, 66)]) = true := by
  decide
theorem test_engine_wait_resetting :
    ({ sNm with glb := { sNm.glb with rstBusy := true, rstEng := 9 } } : State).engResetting 9 = true ∧
    gives (.engineWait 9 (jR 1 2 0 0 0 6)) { sNm with glb := { sNm.glb with rstBusy := true, rstEng := 9 } }
      (fun t => t.sync.waiters == [] && t.out == []) = true := by decide
theorem test_engine_wait_token : Maps (named (ob true 1) up) 0 0 7 (ob true 1) ∧
    gives (.engineWait 9 (jR 1 2 0 0 0 0)) (named (ob true 1) up)
      (fun t => t.out == [.lane 9 3 (notice 66 stOK 0)] && (t.obj? 7).map (·.value) == some 0) = true := by
  unfold Maps; decide
theorem test_engine_wait_abandoned : Maps (named obA up) 0 0 7 obA ∧
    gives (.engineWait 9 (jR 1 2 0 0 0 9)) (named obA up) (fun t => t.out == [.lane 9 3 (notice 66 stABANDONED 5)]) = true := by
  unfold Maps; decide
/-- A signal of scope SELF of ring source 0x400 does not contain engine 9. -/
theorem test_engine_wait_scope : scopeMiss (named obS up) obS 4 2 = true ∧
    gives (.engineWait 4 (jR 1 2 0 0 0 5)) (named obS up)
      (fun t => t.reg K.SCOPE_MM == 1 && t.out == [.lane 4 3 (notice 66 stOK 5)]) = true := by decide
theorem test_engine_wait_unmapped : (up.savedOf 0 = none ∧ up.nameOf 0 0 = .unmapped) ∧
    gives (.engineWait 9 (jR 1 2 0 0 0 6)) up (fun t => t.reg K.SYN_UNMAPPED == 1 && t.sync.waiters == []) = true := by decide
theorem test_engine_wait_pool_full : sPool.engResetting 9 = false ∧ sPool.poolFull = true ∧ sPool.running = true :=
  ⟨by decide, test_wait_pool_full.2, by decide⟩

/-- An ARRIVE at unit 63 for generation `g`. -/
def aR (g : Word) : Rec4 := ⟨word [(63, 62, 2), (30, 25, 63)], g, word [(63, 32, 66)], 0⟩
def sBr (mask : Nat) : State := regW (K.BAR_MASKk 63 0) mask (withUnit (.bar 63) up)

theorem test_arrive_disabled : up.enabled (.bar 63) = false ∧ jOP (aR 0) = 2 ∧ bits (aR 0).w0 30 25 = 63 ∧
    gives (.arrive 9 (aR 0)) up (fun t => t.out == [.lane 9 3 (notice 66 stUNSUPPORTED 0)] && t.fld (K.BAR_ERR 63) 15 0 == 1) = true := by
  decide
theorem test_arrive_wrong_gen : ((sBr 2).enabled (.bar 63) = true ∧ (sBr 2).barOwner 63 = jCTX (aR 2) ∧ ((sBr 2).bar 63).abandoned = false ∧
      bits (aR 2).w1 31 0 ≠ ((sBr 2).bar 63).gen ∧ bits (aR 2).w1 31 0 ≠ (((sBr 2).bar 63).gen + 1) % 2 ^ 32) ∧
    gives (.arrive 9 (aR 2)) (sBr 2) (fun t => t.reg K.ERR_CONT == 1 && (t.bar 63).cur.cores == []) = true := by decide
/-- A core outside the mask, a second arrival of a core, an ABANDONED unit, the next generation. -/
theorem test_arrive_outside_mask : (sBr 1).barHas 63 (srcCore 9) = false ∧
    gives (.arrive 9 (aR 0)) (sBr 1) (fun t => t.fld (K.BAR_ERR 63) 31 16 == 1 && t.reg K.ERR_CONT == 1) = true := by decide
def sBr2 (f : Bar → Bar) : State := let s := sBr 3; { s with sync := { s.sync with bars := [(63, f (s.bar 63))] } }
theorem test_arrive_twice : ((sBr2 fun b => { b with cur := ⟨[(1, 9, 66)], []⟩ }).bar 63).cur.cores = [(srcCore 9, 9, 66)] ∧
    gives (.arrive 9 (aR 0)) (sBr2 fun b => { b with cur := ⟨[(1, 9, 66)], []⟩ }) (fun t => t.fld (K.BAR_ERR 63) 31 16 == 1) = true := by decide
theorem test_arrive_abandoned : ((sBr2 fun b => { b with abandoned := true }).bar 63).abandoned = true ∧
    gives (.arrive 9 (aR 0)) (sBr2 fun b => { b with abandoned := true })
      (fun t => t.out == [.lane 9 3 (notice 66 stABANDONED 0)] && t.reg K.ERR_CONT == 0) = true := by decide
theorem test_arrive_next : (bits (aR 1).w1 31 0 = (((sBr 3).bar 63).gen + 1) % 2 ^ 32 ∧ (sBr 3).barFull 63 = false) ∧
    gives (.arrive 9 (aR 1)) (sBr 3) (fun t => (t.bar 63).next.cores == [(1, 9, 66)] && (t.bar 63).cur.cores == []) = true := by decide +kernel
theorem test_arrive_counted :
    (bits (aR 0).w1 31 0 = ((sBr 3).bar 63).gen ∧ (sBr 3).barHas 63 (srcCore 9) = true ∧ (sBr 3).groupOf 63 = none ∧
      (∀ a ∈ ((sBr 3).bar 63).cur.cores, a.1 ≠ srcCore 9) ∧ ((sBr 3).bar 63).cur.cores.length + 1 ≠ (sBr 3).barCores 63) ∧
    gives (.arrive 9 (aR 0)) (sBr 3) (fun t => (t.bar 63).cur.cores == [(1, 9, 66)] && t.out == []) = true := by decide +kernel
theorem test_arrive_releases :
    (((sBr 2).bar 63).cur.cores.length + 1 = (sBr 2).barCores 63 ∧ (sBr 2).barExpect 63 = 0 ∧ ((sBr 2).bar 63).waiting = []) ∧
    gives (.arrive 9 (aR 0)) (sBr 2) (fun t => (t.bar 63).gen == 1 && t.out == [.lane 9 3 (notice 66 stOK 1)]) = true := by decide +kernel
theorem test_request_bad : jOP (jR 3 0 0 0 0 0) = 3 ∧
    gives (.syncRequestBad 9 (jR 3 0 0 0 0 0)) up (fun t => t.reg K.SIG_BAD == 1 && t.glb.errLog.length == 1) = true := by decide

def pkt0 : Rec8 := ⟨0, 0, 0, 0, 0, 0, 0, 0⟩
def pe (seen : Nat) : PendSig := { newPend 0 9 (jR 0 2 3 0 4 8) with seen := seen }
def sPe (l : List PendSig) : State := { sNm with sync := { sNm.sync with pend := l } }

theorem test_notice_first : ((sPe []).pend? 0 9 (jTAG (jR 0 2 3 0 4 8)) = none ∧ 2 ≤ jFRAG (jR 0 2 3 0 4 8)) ∧
    gives (.signalNotice 0 9 (jR 0 2 3 0 4 8)) (sPe []) (·.sync.pend == [pe 1]) = true := by decide
theorem test_notice_next :
    ((sPe [pe 1]).pend? 0 9 4 = some (pe 1) ∧ (pe 1).seen ≠ 0 ∧ noticeSame (pe 1) (jR 0 2 3 0 4 8) = true ∧ (pe 1).seen + 1 < (pe 1).frag) ∧
    gives (.signalNotice 0 9 (jR 0 2 3 0 4 8)) (sPe [pe 1]) (·.sync.pend == [pe 2]) = true := by decide
theorem test_notice_last :
    ((pe 2).frag ≤ (pe 2).seen + 1 ∧ (pe 2).chip = (sPe [pe 2]).chipId ∧ (pe 2).ann = none ∧ Maps (sPe [pe 2]) 0 0 7 (ob false 5) ∧
      (sPe [pe 2]).waitersOf 7 = []) ∧
    gives (.signalNotice 0 9 (jR 0 2 3 0 4 8)) (sPe [pe 2]) (fun t => t.sync.pend == [] && (t.obj? 7).map (·.value) == some 8) = true := by
  unfold Maps; decide
/-- The announcement of a packet came first. -/
theorem test_notice_after_announcement : ((sPe [{ pe 0 with ann := some (pkt0) }]).pend? 0 9 4).map (·.seen) = some 0 ∧
    gives (.signalNotice 0 9 (jR 0 2 3 0 4 8)) (sPe [{ pe 0 with ann := some pkt0 }]) (fun t => t.sync.pend == [{ pe 1 with ann := some pkt0 }]) =
      true := by decide
theorem test_notice_differs : noticeSame (pe 1) (jR 0 2 3 0 4 9) = false ∧
    gives (.signalNotice 0 9 (jR 0 2 3 0 4 9)) (sPe [pe 1]) (fun t => t.reg K.SIG_BAD == 1 && t.sync.pend == [pe 1]) = true := by decide
def peT : PendSig := { pe 1 with tag := 5 }
theorem find_replicate_none {α : Type} (p : α → Bool) (a : α) (h : p a = false) : ∀ n, (List.replicate n a).find? p = none
  | 0 => rfl
  | n + 1 => by rw [List.replicate_succ, List.find?_cons_of_neg (by simp [h])]; exact find_replicate_none p a h n
theorem test_notice_table_full :
    (sPe (List.replicate 4096 peT)).pend? 0 9 4 = none ∧ 4096 ≤ (sPe (List.replicate 4096 peT)).sync.pend.length :=
  ⟨find_replicate_none _ peT (by decide) 4096, Nat.le_of_eq (List.length_replicate).symm⟩

def sDk (n : Nat) : State :=
  regW K.DLD_CFG (2 ^ 23) (regW K.DLD_SNAP_LO 0x7000 { up with sync := { up.sync with dldTicks := [(15, n)] } })

theorem test_deadlock_early : Tab.get 0 (sDk 1).sync.dldTicks 15 < max 2 ((sDk 1).fld K.DLD_CFG 31 24) ∧
    gives (.deadlockDeclare 15) (sDk 1) (fun t => t.flag K.DLD_STAT 15 == false) = true := by decide
theorem test_deadlock_declared :
    ((sDk 2).watched 15 = true ∧ (sDk 2).flag K.DLD_STAT 15 = false ∧ (sDk 2).blocked 15 = true ∧
      max 2 ((sDk 2).fld K.DLD_CFG 31 24) ≤ Tab.get 0 (sDk 2).sync.dldTicks 15 ∧ (sDk 2).flag K.HANG_CTRL 30 = false ∧
      (sDk 2).flag K.STOP_CTRL 29 = false) ∧
    gives (.deadlockDeclare 15) (sDk 2) (fun t => t.flag K.DLD_STAT 15 && t.flag K.IRQ_CAUSE 2 && t.wordAtAddr 0x7000 == 15) = true := by
  decide +kernel

/-! ## Message channels -/

def qu (k : QKind) (st : QState) : Queue := { Queue.zero 1024 with kind := k, state := st, epoch := 1 }
/-- Route 1024 of context 0 with one destination, landing 1025, a ring of 512 bytes. -/
def sCh (rt ld : Queue) : State :=
  regW (K.RT_CFG 1024) (2 ^ 26 + 2 ^ 16 + 1) (regW (K.RT_DESTj 1024 0) 1025
    { withCtx 0 .enabled up with queues := [(1024, rt), (1025, ld)] })
def snd (len : Nat) : Rec4 := ⟨word [(63, 48, 1024), (31, 0, len)], 0x9000, word [(63, 32, 66)], 7⟩
def rtO : Queue := qu .route .opened
def ldO : Queue := qu .ring .opened

theorem test_send_refused : (sCh rtO ldO).refusesSend 0 (snd 24) = true ∧
    gives (.sendRequest 0 (snd 24)) (sCh rtO ldO) (fun t => t.out == [sendAns 0 66 stUNSUPPORTED 0] && t.reg (K.RT_REFUSED 1024) == 1) = true := by
  decide
theorem test_send_closed :
    ((sCh rtO (qu .ring .closed)).refusesSend 0 (snd 64) = false ∧ ((sCh rtO (qu .ring .closed)).queue 1025).state ≠ .opened ∧
      1025 ∈ (sCh rtO (qu .ring .closed)).dests 1024) ∧
    gives (.sendRequest 0 (snd 64)) (sCh rtO (qu .ring .closed)) (fun t => t.out == [sendAns 0 66 stCHANNEL_CLOSED 0]) = true := by decide

def hs : HeldSend := ⟨0, snd 64⟩
def rtH1 (len : Nat) : Queue := { rtO with hold := [⟨0, snd len⟩] }
def rtH (n : Nat) : Queue := { rtO with hold := List.replicate n hs }

theorem test_send_hold_full :
    ((sCh (rtH 16) ldO).refusesSend 0 (snd 64) = false ∧ (∀ q ∈ (sCh (rtH 16) ldO).dests 1024, ((sCh (rtH 16) ldO).queue q).state = .opened) ∧
      16 ≤ ((sCh (rtH 16) ldO).queue 1024).hold.length) ∧
    gives (.sendRequest 0 (snd 64)) (sCh (rtH 16) ldO) (fun t => t.queue 1024 == rtH 16) = true := by decide
/-- A send waits in its lane behind others, for a closer of the same hub cycle, and while a full route holds one. -/
def sLn : State := { sCh rtO ldO with lanes := [((2, 0), [⟨5, snd 64⟩])] }
theorem test_send_waits : sLn.lane 2 0 ≠ [] ∧ gives (.sendRequest 0 (snd 64)) sLn (fun t => (t.lane 2 0).length == 2) = true := by decide
def sCls : State := { selW 9 1025 (sCh rtO ldO) with pending := [.qClose .host (BitVec.ofNat 32 2)] }
theorem test_send_after_close : sCls.acceptWaits 1024 0 = true ∧
    gives (.sendRequest 0 (snd 64)) sCls (fun t => (t.lane 2 0).length == 1 && t.out == []) = true := by decide
/-- With credit it is taken at once: a one-sector message is answered at once. -/
theorem test_accept_short : (sCh (rtH1 32) ldO).acceptWaits 1024 0 = false ∧
    gives (.sendAccept 1024) (sCh (rtH1 32) ldO)
      (fun t => t.out == [sendAns 0 66 stOK 0] && t.msgs.map (·.read) == [true] && t.reqs == []) = true := by decide
theorem test_accept_waits : gives (.sendAccept 1024) { sCls with queues := [(1024, rtH1 64), (1025, ldO)] } (fun t => t.msgs == []) = true := by
  decide
theorem test_send_behind : ((sCh (rtH 15) ldO).queue 1024).hold ≠ [] ∧
    gives (.sendRequest 0 (snd 64)) (sCh (rtH 15) ldO) (fun t => t.queue 1024 == rtH 16 && t.out == []) = true := by decide

/-- 449 bytes are taken: the credit is 31. -/
theorem test_accept_no_credit :
    (takeCredits 64 ((sCh (rtH 1) { ldO with prod := 449 }).dests 1024) (sCh (rtH 1) { ldO with prod := 449 })).isNone = true ∧
    gives (.sendAccept 1024) (sCh (rtH 1) { ldO with prod := 449 }) (fun t => t.queue 1024 == rtH 1) = true := by decide
/-- 32 bytes fit before the end of the ring; the message of 64 starts at offset 0 after a pad of 32. -/
theorem test_accept_pads :
    ((sCh (rtH 1) { ldO with prod := 480, cons := 256 }).dests 1024 = [1025] ∧
      (sCh (rtH 1) { ldO with prod := 480, cons := 256 }).placeAt 1025 64 = (0, 32, 480, 96) ∧
      96 ≤ (sCh (rtH 1) { ldO with prod := 480, cons := 256 }).credit 1025 ∧
      (sCh (rtH 1) { ldO with prod := 480, cons := 256 }).traceHoldsFor 0 = false ∧ Calm (sCh (rtH 1) { ldO with prod := 480, cons := 256 })) ∧
    gives (.sendAccept 1024) (sCh (rtH 1) { ldO with prod := 480, cons := 256 })
      (fun t => (t.queue 1025).prod == 576 && (t.queue 1025).seq == 1 && t.msgs.length == 1) = true := by
  unfold Calm; decide

def de (e : Nat) (sink : Bool) : MsgDest := ⟨1025, e, 0, 0, 0, 0, sink, false⟩
def ms (read : Bool) (len : Nat) (p : List Word) (d : MsgDest) : Msg := ⟨3, 1024, 0, 0, 66, 5, len, 0x9000, 7, 11, read, p, [d]⟩
def sM (ld : Queue) (m : Msg) : State := { withUnit (.queue 1025) (poke 0x9000 [1, 2, 3, 4] (sCh rtO ld)) with msgs := [m] }

theorem test_payload_read : (sM ldO (ms false 64 [] (de 1 false))).msgs.find? (·.id == 3) = some (ms false 64 [] (de 1 false)) ∧
    gives (.payloadReadComplete 3) (sM ldO (ms false 64 [] (de 1 false)))
      (fun t => t.msgs.map (·.payload) == [[1, 2, 3, 4]] && t.out == [sendAns 0 66 stOK 11]) = true := by decide
theorem test_payload_read_again : (ms true 32 [] (de 1 false)).read = true ∧
    gives (.payloadReadComplete 3) (sM ldO (ms true 32 [] (de 1 false))) (·.out == []) = true := by decide

def mR : Msg := ms true 64 [1, 2, 3, 4] (de 1 false)

theorem test_land_nothing : (sCh rtO ldO).nextLanding 1025 = none ∧ gives (.messageLand 1025) (sCh rtO ldO) (· == sCh rtO ldO) = true := by
  decide
theorem test_land_ring :
    (LandsNext (sM ldO mR) 1025 mR (de 1 false) ∧ mR.whole = true ∧ (de 1 false).epoch = ((sM ldO mR).queue 1025).epoch ∧
      (sM ldO mR).ringTakes ((sM ldO mR).ringWrites 1025 mR (de 1 false)) = true ∧ MemInv (sM ldO mR) ∧ (de 1 false).pad = 0) ∧
    gives (.messageLand 1025) (sM ldO mR)
      (fun t => t.msgs == [] && t.reg (K.LD_MSG 1025) == 1 && t.wordAtAddr (0x80_0000_0000 + 32) == 1) = true := by
  unfold LandsNext MemInv; decide
def sMr : State := { sM ldO mR with refuse := [0x80_0000_0000 / 32] }
theorem test_land_refused : LandsNext sMr 1025 mR (de 1 false) ∧ sMr.ringTakes (sMr.ringWrites 1025 mR (de 1 false)) = false ∧
    gives (.messageLand 1025) sMr (fun t => t.msgs == [mR]) = true := by
  unfold LandsNext; decide
theorem test_land_head :
    (LandsNext (sM (qu .head .opened) mR) 1025 mR (de 1 false) ∧ (qu .head .opened).blocked = []) ∧
    gives (.messageLand 1025) (sM (qu .head .opened) mR) (fun t => (t.queue 1025).head.map (·.length) == [8]) = true := by
  unfold LandsNext; decide
theorem test_land_old_epoch : (de 0 false).epoch ≠ ((sM ldO (ms true 32 [] (de 0 false))).queue 1025).epoch ∧
    gives (.messageLand 1025) (sM ldO (ms true 32 [] (de 0 false))) (fun t => t.reg (K.LD_DISCARD 1025) == 1 && t.msgs == []) = true := by
  decide
/-- A payload that came back uncorrectable. -/
def mBad : Msg := ms true 64 [] (de 1 false)
theorem test_land_not_whole : (LandsNext (sM ldO mBad) 1025 mBad (de 1 false) ∧ mBad.whole = false) ∧
    gives (.messageLand 1025) (sM ldO mBad) (fun t => t.msgs == [mBad]) = true := by
  unfold LandsNext; decide
theorem test_landing_fault :
    ((((sM ldO mBad).msgs.flatMap (·.dests)).filter (·.openAt 1025)).length = 1) ∧
    gives (.landingFault 3 1025 false) (sM ldO mBad)
      (fun t => (t.queue 1025).state == .closing && t.reg (K.LD_LOST 1025) == 1 && t.msgs == []) = true ∧
    gives (.landingFault 3 1025 false) (sM ldO mR) (· == sM ldO mR) = true := by decide
def mSk2 (r : Bool) : Msg := ms r 64 [1, 2, 3, 4] (de 1 true)
theorem test_discard_sink :
    (((sM ldO (mSk2 true)).msgs.map (·.id)).Nodup ∧ (de 1 true).openAt 1025 = true ∧ (de 1 true).sink = true) ∧
    gives (.discardSinkDone 3 1025) (sM ldO (mSk2 true)) (fun t => t.reg (K.LD_DISCARD 1025) == 1 && t.msgs == []) = true ∧
    gives (.discardSinkDone 3 1025) (sM ldO (mSk2 false)) (fun t => t.msgs.length == 1) = true := by decide

/-- A consume request for landing 1025. -/
def cq (e cons : Nat) : Word := word [(63, 48, 1025), (47, 32, e), (31, 0, cons)]
def sCq : State := sCh rtO { ldO with prod := 64, landed := 1 }

theorem test_consume : (sCq.isLanding 1025 = true ∧ sCq.receiver 1025 = 0 ∧ sCq.engResetting 0 = false) ∧
    gives (.consumeRequest 0 (cq 1 64) 1) sCq (fun t => (t.queue 1025).cons == 64 && (t.queue 1025).landed == 0) = true := by decide
theorem test_consume_stale : bits (cq 2 64) 47 32 ≠ (sCq.queue 1025).epoch ∧
    gives (.consumeRequest 0 (cq 2 64) 1) sCq (fun t => t.fld (K.LD_CONS_ERR 1025) 15 0 == 1 && (t.queue 1025).cons == 0) = true := by decide
/-- A consume request behind a record of its lane waits; one for a route is bad. -/
theorem test_consume_waits : gives (.consumeRequest 0 (cq 1 64) 1) { sCq with lanes := [((2, 0), [⟨5, snd 64⟩])] }
    (fun t => (t.lane 2 0).length == 2 && (t.queue 1025).cons == 0) = true := by decide
theorem test_consume_not_landing : sCq.isLanding 1024 = false ∧
    gives (.consumeRequest 0 (word [(63, 48, 1024), (47, 32, 1), (31, 0, 64)]) 1) sCq (fun t => t.fld (K.LD_CONS_ERR 1024) 31 16 == 1) = true := by
  decide
theorem test_consume_other : 1 ≠ sCq.receiver 1025 ∧
    gives (.consumeRequest 1 (cq 1 64) 1) sCq (fun t => t.fld (K.LD_CONS_ERR 1025) 31 16 == 1 && t.reg K.ERR_CONT == 1) = true := by decide

def hd : Queue := { qu .head .opened with landed := 1, readLen := 8 }
def sHd (q : Queue) (tb : Nat) : State := { regW K.CH_CFG (2 ^ 16) (sCh rtO q) with tb := tb }

theorem test_head_last_word : ((sHd { hd with reading := [5] } 0).isG4 = true ∧ (sHd { hd with reading := [5] } 0).headOf 0 0 = some 1025) ∧
    gives (.headRead 0 0 2) (sHd { hd with reading := [5] } 0)
      (fun t => t.out == [.headWord 0 0 2 5] && (t.queue 1025).cons == 8 && (t.queue 1025).landed == 0) = true := by decide
/-- Reads of two engines meet: the first blocks, the second serves both in ascending order. -/
def sH2 : State := { sHd { hd with reading := [5, 6, 7] } 0 with pending := [.headRead 0 0 1] }
theorem test_head_reads_meet : sH2.readsMeet 0 0 = true ∧
    gives (.headRead 0 0 2) sH2 (fun t => (t.queue 1025).blocked == [(2, 0)] && t.out == []) = true ∧
    gives (.headRead 0 0 1) (sHd { hd with reading := [5, 6, 7], blocked := [(2, 0)] } 0)
      (fun t => t.out == [.headWord 0 0 1 5, .headWord 0 0 2 6] && (t.queue 1025).reading == [7]) = true := by decide
theorem test_head_none : up.headOf 0 0 = none ∧ gives (.headRead 0 0 2) up (·.out.length == 1) = true ∧
    gives (.headRead 0 0 2) { up with variant := .g4e } (fun t => t.out == []) = true := by decide
theorem test_head_word : gives (.headRead 0 0 2) (sHd { hd with reading := [5, 6] } 0)
    (fun t => t.out == [.headWord 0 0 2 5] && (t.queue 1025).reading == [6]) = true := by decide
theorem test_head_first_word : gives (.headRead 0 0 2) (sHd { hd with head := [[5, 6], [7]] } 0)
    (fun t => t.out == [.headWord 0 0 2 5] && (t.queue 1025).reading == [6] && (t.queue 1025).readLen == 16) = true := by decide
theorem test_head_closed : gives (.headRead 0 0 2) (sHd (qu .head .closed) 0) (fun t => t.out == [.headWord 0 0 2 (markWord 1 2)]) = true := by
  decide
theorem test_head_blocks : gives (.headRead 0 0 2) (sHd (qu .head .opened) 3) (fun t => (t.queue 1025).blocked == [(2, 3)] && t.out == []) = true := by
  decide
def sBk (tb : Nat) : State := sHd { qu .head .opened with blocked := [(2, 0)] } tb
theorem test_head_timeout : ((sBk 16).fld K.CH_CFG 31 16 ≠ 0 ∧ (sBk 15).tb < 0 + (sBk 15).fld K.CH_CFG 31 16 * 16) ∧
    gives (.headReadTimeout 0 0) (sBk 16) (fun t => t.out == [.headWord 0 0 2 (markWord 1 1)] && (t.queue 1025).blocked == []) = true ∧
    gives (.headReadTimeout 0 0) (sBk 15) (fun t => t.out == [] && (t.queue 1025).blocked == [(2, 0)]) = true := by decide

def vQ (kind en close : Nat) : W32 := BitVec.ofNat 32 (kind * 2 ^ 23 + close * 2 + en)
def sQc (q : Nat) (rt ld : Queue) : State := selW 9 q (sCh rt ld)

theorem test_queue_refused :
    (QWrite (sQc 1024 (qu .route .closed) (qu .free .closed)) .host 1024 ∧
      (writeKind 1024 (vQ 1 1 0) (sQc 1024 (qu .route .closed) (qu .free .closed))).configOk 1024 = false) ∧
    gives (.qCtrlEnableWrite .host (vQ 1 1 0)) (sQc 1024 (qu .route .closed) (qu .free .closed))
      (fun t => (t.queue 1024).cfgStatus == stUNSUPPORTED && t.unit (.queue 1024) == UnitEn.off) = true := by
  unfold QWrite; decide
theorem test_route_opens :
    ((sQc 1024 (qu .free .closed) ldO).unit (.queue 1024) = UnitEn.off ∧
      (writeKind 1024 (vQ 1 1 0) (sQc 1024 (qu .free .closed) ldO)).configOk 1024 = true) ∧
    gives (.qCtrlEnableWrite .host (vQ 1 1 0)) (sQc 1024 (qu .free .closed) ldO) (fun t => (t.queue 1024).state == .opened) = true := by decide
theorem test_landing_opens :
    (writeKind 1025 (vQ 2 1 0) (sQc 1025 rtO { qu .free .closed with epoch := 65535 })).configOk 1025 = true ∧
    gives (.qClose .host (vQ 2 1 0)) (sQc 1025 rtO { qu .free .closed with epoch := 65535, prod := 9 })
      (fun t => (t.queue 1025).state == .opened && (t.queue 1025).epoch == 1 && (t.queue 1025).prod == 0) = true := by decide
theorem test_route_drains :
    gives (.qCtrlEnableWrite .host (vQ 1 0 0)) (withUnit (.queue 1024) (sQc 1024 (rtH 1) ldO))
      (fun t => (t.queue 1024).state == .draining && t.out == [sendAns 0 66 stCHANNEL_CLOSED 0]) = true := by decide
theorem test_landing_drains :
    gives (.qCtrlEnableWrite .host (vQ 2 0 0)) (withUnit (.queue 1025) (sQc 1025 rtO ldO)) (fun t => (t.queue 1025).state == .draining) = true := by
  decide
theorem test_landing_closes :
    ((selW 9 1025 (sM ldO mR)).unit (.queue 1025)).enable = true ∧ bit (vQ 2 1 1) 1 = true ∧
    gives (.qClose .host (vQ 2 1 1)) (selW 9 1025 (sM ldO mR))
      (fun t => (t.queue 1025).state == .closing && t.msgs.map (fun m => m.dests.map (·.sink)) == [[true]]) = true := by decide

theorem test_landing_drained :
    ((sCh rtO (qu .head .draining)).isLanding 1025 = true ∧ (sCh rtO (qu .head .draining)).unlanded 1025 = false) ∧
    gives (.landingDrainComplete 1025) (sCh rtO { qu .head .draining with head := [[1]], landed := 1 })
      (fun t => (t.queue 1025).state == .closed && (t.queue 1025).landed == 0 && t.reg (K.LD_DISCARD 1025) == 1) = true := by decide
theorem test_landing_close_waits : (sM (qu .ring .closing) mR).unlanded 1025 = true ∧
    gives (.landingCloseComplete 1025) (sM (qu .ring .closing) mR) (fun t => (t.queue 1025).state == .closing) = true ∧
    gives (.landingCloseComplete 1025) (sCh rtO (qu .ring .closing)) (fun t => (t.queue 1025).state == .closed) = true := by decide
theorem test_route_close :
    gives (.routeCloseComplete 1024) (sCh (qu .route .draining) ldO) (fun t => (t.queue 1024).state == .closed) = true ∧
    gives (.routeCloseComplete 1024) { sCh (qu .route .closing) ldO with msgs := [ms false 64 [] (de 1 false)] }
      (fun t => (t.queue 1024).state == .closing) = true := by decide


/-! ## Time, frames and the fabric port -/

/-- A packet of class `cls` from chip 5. -/
def pkt (cls seq : Nat) (apply w3 w4 : Word) : Rec8 := ⟨word [(63, 60, cls), (59, 50, 5), (17, 0, seq)], 1, apply, w3, w4, 0, 0, 0⟩
def fabW (f : Fab → Fab) (s : State) : State := { s with fab := f s.fab }

theorem test_time_start_off : up.portEn = false ∧ gives .timeExchangeStart up (· == up) = true := by decide
theorem test_time_start : (sPo.glb.initDone = true ∧ sPo.live = true ∧ sPo.isMaster = false ∧ PortFree sPo ∧ sPo.exchangeDue = true ∧ ¬ NoResponse sPo) ∧
    gives .timeExchangeStart sPo (fun t => t.fab.asked == some 0 && t.fab.lastReq == some 0 && t.out.length == 1) = true := by
  unfold PortFree NoResponse; decide
/-- PERIOD has not passed since the last; LOCKED without a TIME_RSP for 8 periods. -/
def sPe1 : State := { fabW (fun f => { f with lastReq := some 0 }) sPo with tb := 1 }
def sPe8 : State := let s := fabW (fun f => { f with locked := true }) sPo; { s with tb := 8 * s.exchangeNs }
theorem test_time_start_early : sPe1.exchangeDue = false ∧ gives .timeExchangeStart sPe1 (· == sPe1) = true := by decide
theorem test_time_no_response : (NoResponse sPe8 ∧ sPe8.exchangeDue = true) ∧
    gives .timeExchangeStart sPe8 (fun t => !t.fab.locked && t.reg K.FAB_UNLOCK == 1 && t.reg K.ERR_CONT == 1) = true := by
  unfold NoResponse; decide
theorem test_time_req : (TakesCtrl sPo (pkt 6 0 0 0 0) 6 ∧ PortFree sPo) ∧
    gives (.timeReq (pkt 6 0 0 0 0)) { sPo with tb := 9 } (·.out.length == 1) = true := by
  unfold TakesCtrl PortFree; decide

def sAk (good bad : Nat) (lock : Bool) : State :=
  fabW (fun f => { f with asked := some 3, goodRun := good, badRun := bad, locked := lock }) sPo
/-- T1 is 1, T2 is 3, the time of arrival 0: twice the offset is w4 − 2. -/
def tR (t3 : Word) : Rec8 := pkt 7 0 0 3 t3

theorem test_time_rsp_unasked : sPo.fab.asked ≠ some (tR 4).w3.toNat ∧ gives (.timeRsp (tR 4)) sPo (·.fab == sPo.fab) = true := by decide
theorem test_time_rsp_locks : (TakesCtrl (sAk 15 0 false) (tR 4) 7 ∧ (sAk 15 0 false).isMaster = false ∧ offset2 (tR 4) 0 = 2) ∧
    gives (.timeRsp (tR 4)) (sAk 15 0 false) (fun t => t.fab.locked && t.fab.offsets == [2]) = true ∧
    gives (.timeRsp (tR 5)) (sAk 15 0 false) (fun t => !t.fab.locked) = true := by unfold TakesCtrl; decide
theorem test_time_rsp_unlocks : offset2 (tR 7) 0 = 5 ∧
    gives (.timeRsp (tR 7)) (sAk 0 3 true) (fun t => !t.fab.locked && t.reg K.FAB_UNLOCK == 1 && t.reg K.ERR_CONT == 1) = true := by decide

def sFr (frame tb : Nat) (hold : List Rec8) : State := { fabW (fun f => { f with frame := frame, hold := hold }) sPo with tb := tb }

theorem test_frame_not_due : (sFr 1 9999 []).tb < (sFr 1 9999 []).epochNs + 1 * (sFr 1 9999 []).frameLen ∧
    gives .frameTick (sFr 1 9999 []) (·.fab.frame == 1) = true := by decide
theorem test_frame_ticks : NothingHeld (sFr 1 10000 []) ∧ gives .frameTick (sFr 1 10000 []) (·.fab.frame == 2) = true := by
  unfold NothingHeld; decide +kernel
theorem test_frame_start : gives .frameTick (fabW (fun f => { f with startGo := some 0 }) (sFr 0 0 [])) (·.fab.startDone) = true := by decide +kernel

/-- A DEC packet for node 1 of launch 3 of context 0. -/
def dP (seq : Nat) (apply : Word) : Rec8 := pkt 1 seq apply (o3 0) (word [(63, 44, 1)])
def sDh (frame tb : Nat) (apply : Word) : State :=
  { regW K.FAB_CFG (7 * 4096 + 1) (sH (img2 0 1 1)) with fab := (sFr frame tb [dP 0 apply]).fab, tb := tb }

theorem test_frame_holds : gives .frameTick (sDh 1 10000 2) (fun t => t.fab.hold == [dP 0 2] && t.hub.xbar == []) = true := by decide +kernel
theorem test_frame_applies : ((sDh 1 10000 1).fab.hold = [dP 0 1] ∧ PortFree (sDh 1 10000 1) ∧ pApply (dP 0 1) ≤ 1 ∧
      ((sDh 1 10000 1).launch? 0 (dSerial (dP 0 1))).isSome = true) ∧
    gives .frameTick (sDh 1 10000 1) (fun t => t.fab.hold == [] && t.hub.xbar.length == 1 && t.out.length == 1) = true := by
  unfold PortFree; decide +kernel

/-! ## The start barrier and STOP packets -/

def vAr (root a : Nat) : W32 := BitVec.ofNat 32 (root * 2 ^ 20 + 2 * 2 ^ 9 + a)
theorem test_arrive_start_off : gives (.arriveStart (vAr 6 0)) sPo (fun t => t.out == [] && !t.fab.startArrived) = true := by decide
theorem test_arrive_start : (sPo.anyCtx = false ∧ bits (vAr 6 1) 29 20 ≠ sPo.chipId) ∧
    gives (.arriveStart (vAr 6 1)) sPo (fun t => t.fab.startArrived && t.out.length == 1) = true := by decide
/-- The root of a start group of `m` chips, with chips `l` arrived. -/
def sRoot (m : Nat) (l : List Nat) : State := regW K.FAB_START (m * 512) (fabW (fun f => { f with startCount := l }) sPo)
theorem test_start_arrive_twice : (TakesCtrl (sRoot 3 [5]) (pkt 8 0 0 0 0) 8 ∧ (sRoot 3 [5]).isStartRoot = true) ∧
    gives (.startArrive (pkt 8 0 0 0 0)) (sRoot 3 [5]) (·.fab.startCount == [5]) = true := by unfold TakesCtrl; decide
theorem test_start_arrive_counts : [0].length + 1 ≠ (sRoot 3 [0]).startMembers ∧
    gives (.startArrive (pkt 8 0 0 0 0)) (sRoot 3 [0]) (fun t => t.fab.startCount == [0, 5] && t.out == []) = true := by decide
theorem test_start_arrive_goes : ((sRoot 2 [0]).startMembers = 2 ∧ (sRoot 2 [0]).tb < (sRoot 2 [0]).tGo ∧ (sRoot 2 [0]).tGo < 2 ^ 64) ∧
    gives (.startArrive (pkt 8 0 0 0 0)) (sRoot 2 [0]) (fun t => t.out.length == 1 && t.fab.startGo == some (sRoot 2 [0]).tGo) = true := by
  decide
theorem test_start_go : TakesCtrl sPo (pkt 9 0 0 500 2048) 9 ∧
    gives (.startGo (pkt 9 0 0 500 2048)) sPo (fun t => t.epochNs == 500 && t.reg K.FRM_LEN == 2048 && !t.flag K.FAB_STOP 31) = true ∧
    gives (.startGo (pkt 9 0 0 500 2048)) { sPo with tb := 500 } (fun t => t.fab.startDone && t.flag K.FAB_STOP 31) = true := by
  unfold TakesCtrl; decide
theorem test_fab_stop : (TakesCtrl sPo (pkt 0xA 0 0 500 0) 0xA ∧ sPo.stopLead ≤ 500 ∧ 20 < sPo.stopLead) ∧
    gives (.fabStop (pkt 0xA 0 0 500 0)) sPo (fun t => t.glb.tStop == 500 && t.glb.stopCause == 5) = true ∧
    gives (.fabStop (pkt 0xA 0 0 20 0)) sPo (fun t => t.glb.tStop == sPo.stopLead && t.flag K.FAB_STOP 31) = true := by
  unfold TakesCtrl; decide
theorem test_fab_stop_armed : gives (.fabStop (pkt 0xA 0 0 500 0)) { sPo with glb := { sPo.glb with armed := true } }
    (fun t => t.glb.tStop == 0) = true := by decide

/-! ## Fabric items -/

theorem test_data_outside : gives (.fabDec (dP 0 0)) up (· == up) = true ∧ (Instr.fabDec (dP 0 0), 1) ∈ dataCmds (dP 0 0) := by
  constructor
  · decide
  · simp [dataCmds]
def sFull : State := fabW (fun f => { f with hold := List.replicate 65536 (dP 0 9) }) sPo
theorem test_data_no_room : sFull.running = true ∧ 65536 ≤ sFull.fabHeld := by
  refine ⟨by decide, ?_⟩
  unfold State.fabHeld sFull fabW
  rw [List.length_replicate]; decide
theorem test_data_fatal : gives (.fabDec (dP 0 0)) { sPo with glb := { sPo.glb with fatal := true } }
    (fun t => t.out == [ackPkt sPo (dP 0 0) true] && t.reg K.FAB_DISCARD == 1) = true := by decide

def sDc : State := regW K.FAB_CFG (7 * 4096 + 1) (sH (img2 0 1 1))

theorem test_dec_reserved : (DataOpen sDc ∧ pCls (pkt 1 0 0 0 (word [(43, 42, 2)])) = 1 ∧ 2 ≤ dKind (pkt 1 0 0 0 (word [(43, 42, 2)])) ∧ seqAhead 0 (sDc.rxNext 5) < 2 ^ 17) ∧
    (match exec (.fabDec (pkt 1 0 0 0 (word [(43, 42, 2)]))) sDc with | .refused r => r == .reservedForm | _ => false) = true := by
  unfold DataOpen Calm; decide
theorem test_data_late : (DataOpen sDc ∧ pCls (dP (2 ^ 18 - 1) 0) = 1 ∧ 2 ^ 17 ≤ seqAhead (2 ^ 18 - 1) (sDc.rxNext 5)) ∧
    gives (.fabDec (dP (2 ^ 18 - 1) 0)) sDc (fun t => t.reg K.FAB_LOST == 1 && t.hub.xbar == []) = true := by
  unfold DataOpen Calm; decide
theorem test_data_gap : (seqAhead 1 (sDc.rxNext 5) = 1 ∧ sDc.gapOf 5 = none) ∧
    gives (.fabDec (dP 1 0)) sDc (fun t => t.fab.gaps.map (·.held) == [[dP 1 0]] && t.hub.xbar == []) = true := by decide

/-- The first of two gaps is filled: the second one has its whole time. -/
def sG2 : State := { fabW (fun f => { f with gaps := [⟨5, 9, [dP 3 0]⟩] }) sDc with tb := 8 }
theorem test_data_second_gap : ((sG2.gapOf 5).map (·.held) = some [dP 3 0] ∧ seqAhead 0 (sG2.rxNext 5) = 0 ∧ pSeq (dP 3 0) ≠ 1) ∧
    gives (.fabDec (dP 0 0)) sG2 (fun t => (t.gapOf 5).map (·.due) == some (8 + sG2.fld K.FAB_LIMITS 31 16 * 16)) = true := by decide
theorem test_data_stopped : gives (.fabDec (dP 0 0)) { sDc with glb := { sDc.glb with stopped := true } } (fun t => t.hub.xbar == []) = true := by
  decide
theorem test_dec_disabled : (DataTaken sPo (dP 0 0) 1 ∧ (sPo.ctx 0).state = .disabled) ∧
    gives (.fabDec (dP 0 0)) sPo (fun t => t.out == [ackPkt sPo (dP 0 0) true] && t.reg K.FAB_DISCARD == 1 && t.rxNext 5 == 1) = true := by
  unfold DataTaken DataOpen Calm; decide
theorem test_dec_orphan : ((withCtx 0 .enabled sPo).launch? 0 (dSerial (dP 0 0)) = none) ∧
    gives (.fabDec (dP 0 0)) (withCtx 0 .enabled sPo) (fun t => t.fab.orphans.map (·.p) == [dP 0 0] && t.out == []) = true := by decide
theorem test_dec_enters : (DataTaken sDc (dP 0 0) 1 ∧ (sDc.launch? 0 (dSerial (dP 0 0))).isSome = true ∧ (sDc.ctx 0).state = .enabled) ∧
    gives (.fabDec (dP 0 0)) sDc (fun t => t.hub.xbar.length == 1 && t.out == [ackPkt sDc (dP 0 0) false] && t.fab.orphans == []) = true := by
  unfold DataTaken DataOpen Calm; decide
theorem test_dec_waits : sDc.mustHold (dP 0 4) = true ∧
    gives (.fabDec (dP 0 4)) sDc (fun t => t.fab.hold == [dP 0 4] && t.hub.xbar == [] && t.out == []) = true := by decide

/-- A SIG packet of value 8 for object 0 of context 0. -/
def sP (apply : Word) : Rec8 := pkt 2 0 apply 8 (word [(39, 38, 2)])
def sSg : State := regW K.FAB_CFG (7 * 4096 + 1) sNm
theorem test_sig_held : (DataTaken sSg (sP 4) 2 ∧ sigFrag (sP 4) = 0 ∧ sSg.mustHold (sP 4) = true) ∧
    gives (.fabSig (sP 4)) sSg (fun t => t.fab.hold == [sP 4] && (t.obj? 7).map (·.value) == some 5) = true := by
  unfold DataTaken DataOpen Calm; decide
theorem test_sig : (Maps sSg 0 (bits (sP 0).w4 63 40) 7 (ob false 5) ∧ sSg.waitersOf 7 = [] ∧ sSg.sync.heldWaits = []) ∧
    gives (.fabSig (sP 0)) sSg (fun t => (t.obj? 7).map (fun o => (o.value, o.lastChip)) == some (8, 5) && t.out.length == 1) = true := by
  unfold Maps; decide

/-- An ABANDONED object and an unmapped name are answered LOST. -/
def sSa : State := regW K.FAB_CFG (7 * 4096 + 1) (named { ob false 5 with abandoned := true } up)
theorem test_sig_abandoned : (DataTaken sSa (sP 0) 2 ∧ Maps sSa 0 (bits (sP 0).w4 63 40) 7 { ob false 5 with abandoned := true }) ∧
    gives (.fabSig (sP 0)) sSa (fun t => t.out == [ackPkt sSa (sP 0) true] && t.reg K.SYN_ABSIG == 1) = true := by
  unfold DataTaken DataOpen Calm Maps; decide
theorem test_sig_unmapped : (DataTaken sPo (sP 0) 2 ∧ sPo.savedOf 0 = none ∧ sPo.nameOf 0 (bits (sP 0).w4 63 40) = .unmapped) ∧
    gives (.fabSig (sP 0)) sPo (fun t => t.out.contains (ackPkt sPo (sP 0) true) && t.reg K.SYN_UNMAPPED == 1) = true := by
  unfold DataTaken DataOpen Calm; decide
/-- The announcement of a data-carried signal: an entry, or held while the table is full. -/
def aN : Rec8 := pkt 2 0 0 8 (word [(39, 38, 2), (36, 33, 3)])
theorem test_announcement : (DataTaken sSg aN 2 ∧ sigFrag aN ≠ 0 ∧ sSg.isLate aN = false ∧ sSg.pend? 5 (pSrcId aN) (sigTag aN) = none) ∧
    gives (.fabSig aN) sSg (fun t => t.sync.pend == [annPend aN] && t.out == []) = true := by
  unfold DataTaken DataOpen Calm; decide
theorem test_announcement_full : 4096 ≤ ({ sSg with sync := { sSg.sync with pend := List.replicate 4096 peT } } : State).sync.pend.length ∧
    ({ sSg with sync := { sSg.sync with pend := List.replicate 4096 peT } } : State).pend? 5 (pSrcId aN) (sigTag aN) = none :=
  ⟨Nat.le_of_eq (List.length_replicate).symm, find_replicate_none _ peT (by decide) 4096⟩

/-- Group 3 of `m` chips is bound to unit 9, whose cores `l` have arrived. -/
def sGp (m : Nat) (l : List (Nat × Nat × Nat)) : State :=
  let s := regW (K.GRP_CFG 3) (9 * 65536 + m) (withUnit (.bar 9) sPo)
  { s with sync := { s.sync with bars := [(9, { s.bar 9 with cur := ⟨l, []⟩, sent := !l.isEmpty })] } }
def aP (g : Word) : Rec8 := pkt 3 0 0 g 3
def rP (g : Word) : Rec8 := pkt 4 0 0 g 3
theorem test_bar_arrive : (DataTaken (sGp 3 []) (aP 0) 3 ∧ (sGp 3 []).barFull 9 = false ∧ (sGp 3 []).grpUnit 3 = 9 ∧
      (((sGp 3 []).grp 3).arrived.filter fun a => a.1 == 0).length + 1 < (sGp 3 []).grpMembers 3) ∧
    gives (.barArrive (aP 0)) (sGp 3 []) (fun t => (t.grp 3).arrived == [(0, 5)] && t.out.length == 1) = true := by
  unfold DataTaken DataOpen Calm; decide
theorem test_bar_release_stale : (DataTaken (sGp 3 []) (rP 7) 4 ∧ ((sGp 3 []).bar 9).gen ≠ genOf (rP 7)) ∧
    gives (.barRelease (rP 7)) (sGp 3 []) (fun t => (t.bar 9).gen == 0 && t.out.length == 1) = true := by
  unfold DataTaken DataOpen Calm; decide
theorem test_bar_release : (DataTaken (sGp 3 [(1, 9, 66)]) (rP 0) 4 ∧ ((sGp 3 [(1, 9, 66)]).bar 9).sent = true ∧
      ((sGp 3 [(1, 9, 66)]).bar 9).gen = genOf (rP 0)) ∧
    gives (.barRelease (rP 0)) (sGp 3 [(1, 9, 66)])
      (fun t => (t.bar 9).gen == 1 && t.out == [.lane 9 3 (notice 66 stOK 1), ackPkt sPo (rP 0) false]) = true := by
  unfold DataTaken DataOpen Calm; decide

/-! ## Remote requests, acknowledgements, timers -/

/-- A remote decrement of kind DEC for chip `c` by the task in shard 0, slot 5. -/
def rD (c amount : Nat) : Rec4 := ⟨word [(63, 32, h05), (19, 0, 1)], o3 0, word [(63, 54, c), (53, 38, amount)], 0⟩
def sRd : State := regW K.FAB_CFG (7 * 4096 + 1) (sTok (img2 0 1 1))
theorem test_remote_bad : sRd.running = true ∧ sRd.producerBad h05 9 0 = true ∧
    gives (.remoteDecRequest 9 (rD 5 0)) sRd (fun t => t.reg K.ERR_CONT == 1 && t.fld (K.SPR_ERRn 0) 15 0 == 1) = true := by decide
theorem test_remote_refused : (sRd.isG4 = true ∧ sRd.producerBad h05 4 0 = false ∧
      sRd.dropsItem 0 (ordSerial (sRd.slot 0 5).ordinal) = false ∧ sRd.remRefused (parseRemDec 4 (rD 0 0)) = true) ∧
    gives (.remoteDecRequest 4 (rD 0 0)) sRd (fun t => t.reg K.FAB_REFUSED == 1 && t.hub.remHeld == []) = true := by decide
theorem test_remote_held : sRd.remRefused (parseRemDec 4 (rD 5 0)) = false ∧
    gives (.remoteDecRequest 4 (rD 5 0)) sRd (fun t => t.hub.remHeld == [parseRemDec 4 (rD 5 0)]) = true := by decide
theorem test_remote_cancelled : ({ sRd with launches := [lC] } : State).dropsItem 0 3 = true ∧
    gives (.remoteDecRequest 4 (rD 5 0)) { sRd with launches := [lC] } (fun t => t.reg (K.SHD_CANCEL_DROP 0) == 1 && t.hub.remHeld == []) = true := by
  decide
theorem test_remote_g4e :
    gives (.remoteDecRequest 4 (rD 5 0)) { sRd with variant := .g4e } (fun t => t.fld (K.SPR_ERRn 0) 15 0 == 1 && t.hub.remHeld == []) = true := by
  decide
theorem test_remote_waits : gives (.remoteDecRequest 4 (rD 5 0)) { sRd with lanes := [((0, 4), [⟨1, tok 0⟩])] }
    (fun t => (t.lane 0 4).length == 2 && t.hub.remHeld == []) = true := by decide
def sRf2 : State := { sRd with hub := { sRd.hub with remHeld := List.replicate 256 (parseRemDec 4 (rD 5 0)) } }
theorem test_remote_full : 256 ≤ (sRf2.hub.remHeld.filter fun h => h.shard == 0).length ∧
    gives (.remoteDecRequest 4 (rD 5 0)) sRf2 (fun t => t.hub.remHeld.length == 256 && (t.lane 0 4).length == 1) = true := by decide +kernel

def kP : Rec8 := pkt 5 0 0 (word [(59, 59, 1), (57, 40, 77)]) 0
theorem test_fab_ack : (TakesCtrl sPo kP 5 ∧ ackSeqs kP = [77]) ∧
    gives (.fabAck kP) (fabW (fun f => { f with unacked := [⟨5, 76, 0⟩, ⟨5, 77, 0⟩] }) sPo) (·.fab.unacked == [⟨5, 76, 0⟩]) = true := by
  unfold TakesCtrl; decide

def sOr (tb : Nat) : State := { fabW (fun f => { f with orphans := [⟨dP 0 0, 9, false⟩] }) (withCtx 0 .enabled sPo) with tb := tb }
theorem test_orphan_early : gives (.orphanTimeout 5 0) (sOr 8) (· == sOr 8) = true := by decide
theorem test_orphan : ((sOr 9).fab.orphans.find? (fun o => pSrcChip o.p == 5 && pSeq o.p == 0)).isSome = true ∧
    gives (.orphanTimeout 5 0) (sOr 9)
      (fun t => t.fab.orphans == [] && t.reg K.FAB_ORPHAN == 1 && t.out.contains (ackPkt (sOr 9) (dP 0 0) true)) = true := by decide
def sGa (tb : Nat) : State := { fabW (fun f => { f with gaps := [⟨5, 9, [dP 3 0]⟩] }) (withCtx 0 .enabled sPo) with tb := tb }
theorem test_gap_early : gives (.gapTimeout 5) (sGa 8) (· == sGa 8) = true ∧ gives (.gapTimeout 5) sPo (· == sPo) = true := by decide
theorem test_gap : gives (.gapTimeout 5) (sGa 9)
    (fun t => t.gapOf 5 == none && t.rxNext 5 == 4 && t.reg K.FAB_LOST == 3 && t.fab.orphans.map (·.p) == [dP 3 0]) = true := by decide

/-! ## Resets, bring-up, throttle and stop -/

theorem test_cold : gives .coldReset { up with tb := 5 } (fun t => t.tb == 0 && t.glb.phase == .boot) = true := by decide
theorem test_block_reset : gives (.blockReset .line) { up with tb := 5 } (fun t => t.tb == 5 && t.glb.phase == .boot) = true := by decide
def vRs (key kind e : Nat) : W32 := BitVec.ofNat 32 (key * 2 ^ 24 + kind * 2 ^ 22 + e)
theorem test_reset_write : (ResetWrite up (vRs 0xB7 2 0) 2 ∧ up.glb.rstBusy = false) ∧
    gives (.blockReset (.write (vRs 0xB7 2 0))) up (·.glb.phase == .boot) = true ∧
    gives (.blockReset (.write (vRs 0xB6 2 0))) up (· == up) = true := by unfold ResetWrite; decide
def sTh : State := { up with disp := { up.disp with outOfReset := [4, 5] } }
theorem test_engine_reset : (ResetWrite sTh (vRs 0xB7 1 4) 1 ∧ sTh.live = true) ∧
    gives (.engineReset (vRs 0xB7 1 4)) sTh (fun t => t.glb.rstBusy && t.glb.rstEng == 4 && t.disp.outOfReset == [5]) = true ∧
    gives (.engineReset (vRs 0xB6 1 4)) sTh (· == sTh) = true := by unfold ResetWrite; decide
theorem test_reset_in_boot : State.reset.live = true ∧
    gives (.blockReset (.write (vRs 0xB7 2 0))) State.reset (fun t => t.reg K.BOOT_DROP == 1) = true ∧
    gives (.engineReset (vRs 0xB6 1 4)) State.reset (fun t => t.reg K.BOOT_DROP == 1) = true := by decide
theorem test_block_reset_clock : gives (.blockReset .line) { up with fmhz := 1000, glb := { up.glb with thrReq := true } }
    (fun t => t.fmhz == 1000 && t.glb.thrReq && t.tbPhase == 0) = true := by decide
def sEr : State := { sLnd with glb := { sLnd.glb with rstBusy := true, rstEng := 4 } }
theorem test_engine_reset_complete : (sEr.glb.rstBusy = true ∧ sEr.live = true ∧ sEr.glb.enable = true) ∧
    gives .engineResetComplete sEr
      (fun t => !t.glb.rstBusy && t.glb.rstCount == 1 && t.engine 4 == Eng.zero && (t.slot 0 5).state != .running) = true ∧
    gives .engineResetComplete up (· == up) = true := by decide
theorem test_engine_reset_waits : ({ sEr with lanes := [((1, 4), [⟨4, ⟨0, 0, 0, 0⟩⟩])] } : State).lanesEmpty 4 = false ∧
    gives .engineResetComplete { sEr with lanes := [((1, 4), [⟨4, ⟨0, 0, 0, 0⟩⟩])] } (fun t => t.glb.rstBusy) = true := by decide
/-- Lane M of engine 4 holds a send; lane S carries contexts and lane M records that name none. -/
def sFl : State := { up with lanes := [((2, 4), [⟨5, ⟨0, 0, 0, 0⟩⟩])] }
theorem test_fifo_reset_lane : ((sFl.fifoRecs 0x2004).length = 1 ∧ fifoNoCtx 0x2004 = true ∧ fifoClasses 0x2004 ≠ 0) ∧
    gives (.fifoReset 0x2004 []) sFl (fun t => t.lane 2 4 == [] && t.reg K.FIFO_LOST == 1 &&
      t.reg K.AUD_CTX_HI == BitVec.allOnes 32) = true ∧
    gives (.fifoReset 0x2004 []) up (fun t => t.reg K.FIFO_LOST == 0 && t.reg K.AUD_CTX_LO == BitVec.allOnes 32 &&
      t.reg K.AUD_UNC == 0x40) = true ∧ fifoNoCtx 0x1004 = false := by decide
theorem test_fifo_reset : Writable up ∧
    gives (.fifoReset 0 [⟨false, none⟩, ⟨true, some 3⟩]) up (fun t => t.reg K.FIFO_LOST == 2 && t.reg K.ERR_CONT == 1 && t.reg K.AUD_UNC != 0) = true ∧
    gives (.fifoReset 0 []) up (fun t => t.reg K.FIFO_LOST == 0 && t.reg K.ERR_CONT == 1 && t.reg K.AUD_UNC == 0) = true := by
  unfold Writable; decide
theorem test_self_init : State.reset.glb.phase = .boot ∧
    gives (.selfInitDone 0x0B) State.reset (fun t => t.glb.phase == .setup && t.glb.bistFail && t.glb.bistUnit == 0x0B) = true ∧
    gives (.selfInitDone 0x0B) up (· == up) = true := by decide

def sSe (bist : Bool) : State := { State.reset with glb := { Glb.zero with phase := .setup, siDone := true, bistFail := bist } }
def sRy : State := { State.reset with glb := { Glb.zero with phase := .ready, siDone := true, initDone := true } }
theorem test_init_done : Writable (sSe false) ∧ gives (.initDone 2) (sSe false) (fun t => t.glb.initDone && t.glb.phase == .ready) = true ∧
    gives (.initDone 2) (sSe true) (· == sSe true) = true := by unfold Writable; decide
theorem test_gbl_enable : (∀ u, (sRy.unit u).enable = false) ∧
    gives (.gblEnable 1) sRy (fun t => t.glb.enable && t.glb.phase == .run && t.disp.outOfReset.length == 1024) = true ∧
    gives (.gblEnable 1) up (· == up) = true := by
  refine ⟨fun _ => rfl, ?_⟩
  decide +kernel

def sRyU (u : UnitId) (s : State) : State := s.setUnit u ⟨true, false, false, false⟩
theorem test_gbl_enable_units : Begins (sRyU (.ring 2) sRy) (.ring 2) ∧ Begins (sRyU (.queue 3) sRy) (.queue 3) ∧
    gives (.gblEnable 1) (sRyU (.ring 2) sRy) (fun t => t.unit (.ring 2) == ⟨true, true, false, false⟩) = true ∧
    gives (.gblEnable 1) (sRyU (.queue 3) sRy)
      (fun t => t.unit (.queue 3) == UnitEn.off && (t.queue 3).cfgStatus == stUNSUPPORTED) = true := by
  refine ⟨⟨rfl, rfl⟩, ⟨rfl, rfl⟩, ?_⟩
  decide +kernel
def sRyC (c : Nat) : State := sRyU (.ctx c) (regW (K.CEL_SIZE c) 577 (regW (K.CTX_LT_N c) 1024 (regW (K.CTX_TPL_N c) 1025 sRy)))
theorem test_gbl_enable_ctx : Begins (sRyC 2) (.ctx 2) ∧ (sRyC 2).ctxChecks 2 = true ∧
    (∀ d, d ≠ 2 → ((sRyC 2).unit (.ctx d)).enable = false) ∧
    gives (.gblEnable 1) (sRyC 2) (fun t => t.unit (.ctx 2) == ⟨true, true, false, false⟩ && (t.ctx 2).state == .enabled) = true := by
  refine ⟨⟨rfl, rfl⟩, by decide, fun d hd => ?_, by decide +kernel⟩
  exact congrArg UnitEn.enable (Tab.get_put_other UnitEn.off [] _ fun e => hd (by injection e with e; exact e.symm))

def sTq : State := { up with glb := { up.glb with thrReq := true, thrAck := true } }
theorem test_throttle : gives (.thrReq 10) up (fun t => t.fmhz == 1000 && t.out == [.thrAck true] && t.fld K.THR_STAT 31 16 == 1) = true ∧
    gives (.thrReq 16) up (· == up) = true := by decide
theorem test_throttle_release : gives .thrReqRelease sTq (fun t => !t.glb.thrReq && t.out == [.thrAck false]) = true ∧
    gives .thrReqRelease up (· == up) = true ∧ gives (.thrReq 12) sTq (· == sTq) = true := by decide

theorem test_stop_line : gives .stopLine up (fun t => t.glb.armed && t.glb.stopCause == 1 && t.glb.tStop == up.stopLead) = true ∧
    gives .stopLine State.reset (fun t => !t.glb.armed) = true := by decide
def sSr : State := regW K.STOP_CTRL (2 ^ 30) (sRoot 2 [5])
theorem test_stop_line_group : (sSr.isStartRoot = true ∧ sSr.flag K.STOP_CTRL 30 = true ∧ sSr.fab.startCount = [5] ∧ 5 ≠ sSr.chipId ∧
      PortFree sSr) ∧
    gives .stopLine sSr (fun t => t.out.length == 1 && t.glb.tStop == sSr.fld K.FAB_STOP 30 0) = true := by unfold PortFree; decide
theorem test_stop_go : up.isStartRoot = true ∧ sPo.isStartRoot = true ∧ (regW K.FAB_START (2 ^ 20) up).isStartRoot = false ∧
    gives (.stopGo 0x80000000) (regW K.FAB_START (2 ^ 20) up) (fun t => t.glb.armed && t.glb.stopCause == 2) = true ∧
    gives (.stopGo 1) up (fun t => !t.glb.armed) = true := by decide
def sAr (t : Nat) : State := { up with tb := 9, glb := { up.glb with armed := true, tStop := t } }
theorem test_stop_cut : gives .stopCut (sAr 9) (fun t => t.glb.stopped && t.glb.stopCut == 9 && t.fld K.OBS_CTRL 23 0 == 2 ^ 24 - 1) = true ∧
    gives .stopCut (sAr 10) (fun t => !t.glb.stopped) = true := by decide

/-! ## Errors, injection and the dump -/

theorem test_scrub_corrects : gives (.scrub 0x18 1 2 2) (regW K.ERR_CFG (2 ^ 31) up)
      (fun t => t.reg K.ERR_CORR == 1 && t.glb.errLog.length == 1 && !t.glb.fatal) = true ∧
    gives (.scrub 0x18 1 2 1) up (fun t => t.reg K.ERR_CORR == 1 && t.glb.errLog == []) = true ∧
    gives (.scrub 0x18 1 2 0) up (· == up) = true := by decide
theorem test_scrub_fatal : gives (.scrub 0x18 1 2 3) up
    (fun t => t.glb.fatal && t.glb.fatalUnit == 0x18 && t.fld K.AUD_UNC 9 0 == 0x3FF && t.flag K.IRQ_CAUSE 1) = true := by decide
def sLg : State := { up with glb := { up.glb with errLog := [⟨1, 0, 0, 0⟩, ⟨2, 0, 0, 0⟩] } }
theorem test_err_pop : gives (.errPop 1) sLg (·.glb.errLog == [⟨2, 0, 0, 0⟩]) = true ∧ gives (.errPop 2) sLg (· == sLg) = true := by decide
def sHf (tb : Nat) (m : Bool) : State := { up with tb := tb, glb := { up.glb with errHoldoff := some 9, errMerged := m } }
theorem test_holdoff : gives .errHoldoffExpiry (sHf 9 true) (fun t => t.out == [.msix 61] && t.glb.errHoldoff == some 1009) = true ∧
    gives .errHoldoffExpiry { sHf 9 true with cyc := { up.cyc with vecs := [61] } }
      (fun t => t.out == [] && t.glb.errHoldoff == some 1009) = true ∧
    gives .errHoldoffExpiry (sHf 9 false) (fun t => t.out == [] && t.glb.errHoldoff == none) = true ∧
    gives .errHoldoffExpiry (sHf 8 true) (· == sHf 8 true) = true := by decide
def sFa : State := { up with tb := 7, glb := { up.glb with fatal := true } }
theorem test_dump_go : gives (.dumpGo 1) sFa (fun t => t.glb.dumpBusy && t.glb.dumpStart == 7) = true ∧ gives (.dumpGo 1) up (· == up) = true := by
  decide
def sBw : State := { sFa with glb := { sFa.glb with dumpBusy := true, badWords := [(0x18, 1, 2)] } }
theorem test_bad_word : gives (.scrub 0x18 1 2 3) up (·.glb.badWords == [(0x18, 1, 2)]) = true ∧
    sBw.dumpLost = ((Config.dumpPlace 0x18 1 2).map (8 * ·)).filter (fun o => decide (0x1000 ≤ o) && decide (o < 0x3F00000)) := by
  refine ⟨by decide, ?_⟩
  simp [State.dumpLost, sBw]
theorem test_lost_word : lostWord [0x1008, 0x1010, 0x4000] 1 = word [(63, 32, 2), (31, 0, 0x1008)] ∧ lostWord [0x4000] 1 = 0 := by decide
def sDu : State := { regW K.DUMP_BASE_LO 0x100000 sFa with glb := { sFa.glb with dumpBusy := true } }
theorem test_dump_complete : gives .dumpComplete sDu (fun t => t.glb.dumpDone && !t.glb.dumpBusy && !t.glb.dumpError) = true ∧
    gives .dumpComplete up (· == up) = true := by decide +kernel
theorem slotWords_length (x : Slot) : (slotWords x).length = 4 := rfl
theorem slotParts_fit (s : State) (h : s.shards ≤ 16) : ∀ p ∈ slotParts s, p.1 + 8 * p.2.length ≤ dumpSize := by
  intro p hp
  obtain ⟨n, hn, rfl⟩ := List.mem_map.1 hp
  have hn := List.mem_range.1 hn
  have e : (List.map (fun _ : Nat => 4) (List.range 16384)).sum = 65536 := by
    rw [List.map_const', List.length_range, List.sum_replicate_nat]
  simp only [List.length_flatMap, slotWords_length, e, dumpSize]
  omega
theorem test_dump_parts : ∀ p ∈ dumpParts sDu, p.1 + 8 * p.2.length ≤ dumpSize := by
  rw [dumpParts]
  simp only [List.forall_mem_append]
  refine ⟨⟨⟨⟨⟨⟨⟨⟨⟨⟨?_, ?_⟩, ?_⟩, ?_⟩, ?_⟩, ?_⟩, ?_⟩, ?_⟩, slotParts_fit sDu (by decide)⟩, ?_⟩, ?_⟩ <;> decide +kernel

def sTs (fifo : Nat) (i : Option (Nat × Nat)) : State :=
  { regW K.TST_FIFO fifo (regW K.TST_CFG 1 up) with glb := { up.glb with inj := i } }
def vIn (key kind u : Nat) : W32 := BitVec.ofNat 32 (key * 2 ^ 24 + kind * 2 ^ 21 + u * 2 ^ 15)
theorem test_inj : (Writable (sTs 0 none) ∧ (sTs 0 none).unitCodeOk 0x18 = true ∧ (sTs 0 none).fifoOk 0 = true) ∧
    gives (.tstInj (vIn 0xC3 3 0x18)) (sTs 0 none) (·.glb.inj == some (3, 0x18)) = true ∧
    gives (.tstInj (vIn 0xC3 4 0)) (sTs 0 none) (·.glb.inj == some (4, 0)) = true := by unfold Writable; decide
theorem test_inj_dropped : gives (.tstInj (vIn 0xC2 3 0x18)) (sTs 0 none) (·.glb.inj == none) = true ∧
    gives (.tstInj (vIn 0xC3 3 0x18)) (sTs 0 (some (1, 2))) (·.glb.inj == some (1, 2)) = true := by decide
theorem test_inject : gives .injectionApply (sTs 0 (some (2, 0x18))) (fun t => t.reg K.ERR_CORR == 1 && t.fld K.TST_STAT 15 0 == 1) = true ∧
    gives .injectionApply (sTs 0 (some (3, 0x18))) (·.glb.fatal) = true := by decide
theorem test_inject_lane : gives .injectionApply (let s := sTs 0x2004 (some (4, 0x2004)); { s with lanes := sFl.lanes })
    (fun t => t.reg K.FIFO_LOST == 1 && t.lane 2 4 == [] && t.fld K.TST_STAT 15 0 == 1) = true := by decide
theorem test_inj_boot : gives (.tstInj (vIn 0xC3 3 0x18)) State.reset (fun t => t.reg K.BOOT_DROP == 0) = true := by decide
theorem test_inject_fifo : gives .injectionApply (sTs 0 (some (4, 0))) (fun t => t.glb.inj == none && t.reg K.ERR_CONT == 1) = true ∧
    gives .injectionApply (sTs 0 none) (· == sTs 0 none) = true := by decide

/-! ## Observation -/

def pm (n : Nat) : Pmc := ⟨n, false, false⟩
def sPm (cfg n : Nat) : State := regW (K.PMC_CFG 3 0) cfg { up with obs := { up.obs with pmc := [((3, 1), pm n)] } }
theorem test_snap : gives (.obsSnap 0x80000000) { sPm 0 5 with tb := 7 }
      (fun t => t.obs.snap == some [((3, 1), pm 5)] && t.bank64 K.OBS_SNAP == 7) = true ∧
    gives (.obsFrz 8) (sPm 0 5) (fun t => t.frozen 3 && t.obs.snap == none) = true := by decide
theorem test_wrap : State.pmcOf (sPm 0 (2 ^ 48 - 1)).obs.pmc 3 1 = pm (2 ^ 48 - 1) ∧
    gives (.counterWrap 3 1 1) (sPm (2 ^ 31 + 3 * 512) (2 ^ 48 - 1))
      (fun t => t.obs.pmc == [((3, 1), ⟨0, true, false⟩)] && t.flag K.OBS_STAT 3 && t.flag K.IRQ_CAUSE 3 && t.obs.frzNext &&
        t.fld K.OBS_CTRL 23 0 == 0) = true ∧
    gives (.counterWrap 3 1 1) (sPm (3 * 512) (2 ^ 48 - 1)) (· == sPm (3 * 512) (2 ^ 48 - 1)) = true ∧
    gives (.counterWrap 3 1 1) (sPm 0 5) (· == sPm 0 5) = true := by decide

def sSm (busy : Bool) (tb : Nat) : State :=
  let s := regW K.SMP_CTRL (2 ^ 31 + 8) (regW K.SMP_SIZE 1 (regW K.SMP_PERIOD 1024 <| regW K.SMP_BASE_LO 0x100000 up))
  { s with tb := tb, obs := { s.obs with smpBusy := busy } }
theorem test_sample_lost : (sSm true 1024).flag K.SMP_CTRL 31 = true ∧ (sSm true 1024).smpPeriod = 1024 ∧
    gives .sampleWindow (sSm true 1024) (fun t => t.reg K.SMP_LOST == 1 && t.obs.smpNext == 1) = true ∧
    gives .sampleWindow (sSm true 1023) (· == sSm true 1023) = true := by decide
def sSmF (wrap : Bool) : State :=
  let s := sSm false 1024
  regW K.SMP_CTRL (2 ^ 31 + 8 + if wrap then 2 ^ 30 else 0) (regW K.SMP_PROD s.smpPositions s)
theorem test_sample_wrap : (sSmF true).smpHeld = (sSmF true).smpPositions ∧
    gives .sampleWindow (sSmF true) (fun t => t.reg K.SMP_LOST == 1 && t.obs.smpBusy && t.byteAt 0x100007 == 1) = true ∧
    gives .sampleWindow (sSmF false) (fun t => t.reg K.SMP_LOST == 1 && !t.obs.smpBusy && t.mem == []) = true := by decide +kernel
theorem test_sample : ((sSm false 1024).smpPositions ≠ 0 ∧ (sSm false 1024).smpHeld < (sSm false 1024).smpPositions) ∧
    gives .sampleWindow (sSm false 1024) (fun t => t.reg K.SMP_PROD == 1 && t.obs.smpBusy && t.byteAt 0x100007 == 1) = true ∧
    gives .sampleWriteComplete (sSm true 0) (fun t => !t.obs.smpBusy) = true := by decide +kernel

def sTr (lost : Nat) (l : List Rec4) : State := { up with obs := { up.obs with trace := l, traceLost := lost } }
theorem test_trace_idle : gives .traceSend (sTr 0 []) (·.out == [.frame 0 idleFrame]) = true ∧ gives .traceSend State.reset (·.out == []) = true := by
  decide
theorem test_trace_send : gives .traceSend (sTr 0 [⟨1, 2, 3, 4⟩]) (fun t => t.obs.trace == [] && t.reg K.TRC_REC == 1 && t.out.length == 1) = true ∧
    gives .traceSend (sTr 2 [⟨1, 2, 3, 4⟩]) (fun t => t.obs.trace.length == 1 && t.obs.traceLost == 0) = true := by decide +kernel

def sMk (budget : Nat) : State := let s := regW K.TRC_CTRL (2 ^ 30) up; { s with obs := { s.obs with budget := budget } }
theorem test_mark : gives (.trcMark 77) (sMk 1) (fun t => t.obs.trace.map (·.w3) == [77] && t.obs.budget == 0) = true ∧
    gives (.trcMark 77) (sMk 0) (fun t => t.obs.trace == [] && t.reg K.TRC_LOST == 1 && t.obs.traceSeq == 1) = true ∧ gives (.trcMark 77) up (· == up) = true := by
  decide

def aW : Access := ⟨1, 0x1000, 8, none⟩
def sWp (cfg : Nat) : State := regW (K.WP_BASE_LOn 2) 0x1000 (regW (K.WP_CFGn 2) (cfg + 12) up)
theorem test_watch : (sWp (2 ^ 31 + 2 ^ 21 + 2 ^ 18)).wpMatches 2 aW = true ∧
    gives (.watch 2 aW) (sWp (2 ^ 31 + 2 ^ 21 + 2 ^ 18)) (fun t => t.reg (K.WP_HITn 2) == 1 && t.flag K.IRQ_CAUSE 4) = true ∧
    gives (.watch 2 aW) (sWp (2 ^ 21)) (· == sWp (2 ^ 21)) = true := by decide

theorem test_watch_stop : (sWp (2 ^ 31 + 2 ^ 21 + 2 ^ 17)).wpMatches 2 aW = true ∧
    gives (.watch 2 aW) (regW K.FAB_START (2 ^ 20) (sWp (2 ^ 31 + 2 ^ 21 + 2 ^ 17)))
      (fun t => t.reg (K.WP_HITn 2) == 1 && t.glb.armed && t.glb.stopCause == 3) = true := by decide
def sHg (busy : Bool) : State := let s := regW K.HANG_BASE_LO 0x100000 up; { s with obs := { s.obs with hangBusy := busy } }
theorem test_hang_go : gives (.hangGo 0x80000000) (sHg false) (fun t => t.obs.hangBusy && t.obs.hangReason == 1) = true ∧
    gives (.hangGo 0x80000000) (sHg true) (fun t => t.reg K.HANG_SKIP == 1) = true ∧ gives (.hangGo 1) (sHg false) (fun t => !t.obs.hangBusy) = true := by
  decide
theorem test_hang_done : ((∀ e ∈ (sHg true).queues, e.1 < 65536) ∧ (sHg true).allWaiters.length ≤ 65536 ∧ (sHg true).runningCbs.length ≤ 65536) ∧
    gives .hangDone (sHg true) (fun t => t.obs.hangDone && !t.obs.hangBusy && t.flag K.IRQ_CAUSE 6) = true ∧
    gives .hangDone (sHg false) (· == sHg false) = true := by decide +kernel

/-! ## Register accesses -/

theorem test_host_bad : up.badAccess .host 0x1001 4 = true ∧ up.badAccess .mgmt 0 4 = false ∧
    gives (.registerWrite .host 0x1001 4 5) up (fun t => t.reg K.HOST_BAD == 1) = true ∧
    gives (.hostBad .host 0x1001 4 true) up (fun t => t.out == [.readData .host 4 0]) = true := by decide
theorem test_host_bad_read : gives (.rcRead .mgmt 0x1001 4) up (fun t => t.reg K.HOST_BAD == 1 && t.out == [.readData .mgmt 4 0]) = true ∧
    gives (.hostBad .mgmt 0 4 false) up (· == up) = true ∧ gives (.hostBad .host 0x1001 4 false) up (fun t => t.reg K.HOST_BAD == 1) = true := by
  decide

def sLt : State := { up with selHost := { up.selHost with latch := some (⟨0, 0, 0x7028⟩, 9) } }
theorem test_latch : up.target .host 0x7028 = some ⟨0, 0, 0x7028⟩ ∧
    gives (.rcRead .host 0x7028 4) sLt (fun t => t.out == [.readData .host 4 9] && t.selHost.latch == none) = true := by decide
theorem test_read_clears : (up.sel .host).latch = none ∧ (up.wide64 (up.sel .host) K.ERR_CONT).isSome = false ∧ pairLow K.ERR_CONT = false ∧
    (regDesc K.ERR_CONT).isSome = true ∧ up.target .host 0x40C = some K.ERR_CONT ∧ up.readClears 0x40C = true := by decide
theorem test_rc_read : gives (.rcRead .host 0x40C 4) (regW K.ERR_CONT 7 up) (fun t => t.out == [.readData .host 4 7] && t.reg K.ERR_CONT == 0) = true := by
  decide
theorem test_acting_write : (0x418, Instr.errPop (lo32 1)) ∈ writeCmds .host (lo32 1) ∧
    gives (.registerWrite .host 0x418 4 1) sLg (·.glb.errLog == [⟨2, 0, 0, 0⟩]) = true := by
  constructor
  · simp [writeCmds]
  · decide
theorem test_flat_write : (0x701C ∉ actingRegs ∧ (regDesc ⟨0, 0, 0x701C⟩).isSome = true) ∧
    gives (.registerWrite .mgmt 0x701C 4 0x00050003) up (fun t => t.fld K.FAB_LIMITS 15 0 == 3) = true ∧
    gives (.registerWrite .mgmt 0x701C 4 0x00050003) State.reset
      (fun t => t.reg K.BOOT_DROP == 1 && t.reg K.FAB_LIMITS == State.reset.reg K.FAB_LIMITS) = true := by decide
theorem test_win_sel : gives (.winSel .host 0xFF000005#32) sLt
    (fun t => t.selHost.winSel == 0xF0000005#32 && t.selHost.latch == none && t.selMgmt == sLt.selMgmt) = true := by decide
/-- ERR_CONT counted twice in this hub cycle, from 5. -/
def sUp : State := { regW K.ERR_CONT 7 up with cyc := { up.cyc with upd := [(K.ERR_CONT, some (5, 2))] } }
theorem test_rc_update_kept : Tab.get none sUp.cyc.upd K.ERR_CONT = some (5, 2) ∧
    gives (.rcRead .host 0x40C 4) sUp (fun t => t.out == [.readData .host 4 5] && t.reg K.ERR_CONT == 2) = true := by decide
theorem test_rc_boot : State.reset.readClears 0x40C = false ∧
    gives (.rcRead .host 0x40C 4) (regW K.ERR_CONT 7 State.reset) (fun t => t.reg K.ERR_CONT == 7) = true := by decide
def sIq : State := regW K.IRQ_EN 0 (regW K.IRQ_CAUSE 8 up)
theorem test_irq_en : gives (.irqEn 8) sIq (fun t => t.out == [.msix (sIq.fld K.IRQ_VEC 29 24)]) = true ∧
    gives (.irqEn 8) { sIq with cyc := { sIq.cyc with vecs := [sIq.fld K.IRQ_VEC 29 24] } } (·.out == []) = true ∧
    gives (.irqEn 0x7) up (fun t => t.out == [] && t.reg K.IRQ_EN == 7) = true := by decide

/-! ## The whole block -/

theorem test_reset_inv : MemInv State.reset ∧ SeqInv State.reset := by
  refine ⟨?_, fun c hc => absurd hc (by simp [State.reset])⟩
  unfold MemInv; decide
theorem test_reset_values : State.reset.reg K.FRM_LEN = 10000 ∧ State.reset.reg K.IRQ_EN = 0x7F ∧ State.reset.fld K.FAB_STOP 30 0 = 20000 := by
  decide
/-- A step that keeps both invariants, and one before INIT_DONE. -/
theorem test_step_keeps : (match step { sD dCp with pending := [.dmaComplete 4 false ⟨0, 0, 0, 0⟩] } with | .next t => decide (t.mem.length = 4) | _ => false) = true ∧
    (match step { State.reset with pending := [.selfInitDone 0] } with | .next t => t.out == [] && !t.glb.initDone | _ => false) = true := by
  decide

end Sys2Proof.Tests
end

section
/-! SUPPORT. The hub clock: only `tickTime` moves it, whatever the records of the lanes and the announcements do. -/

namespace Sys2Proof.Machine

/-! ## Conditions and folds -/

@[simp] theorem ifThen_hc (c : Bool) (f : State → State) (s : State) : (ifThen c f s).hc = if c then (f s).hc else s.hc :=
  apply_ite State.hc _ _ _

@[simp] theorem ite_hc (p : Prop) [Decidable p] (s t : State) : (if p then s else t).hc = if p then s.hc else t.hc :=
  apply_ite State.hc p s t

/-- What every step of a fold keeps, the fold keeps. -/
theorem foldl_field {α β : Type} (g : State → β) {f : State → α → State} (h : ∀ t a, g (f t a) = g t) (l : List α) (s : State) :
    g (l.foldl f s) = g s := by
  induction l generalizing s with
  | nil => rfl
  | cons a t ih => exact (ih (f s a)).trans (h s a)

@[simp] theorem foldl_hc {α : Type} {f : State → α → State} (h : ∀ t a, (f t a).hc = t.hc) (l : List α) (s : State) :
    (l.foldl f s).hc = s.hc :=
  foldl_field State.hc h l s

@[simp] theorem whenRunning_hc {f : State → State} {s : State} (h : (f s).hc = s.hc) : (whenRunning f s).hc = s.hc := by
  simp [whenRunning, h]

/-! ## The fabric port -/

@[simp] theorem fabOut_hc (p : Rec8) (s : State) : (fabOut p s).hc = s.hc := by simp [fabOut]

@[simp] theorem fabFlush_hc (s : State) : (fabFlush s).hc = s.hc := by simp [fabFlush]

@[simp] theorem fabSend_hc (p : Rec8) (s : State) : (fabSend p s).hc = s.hc := by simp [fabSend]

@[simp] theorem ackOf_hc (p : Rec8) (lost : Bool) (s : State) : (ackOf p lost s).hc = s.hc := by simp [ackOf, ackItem]

/-! ## Launches that fail -/

@[simp] theorem voidGrant_hc (sh n : Nat) (s : State) : (voidGrant sh n s).hc = s.hc := by simp [voidGrant]

@[simp] theorem dropRemHeld_hc (ctx serial : Nat) (s : State) : (dropRemHeld ctx serial s).hc = s.hc :=
  foldl_hc (f := fun t (r : RemDec) => cancelDrop r.shard t) (fun _ _ => rfl) _ _

@[simp] theorem cancelRemainder_hc (ctx serial : Nat) (s : State) : (cancelRemainder ctx serial s).hc = s.hc := by
  simp [cancelRemainder]

@[simp] theorem cancelLaunch_hc (ctx serial : Nat) (s : State) : (cancelLaunch ctx serial s).hc = s.hc := by simp [cancelLaunch]

@[simp] theorem failLaunch_hc (ctx serial cause : Nat) (s : State) : (failLaunch ctx serial cause s).hc = s.hc := by
  unfold failLaunch; split <;> simp

@[simp] theorem reportLaunch_hc (unit code ctx serial cause : Nat) (detail : Word) (s : State) :
    (reportLaunch unit code ctx serial cause detail s).hc = s.hc := by
  simp [reportLaunch]

@[simp] theorem reportBreach_hc (unit ctx serial : Nat) (s : State) : (reportBreach unit ctx serial s).hc = s.hc := by
  unfold reportBreach; split <;> simp

@[simp] theorem dataFault_hc (unit ctx serial a : Nat) (s : State) : (dataFault unit ctx serial a s).hc = s.hc := by simp [dataFault]

/-! ## Lane T: tokens, sprout records and remote decrements -/

@[simp] theorem tokenDrop_hc (stale : Bool) (t : Token) (s : State) : (tokenDrop stale t s).hc = s.hc := by simp [tokenDrop]

@[simp] theorem tokenCounts_hc (sh n : Nat) (v : Slot) (t : Token) (s : State) : (tokenCounts sh n v t s).hc = s.hc := by
  simp [tokenCounts]

@[simp] theorem tokenAccept_hc (sh n : Nat) (v : Slot) (t : Token) (s : State) : (tokenAccept sh n v t s).hc = s.hc := by
  simp [tokenAccept]

@[simp] theorem tokenTake_hc (t : Token) (s : State) : (tokenTake t s).hc = s.hc := by simp [tokenTake]

@[simp] theorem tokenRun_hc (r : Rec4) (s : State) : (tokenRun r s).hc = s.hc := by simp [tokenRun]

@[simp] theorem sproutRefuse_hc (sh : Nat) (r : SprRec) (serial : Nat) (s : State) : (sproutRefuse sh r serial s).hc = s.hc := by
  simp [sproutRefuse]

@[simp] theorem sproutAccept_hc (sh n : Nat) (v : Slot) (r : SprRec) (rule home : Nat) (s : State) :
    (sproutAccept sh n v r rule home s).hc = s.hc := by
  simp [sproutAccept]

@[simp] theorem sproutTake_hc (eng : Nat) (r : SprRec) (s : State) : (sproutTake eng r s).hc = s.hc := by
  unfold sproutTake
  dsimp only
  repeat' split
  all_goals simp

@[simp] theorem remoteDec_hc (eng : Nat) (d : RemDec) (s : State) : (remoteDec eng d s).hc = s.hc := by simp [remoteDec, remStale]

/-! ## Lane S: waits and signals -/

@[simp] theorem notePoison_hc (ctx v : Nat) (s : State) : (notePoison ctx v s).hc = s.hc := by simp [notePoison]

@[simp] theorem noteUnmapped_hc (ctx v : Nat) (poison : Bool) (s : State) : (noteUnmapped ctx v poison s).hc = s.hc := by
  simp [noteUnmapped]

@[simp] theorem answerWaiter_hc (w : Waiter) (st value chip src : Nat) (s : State) :
    (answerWaiter w st value chip src s).hc = s.hc := by
  simp [answerWaiter]

@[simp] theorem dropWaiter_hc (w : Waiter) (s : State) : (dropWaiter w s).hc = s.hc := rfl

@[simp] theorem scopeStatus_hc (w : Waiter) (chip src sc : Nat) (s : State) : (scopeStatus w chip src sc s).2.hc = s.hc := by
  unfold scopeStatus; split <;> simp

@[simp] theorem releaseBy_hc (w : Waiter) (value chip src sc : Nat) (s : State) : (releaseBy w value chip src sc s).hc = s.hc := by
  simp [releaseBy]

@[simp] theorem noteOverflow_hc (o : Obj) (s : State) : (noteOverflow o s).hc = s.hc := by simp [noteOverflow]

@[simp] theorem signalObj_hc (p : Nat) (g : Sig) (task : Word) (s : State) : (signalObj p g task s).hc = s.hc := by
  unfold signalObj; split <;> simp

@[simp] theorem intakeStatus_hc (w : Waiter) (o : Obj) (s : State) : (intakeStatus w o s).2.hc = s.hc := by
  unfold intakeStatus; split <;> simp

@[simp] theorem intakeOn_hc (w : Waiter) (o : Obj) (s : State) : (intakeOn w o s).hc = s.hc := by simp [intakeOn]

@[simp] theorem saveWaiter_hc (ctx : Nat) (w : Waiter) (v : Saved) (s : State) : (saveWaiter ctx w v s).hc = s.hc := by
  unfold saveWaiter; split <;> simp

@[simp] theorem intakeFe_hc (ring idx pos : Nat) (s : State) : (intakeFe ring idx pos s).hc = s.hc := by
  unfold intakeFe
  dsimp only
  repeat' split
  all_goals simp

@[simp] theorem admitHeld_hc (n : Nat) (s : State) : (admitHeld n s).hc = s.hc := by
  induction n generalizing s with
  | zero => rfl
  | succ n ih => unfold admitHeld; split <;> simp [ih]

@[simp] theorem admitHeldWaits_hc (s : State) : (admitHeldWaits s).hc = s.hc := admitHeld_hc _ s

@[simp] theorem signalSaved_hc (g : Sig) (v : Saved) (s : State) : (signalSaved g v s).hc = s.hc := by
  unfold signalSaved
  split
  · exact noteUnmapped_hc ..
  · dsimp only
    split
    · exact bump_hc ..
    · split
      · exact (auditMark_hc ..).trans ((errContained_hc ..).trans (noteRead_hc ..))
      · rw [pmc_hc, ifThen_hc, noteOverflow_hc, ite_self, writeWords_hc, State.setCtx_hc, noteRead_hc]

@[simp] theorem signalNamed_hc (g : Sig) (task : Word) (s : State) : (signalNamed g task s).2.hc = s.hc := by
  unfold signalNamed
  repeat' split
  all_goals simp

@[simp] theorem remoteSignal_hc (src : Nat) (r : Rec4) (s : State) : (remoteSignal src r s).hc = s.hc := by simp [remoteSignal]

@[simp] theorem engineSignal_hc (src : Nat) (r : Rec4) (s : State) : (engineSignal src r s).hc = s.hc := by simp [engineSignal]

@[simp] theorem engineWaitRun_hc (src : Nat) (r : Rec4) (s : State) : (engineWaitRun src r s).hc = s.hc := by
  unfold engineWaitRun engineWait
  dsimp only
  repeat' split
  all_goals simp [openWord]

/-! ## Lane S: arrivals at barriers -/

@[simp] theorem answerCore_hc (a : Nat × Nat × Nat) (st gen : Nat) (s : State) : (answerCore a st gen s).hc = s.hc := by
  simp [answerCore]

@[simp] theorem answerGen_hc (g : BarGen) (st gen : Nat) (s : State) : (answerGen g st gen s).hc = s.hc := by simp [answerGen]

@[simp] theorem barRelease_hc (u : Nat) (s : State) : (barRelease u s).hc = s.hc := by simp [barRelease, seat]

@[simp] theorem grpRelease_hc (g gen : Nat) (s : State) : (grpRelease g gen s).hc = s.hc := by simp [grpRelease]

@[simp] theorem rootArrive_hc (g gen chip : Nat) (s : State) : (rootArrive g gen chip s).hc = s.hc := by
  simp [rootArrive, rootRelease]

@[simp] theorem grpArrive_hc (u g : Nat) (s : State) : (grpArrive u g s).hc = s.hc := by simp [grpArrive]

@[simp] theorem barRun_hc (u n : Nat) (s : State) : (barRun u n s).hc = s.hc := by
  induction n generalizing s with
  | zero => rfl
  | succ n ih =>
    unfold barRun
    repeat' split
    all_goals simp [ih]

@[simp] theorem dropArrival_hc (u hi lo : Nat) (s : State) : (dropArrival u hi lo s).hc = s.hc := by simp [dropArrival, noteBarErr]

@[simp] theorem coreArrive_hc (u gen ctx : Nat) (who : Nat × Nat × Nat) (s : State) : (coreArrive u gen ctx who s).hc = s.hc := by
  simp [coreArrive, noteBarErr, barCheck]

@[simp] theorem syncRun_hc (src : Nat) (r : Rec4) (s : State) : (syncRun src r s).hc = s.hc := by
  unfold syncRun
  split <;> simp [arriveRun, syncBadRun]

/-! ## Lane M: sends and consumption -/

@[simp] theorem State.modQueue_hc (s : State) (q : Nat) (f : Queue → Queue) : (s.modQueue q f).hc = s.hc := rfl

@[simp] theorem sendAnswer_hc (src handle st stamp : Nat) (s : State) : (sendAnswer src handle st stamp s).hc = s.hc := by
  simp [sendAnswer]

@[simp] theorem answerClosed_hc (route : Nat) (h : HeldSend) (s : State) : (answerClosed route h s).hc = s.hc := by
  simp [answerClosed]

theorem takeCredits_hc {l : Nat} {qs : List Nat} {s t : State} {ds : List MsgDest} (h : takeCredits l qs s = some (ds, t)) :
    t.hc = s.hc := by
  induction qs generalizing s t ds with
  | nil => simp only [takeCredits, Option.some.injEq, Prod.mk.injEq] at h; rw [h.2]
  | cons q qs ih =>
    simp only [takeCredits] at h
    split at h
    · cases h
    · split at h
      · next hrest =>
        simp only [Option.some.injEq, Prod.mk.injEq] at h
        rw [← h.2]
        exact (ih hrest).trans (State.setQueue_hc ..)
      · cases h

theorem acceptHead_hc {route : Nat} {s t : State} (h : acceptHead route s = some t) : t.hc = s.hc := by
  unfold acceptHead at h
  split at h
  · cases h
  · split at h
    · cases h
    · split at h
      · cases h
      · next htake =>
        simp only [Option.some.injEq] at h
        rw [← h]
        simp [takeCredits_hc htake]

@[simp] theorem tryAccept_hc (route : Nat) (s : State) : (tryAccept route s).hc = s.hc := by
  unfold tryAccept
  split
  · rfl
  · split
    · rfl
    · next a ha =>
      dsimp only
      split
      · exact perturb_hc s 7
      · split
        · next b hb => exact (acceptHead_hc hb).trans (perturb_hc s 7)
        · exact acceptHead_hc ha

@[simp] theorem sendRun_hc (src : Nat) (r : Rec4) (s : State) : (sendRun src r s).hc = s.hc := by simp [sendRun]

@[simp] theorem consumeRun_hc (src : Nat) (w0 w1 : Word) (s : State) : (consumeRun src w0 w1 s).hc = s.hc := by simp [consumeRun]

/-! ## What waits as a hub cycle begins -/

@[simp] theorem laneRun_hc (lane req : Nat) (x : LaneRec) (s : State) : (laneRun lane req x s).hc = s.hc := by
  unfold laneRun
  split <;> simp

@[simp] theorem drainLane_hc (k : Nat × Nat) (s : State) : (drainLane k s).hc = s.hc := by
  unfold drainLane
  split <;> simp

@[simp] theorem drainLanes_hc (s : State) : (drainLanes s).hc = s.hc := by simp [drainLanes]

@[simp] theorem State.setPend_hc (s : State) (e : PendSig) : (s.setPend e).hc = s.hc := rfl

@[simp] theorem State.dropPend_hc (s : State) (e : PendSig) : (s.dropPend e).hc = s.hc := rfl

@[simp] theorem pendLeave_hc (e : PendSig) (s : State) : (pendLeave e s).hc = s.hc := by
  unfold pendLeave; split <;> simp

@[simp] theorem pendRun_hc (chip src tag : Nat) (s : State) : (pendRun chip src tag s).hc = s.hc := by
  unfold pendRun; split <;> simp

@[simp] theorem joinAnn_hc (p : Rec8) (s : State) : (joinAnn p s).hc = s.hc := by
  unfold joinAnn
  split <;> simp

@[simp] theorem drainAnns_hc (s : State) : (drainAnns s).hc = s.hc := by simp [drainAnns]

end Sys2Proof.Machine
end

section
/-! SUPPORT. One hub cycle on an empty queue: what each of its parts can change, and O2. -/

namespace Sys2Proof.Machine

/-! ## Changes that a hub cycle can make -/

/-- As `Only m s t`, where of the sync unit nothing but the detector's ticks differs, and of the fabric port nothing that it has
received. -/
structure CycleOnly (m : List SField) (s t : State) : Prop extends Only m s t where
  ticksOnly : t.sync = { s.sync with dldTicks := t.sync.dldTicks }
  hold : t.fab.hold = s.fab.hold
  orphans : t.fab.orphans = s.fab.orphans
  gaps : t.fab.gaps = s.fab.gaps
  rxSeq : t.fab.rxSeq = s.fab.rxSeq

/-- An operation that leaves both units alone. -/
theorem CycleOnly.of_only {m m' : List SField} {s t : State} (h : Only m s t) (hs : SField.sync ∉ m := by decide)
    (hf : SField.fab ∉ m := by decide) (hm : ∀ f ∈ m, f ∈ m' := by decide) : CycleOnly m' s t := by
  refine ⟨h.mono hm, ?_, ?_, ?_, ?_, ?_⟩
  · rw [h.sync hs]
  all_goals rw [h.fab hf]

theorem CycleOnly.refl (m : List SField) (s : State) : CycleOnly m s s := ⟨Only.refl m s, rfl, rfl, rfl, rfl, rfl⟩

theorem CycleOnly.trans {m : List SField} {s t u : State} (a : CycleOnly m s t) (b : CycleOnly m t u) : CycleOnly m s u :=
  ⟨a.toOnly.trans b.toOnly, by rw [b.ticksOnly, a.ticksOnly], b.hold.trans a.hold, b.orphans.trans a.orphans,
    b.gaps.trans a.gaps, b.rxSeq.trans a.rxSeq⟩

theorem CycleOnly.mono {m m' : List SField} {s t : State} (a : CycleOnly m s t) (h : ∀ f ∈ m, f ∈ m' := by decide) :
    CycleOnly m' s t :=
  ⟨a.toOnly.mono h, a.ticksOnly, a.hold, a.orphans, a.gaps, a.rxSeq⟩

theorem CycleOnly.ifThen {m : List SField} {s : State} (c : Bool) {f : State → State} (h : CycleOnly m s (f s)) :
    CycleOnly m s (ifThen c f s) := by
  cases c
  · exact .refl m s
  · exact h

theorem CycleOnly.foldl {α : Type} {m : List SField} {f : State → α → State} (h : ∀ s a, CycleOnly m s (f s a)) (l : List α)
    (s : State) : CycleOnly m s (l.foldl f s) := by
  induction l generalizing s with
  | nil => exact .refl m s
  | cons a t ih => exact (h s a).trans (ih (f s a))

theorem Only.ite {m : List SField} {s t u : State} {p : Prop} [Decidable p] (a : Only m s t) (b : Only m s u) :
    Only m s (if p then t else u) := by
  split
  · exact a
  · exact b

/-! ## Updates of one field -/

theorem only_obs (s : State) (x : Obs) : Only [.obs] s { s with obs := x } := by constructor <;> simp

theorem only_cyc (s : State) (x : Cyc) : Only [.cyc] s { s with cyc := x } := by constructor <;> simp

theorem only_free (s : State) (n : Nat) : Only [.free] s { s with free := n } := by constructor <;> simp

theorem only_glb (s : State) (x : Glb) : Only [.glb] s { s with glb := x } := by constructor <;> simp

theorem only_fab (s : State) (x : Fab) : Only [.fab] s { s with fab := x } := by constructor <;> simp

theorem only_sync (s : State) (x : Sync) : Only [.sync] s { s with sync := x } := by constructor <;> simp

/-! ## The fabric port sends -/

theorem fabOut_cycleOnly (p : Rec8) (s : State) : CycleOnly [.regs, .fab, .obs, .cyc, .out] s (fabOut p s) := by
  unfold fabOut
  split
  · have h : CycleOnly [.regs, .fab, .obs, .cyc, .out] s { s with fab := { s.fab with
        txSeq := Tab.put s.fab.txSeq (pDstChip p) ((Tab.get 0 s.fab.txSeq (pDstChip p) + 1) % 2 ^ 18)
        unacked := s.fab.unacked ++ [⟨pDstChip p, Tab.get 0 s.fab.txSeq (pDstChip p), pCtx p⟩] } } :=
      ⟨(only_fab s _).mono, rfl, rfl, rfl, rfl, rfl⟩
    exact h.trans (.trans (.of_only (emit_only _ _)) (.trans (.of_only (bumpWrap_only _ _ _)) (.of_only (pmc_only _ _ _ _ _))))
  · exact .of_only (emit_only s _)

theorem fabFlush_cycleOnly (s : State) : CycleOnly [.regs, .fab, .obs, .cyc, .out] s (fabFlush s) := by
  have h : ∀ (t : State) (w : List Rec8), CycleOnly [.regs, .fab, .obs, .cyc, .out] t { t with fab := { t.fab with txWait := w } } :=
    fun t w => ⟨(only_fab t _).mono, rfl, rfl, rfl, rfl, rfl⟩
  refine (h s []).trans (CycleOnly.foldl (fun t p => ?_) _ _)
  split
  · exact h t _
  · exact fabOut_cycleOnly p t

theorem fabSend_cycleOnly (p : Rec8) (s : State) : CycleOnly [.regs, .fab, .obs, .cyc, .out] s (fabSend p s) :=
  CycleOnly.trans (t := { s with fab := { s.fab with txWait := s.fab.txWait ++ [p] } })
    ⟨(only_fab s _).mono, rfl, rfl, rfl, rfl, rfl⟩ (fabFlush_cycleOnly _)

/-! ## The watchpoints (R401, R402) -/

theorem sendStops_cycleOnly (tStop : Nat) (s : State) :
    CycleOnly [.free, .regs, .fab, .obs, .cyc, .out] s (sendStops tStop s) :=
  .trans (.of_only (only_free s _)) (.foldl (fun t _ => (fabSend_cycleOnly _ t).mono) _ _)

theorem stopTrigger_cycleOnly (cause : Nat) (s : State) :
    CycleOnly [.free, .regs, .glb, .fab, .obs, .cyc, .out] s (stopTrigger cause s) := by
  have arm : ∀ n, CycleOnly [.free, .regs, .glb, .fab, .obs, .cyc, .out] s (armStop cause n s) := fun n => .of_only (only_glb s _)
  unfold stopTrigger
  split
  · exact .refl _ s
  · split
    · exact (arm _).trans (sendStops_cycleOnly _ _).mono
    · exact arm _

theorem watchHit_cycleOnly (n : Nat) (a : Access) (s : State) :
    CycleOnly [.free, .regs, .glb, .fab, .obs, .cyc, .out] s (watchHit n a s) := by
  have hcount : CycleOnly [.free, .regs, .glb, .fab, .obs, .cyc, .out] s (openWord (pmc 23 0x53 none 1 (bump (K.WP_HITn n) 1 s))).2 :=
    .trans (.of_only (bump_only s _ _)) (.trans (.of_only (pmc_only _ _ _ _ _)) (.of_only (only_free _ _)))
  unfold watchHit
  dsimp only
  refine hcount.trans (.trans (.ifThen _ ?_) (.trans (.ifThen _ ?_) (.trans (.ifThen _ ?_) (.ifThen _ ?_))))
  · exact .of_only (trace1_only _ _ _ _ _ _ _)
  · exact .of_only (setBits_only _ _ _)
  · exact stopTrigger_cycleOnly _ _
  · exact .of_only (irqCause_only _ _)

theorem watchAll_cycleOnly (s : State) : CycleOnly [.free, .regs, .glb, .fab, .obs, .cyc, .out] s (watchAll s) := by
  refine CycleOnly.foldl (fun t a => ?_) _ _
  split
  · refine CycleOnly.foldl (fun u n => ?_) _ _
    unfold watchOne
    split
    · exact watchHit_cycleOnly n a u
    · exact .refl _ u
  · exact .refl _ t

theorem watchAll_of_noAccess {s : State} (h : s.accesses = []) : watchAll s = s := by simp [watchAll, h]

/-! ## Stalls and counters (R383 to R388) -/

theorem countStalls_only (s : State) : Only [.regs, .obs, .cyc] s (countStalls s) := by
  have count : ∀ (t : State) (k : RegKey) (u e : Nat) (c : Option Nat), Only [.regs, .obs, .cyc] t (pmc u e c 1 (bump k 1 t)) :=
    fun t k u e c => (bump_only t k 1).mono.trans (pmc_only _ u e c 1).mono
  unfold countStalls
  dsimp only
  refine Only.trans ?_ (pmc_only _ _ _ _ _).mono
  refine Only.trans ?_ (Only.foldl _ (fun t sh => count t _ _ _ _) _ _)
  exact Only.foldl _ (fun t r => count t _ _ _ _) _ _

theorem accesses_congr {s t : State} (hr : t.reqs = s.reqs) (hc : t.cyc = s.cyc) : t.accesses = s.accesses := by
  simp only [State.accesses, hr, hc]

theorem countStalls_accesses (s : State) : (countStalls s).accesses = s.accesses := by
  have count : ∀ (t : State) (k : RegKey) (u e n : Nat) (c : Option Nat), (pmc u e c n (bump k 1 t)).accesses = t.accesses :=
    fun _ _ _ _ _ _ => rfl
  have last : ∀ (t : State) (n : Nat), (pmc 22 0x4C none n t).accesses = t.accesses := fun _ _ => rfl
  unfold countStalls
  dsimp only
  rw [last, foldl_field State.accesses (fun t sh => count t _ _ _ _ _), foldl_field State.accesses (fun t r => count t _ _ _ _ _)]

/-- A cause other than ERR requests no error vector. -/
theorem irqCause_only_of_ne {c : Nat} (s : State) (h : c ≠ 0) : Only [.regs, .out, .cyc] s (irqCause c s) := by
  have hset : Only [.regs, .out, .cyc] s (setBits K.IRQ_CAUSE (2 ^ c) s) := (setBits_only s _ _).mono
  unfold irqCause
  dsimp only
  rw [if_neg h]
  split
  · exact hset.trans (msix_only _ _).mono
  · exact hset

theorem pmcAdd_only (u k n : Nat) (s : State) : Only [.regs, .obs, .out, .cyc] s (pmcAdd u k n s) := by
  unfold pmcAdd
  dsimp only
  split
  · exact (only_obs s _).mono
  · exact (only_obs s _).mono.trans ((setBits_only _ _ _).mono.trans (Only.ifThen _ (irqCause_only_of_ne _ (by decide)).mono))

theorem countOne_only (u : Nat) (s : State) (k : Nat) : Only [.regs, .obs, .out, .cyc] s (countOne u s k) := by
  have hcount : ∀ n, Only [.regs, .obs, .out, .cyc] s (if n = 0 then s else pmcAdd u (k + 1) n s) := fun n =>
    Only.ite (Only.refl _ s) (pmcAdd_only u _ n s)
  have hfreeze : ∀ c n, Only [.regs, .obs, .out, .cyc] s (ifThen c freezeNext (if n = 0 then s else pmcAdd u (k + 1) n s)) :=
    fun c n => (hcount n).trans (Only.ifThen c (only_obs _ _).mono)
  exact Only.ite (hfreeze _ _) ((hfreeze _ _).trans (only_obs _ _).mono)

theorem countUnit_only (s : State) (u : Nat) : Only [.regs, .obs, .out, .cyc] s (countUnit s u) := by
  have hfixed : Only [.regs, .obs, .out, .cyc] s (if s.frozen u then s else pmcAdd u 0 1 s) :=
    Only.ite (Only.refl _ s) (pmcAdd_only u 0 1 s)
  exact Only.ite (Only.refl _ s) (hfixed.trans (Only.foldl _ (countOne_only u) _ _))

theorem countAll_only (s : State) : Only [.regs, .obs, .out, .cyc] s (countAll s) := by
  have h : Only [.regs, .obs, .out, .cyc] s ((List.range 24).foldl countUnit s) := Only.foldl _ countUnit_only _ _
  unfold countAll
  dsimp only
  split
  · exact h.trans ((only_obs _ _).mono.trans (setBits_only _ _ _).mono)
  · exact h

theorem endCycle_only (s : State) : Only [.obs] s (endCycle s) := only_obs s _

/-! ## The deadlock detector, the time and the time exchange -/

theorem dldCycle_cycleOnly (s : State) : CycleOnly [.sync] s (dldCycle s) := by
  refine CycleOnly.foldl (fun t g => ?_) _ _
  split
  · exact ⟨only_sync t _, rfl, rfl, rfl, rfl, rfl⟩
  · exact .refl _ t

theorem tickTime_only (s : State) : Only [.hc, .tb, .tbPhase] s (tickTime s) := by
  unfold tickTime; constructor <;> simp

theorem slewStep_cycleOnly (before : Nat) (s : State) : CycleOnly [.tb, .fab] s (slewStep before s) := by
  have h : ∀ n a b, Only [.tb, .fab] s { s with tb := n, fab := { s.fab with slewSpan := a, slew := b } } := fun n a b => by
    constructor <;> simp
  unfold slewStep
  dsimp only
  repeat' split
  · exact .refl _ s
  · exact ⟨h _ _ _, rfl, rfl, rfl, rfl, rfl⟩
  · exact ⟨h _ _ _, rfl, rfl, rfl, rfl, rfl⟩

theorem slewStep_locked (before : Nat) (s : State) : (slewStep before s).fab.locked = s.fab.locked := by
  unfold slewStep
  dsimp only
  repeat' split
  all_goals rfl

theorem freshCycle_only (s : State) : Only [.cyc] s (freshCycle s) := only_cyc s _

theorem loseLock_cycleOnly (s : State) : CycleOnly [.free, .regs, .glb, .fab, .cyc, .out] s (loseLock s) := by
  unfold loseLock
  split
  · have h : CycleOnly [.free, .regs, .glb, .fab, .cyc, .out] s
        { s with free := s.free + 1, fab := { s.fab with locked := false, goodRun := 0 } } :=
      ⟨(only_free s (s.free + 1)).mono.trans (only_fab _ _).mono, rfl, rfl, rfl, rfl, rfl⟩
    exact h.trans (.trans (.of_only (bump_only _ _ _)) (.of_only (errContained_only _ _ _ _ _ _)))
  · exact .refl _ s

theorem checkResponse_cycleOnly (s : State) : CycleOnly [.free, .regs, .glb, .fab, .cyc, .out] s (checkResponse s) := by
  unfold checkResponse
  split
  · exact loseLock_cycleOnly s
  · exact .refl _ s

theorem checkResponse_of_unlocked {s : State} (h : s.fab.locked = false) : checkResponse s = s := by simp [checkResponse, h]

/-! ## The hub cycle -/

/-- Nothing is taken from lanes without a record. -/
theorem drainLanes_of_empty {s : State} (h : ∀ e ∈ s.lanes, e.2 = []) : drainLanes s = s := by
  have hnone : (s.lanes.filter fun e => !e.2.isEmpty) = [] := List.filter_eq_nil_iff.mpr fun e he => by simp [h e he]
  simp [drainLanes, whenRunning, State.laneOrder, hnone]

theorem drainAnns_of_none {s : State} (h : ∀ p ∈ s.fab.hold, isAnn p = false) : drainAnns s = s := by
  have hnone : s.fab.hold.filter isAnn = [] := List.filter_eq_nil_iff.mpr fun p hp => by simp [h p hp]
  simp [drainAnns, hnone]

/-- What a hub cycle can change where nothing waits. -/
def cycleFields : List SField := [.hc, .tb, .tbPhase, .free, .regs, .glb, .fab, .sync, .obs, .out, .cyc]

/-- A live block as its next hub cycle begins. -/
def cycleEnd (s : State) : State :=
  freshCycle (slewStep s.tb (tickTime (endCycle (countAll (watchAll (dldCycle (countStalls s)))))))

theorem tick_of_live {s : State} (h : s.live = true) : tick s = beginCycle (cycleEnd s) := if_pos h

theorem tick_of_not_live {s : State} (h : s.live = false) : tick s = freshCycle (tickTime s) := by simp [tick, h]

theorem cycleEnd_cycleOnly (s : State) : CycleOnly cycleFields s (cycleEnd s) :=
  .trans (.of_only (countStalls_only s)) (.trans (dldCycle_cycleOnly _).mono (.trans (watchAll_cycleOnly _).mono
    (.trans (.of_only (countAll_only _)) (.trans (.of_only (endCycle_only _)) (.trans (.of_only (tickTime_only _))
      (.trans (slewStep_cycleOnly _ _).mono (.of_only (freshCycle_only _))))))))

theorem cycleEnd_hc (s : State) : (cycleEnd s).hc = s.hc + 1 := by
  rw [cycleEnd, (freshCycle_only _).hc (by decide), (slewStep_cycleOnly _ _).hc (by decide)]
  show (endCycle _).hc + 1 = _
  rw [(endCycle_only _).hc (by decide), (countAll_only _).hc (by decide), (watchAll_cycleOnly _).hc (by decide),
    (dldCycle_cycleOnly _).hc (by decide), (countStalls_only s).hc (by decide)]

/-- Without an access no watchpoint acts: the cycle's counting touches neither the global state nor the fabric port. -/
theorem counting_only_of_noAccess {s : State} (h : s.accesses = []) :
    Only [.hc, .tb, .tbPhase, .regs, .sync, .obs, .out, .cyc] s
      (tickTime (endCycle (countAll (watchAll (dldCycle (countStalls s)))))) := by
  have hsync := dldCycle_cycleOnly (countStalls s)
  have hacc : (dldCycle (countStalls s)).accesses = [] := by
    rw [accesses_congr (hsync.reqs (by decide)) (hsync.cyc (by decide)), countStalls_accesses, h]
  rw [watchAll_of_noAccess hacc]
  exact (countStalls_only s).mono.trans (hsync.toOnly.mono.trans ((countAll_only _).mono.trans
    ((endCycle_only _).mono.trans (tickTime_only _).mono)))

theorem cycleEnd_of_noAccess {s : State} (h : s.accesses = []) :
    (cycleEnd s).glb = s.glb ∧ (cycleEnd s).free = s.free ∧ (cycleEnd s).fab.locked = s.fab.locked := by
  have hcount := counting_only_of_noAccess h
  unfold cycleEnd
  refine ⟨?_, ?_, ?_⟩
  · rw [(freshCycle_only _).glb (by decide), (slewStep_cycleOnly _ _).glb (by decide), hcount.glb (by decide)]
  · rw [(freshCycle_only _).free (by decide), (slewStep_cycleOnly _ _).free (by decide), hcount.free (by decide)]
  · rw [(freshCycle_only _).fab (by decide), slewStep_locked, hcount.fab (by decide)]

/-- Where nothing waits, the next hub cycle begins with the check of the time exchange alone. -/
theorem tick_of_nothingWaits {s : State} (h : s.live = true) (hl : ∀ e ∈ s.lanes, e.2 = [])
    (ha : ∀ p ∈ s.fab.hold, isAnn p = false) : tick s = checkResponse (cycleEnd s) := by
  have hlanes : ∀ e ∈ (cycleEnd s).lanes, e.2 = [] := by rwa [(cycleEnd_cycleOnly s).lanes (by decide)]
  have hanns : ∀ p ∈ (cycleEnd s).fab.hold, isAnn p = false := by rwa [(cycleEnd_cycleOnly s).hold]
  rw [tick_of_live h, beginCycle, drainLanes_of_empty hlanes, drainAnns_of_none hanns]

theorem tick_hc (s : State) : (tick s).hc = s.hc + 1 := by
  cases h : s.live
  · rw [tick_of_not_live h]; rfl
  · rw [tick_of_live h, beginCycle, (checkResponse_cycleOnly _).hc (by decide), drainAnns_hc, drainLanes_hc, cycleEnd_hc]

theorem tick_cycleOnly {s : State} (hl : ∀ e ∈ s.lanes, e.2 = []) (ha : ∀ p ∈ s.fab.hold, isAnn p = false) :
    CycleOnly cycleFields s (tick s) := by
  cases h : s.live
  · rw [tick_of_not_live h]
    exact .trans (.of_only (tickTime_only s)) (.of_only (freshCycle_only _))
  · rw [tick_of_nothingWaits h hl ha]
    exact (cycleEnd_cycleOnly s).trans (checkResponse_cycleOnly _).mono

theorem tick_of_quiet {s : State} (hl : ∀ e ∈ s.lanes, e.2 = []) (ha : ∀ p ∈ s.fab.hold, isAnn p = false)
    (hacc : s.accesses = []) (hlock : s.fab.locked = false) : (tick s).glb = s.glb ∧ (tick s).free = s.free := by
  cases h : s.live
  · rw [tick_of_not_live h]; exact ⟨rfl, rfl⟩
  · obtain ⟨hglb, hfree, hlocked⟩ := cycleEnd_of_noAccess hacc
    rw [tick_of_nothingWaits h hl ha, checkResponse_of_unlocked (hlocked.trans hlock)]
    exact ⟨hglb, hfree⟩

/-- A cycle's frame as one equation. -/
theorem CycleOnly.eq_update {s t : State} (h : CycleOnly cycleFields s t) (hhc : t.hc = s.hc + 1) :
    t = { s with hc := s.hc + 1, tb := t.tb, tbPhase := t.tbPhase, free := t.free, regs := t.regs, glb := t.glb, fab := t.fab,
                 sync := { s.sync with dldTicks := t.sync.dldTicks }, obs := t.obs, out := t.out, cyc := t.cyc } :=
  State.ext (h.pending (by decide)) (h.variant (by decide)) hhc rfl rfl (h.fmhz (by decide)) rfl rfl (h.selHost (by decide))
    (h.selMgmt (by decide)) rfl (h.en (by decide)) (h.ctxs (by decide)) (h.templates (by decide)) (h.launches (by decide))
    (h.heldLaunches (by decide)) (h.hub (by decide)) (h.disp (by decide)) (h.fold (by decide)) (h.rings (by decide)) (h.cbs (by decide))
    (h.dmas (by decide)) (h.dlm (by decide)) (h.ckpts (by decide)) h.ticksOnly (h.queues (by decide)) (h.msgs (by decide)) rfl rfl
    (h.mem (by decide)) (h.poison (by decide)) (h.refuse (by decide)) (h.nextId (by decide)) (h.lanes (by decide)) rfl
    (h.reqs (by decide)) rfl

/-- Settles O2: what each part of a hub cycle can change, put together along `tick`. -/
theorem emptyQueuePassesOneHubCycle : Obligations.EmptyQueuePassesOneHubCycle := by
  unfold Obligations.EmptyQueuePassesOneHubCycle
  intro s hp
  refine ⟨tick s, by simp [step, hp], tick_hc s, fun hl ha => ?_⟩
  have h := tick_cycleOnly hl ha
  exact ⟨h.eq_update (tick_hc s), h.hold, h.orphans, h.gaps, h.rxSeq, tick_of_quiet hl ha⟩

end Sys2Proof.Machine
end

section
/-! SUPPORT. Accesses of the register window: refused ones, reads, writes of the flat map, WIN_SEL and IRQ_EN, and O56. -/

namespace Sys2Proof.Machine
open Sys2Proof.Claims

/-! ## One register written -/

theorem sameRegsBut_setReg (s : State) (k : RegKey) (v : W32) : SameRegsBut s (s.setReg k v) [k] :=
  fun _ hj => State.reg_setReg_other s v (Ne.symm (by simpa using hj))

theorem bump_counted (s : State) (k : RegKey) : Counted s (bump k 1 s) k := State.reg_setReg_same _ k _

theorem sameRegsBut_bump (s : State) (k : RegKey) (n : Nat) : SameRegsBut s (bump k n s) [k] :=
  sameRegsBut_setReg s k _

/-! ## The host's register FIFO -/

/-- An access only counts on its link (Table 14-9). -/
theorem hostPass_eq (o : Origin) (s : State) : ∃ l, hostPass o s = { s with obs := { s.obs with links := l } } := by
  unfold hostPass ifThen
  split
  · exact ⟨_, rfl⟩
  · exact ⟨s.obs.links, rfl⟩

@[simp] theorem hostPass_live (o : Origin) (s : State) : (hostPass o s).live = s.live := by
  obtain ⟨l, h⟩ := hostPass_eq o s; rw [h]; rfl

@[simp] theorem hostPass_regs (o : Origin) (s : State) : (hostPass o s).regs = s.regs := by
  obtain ⟨l, h⟩ := hostPass_eq o s; rw [h]

@[simp] theorem hostPass_cyc (o : Origin) (s : State) : (hostPass o s).cyc = s.cyc := by
  obtain ⟨l, h⟩ := hostPass_eq o s; rw [h]

@[simp] theorem hostPass_out (o : Origin) (s : State) : (hostPass o s).out = s.out := by
  obtain ⟨l, h⟩ := hostPass_eq o s; rw [h]

@[simp] theorem hostPass_reg (o : Origin) (s : State) (k : RegKey) : (hostPass o s).reg k = s.reg k :=
  State.reg_congr (hostPass_regs o s) k

@[simp] theorem hostPass_phase (o : Origin) (s : State) : (hostPass o s).glb.phase = s.glb.phase := by
  obtain ⟨l, h⟩ := hostPass_eq o s; rw [h]

@[simp] theorem hostPass_sel (o p : Origin) (s : State) : (hostPass o s).sel p = s.sel p := by
  obtain ⟨l, h⟩ := hostPass_eq o s; rw [h]; cases p <;> rfl

@[simp] theorem hostPass_target (o p : Origin) (s : State) (a : Nat) : (hostPass o s).target p a = s.target p a := by
  obtain ⟨l, h⟩ := hostPass_eq o s; rw [h]; cases p <;> rfl

@[simp] theorem hostPass_readClears (o : Origin) (s : State) (a : Nat) : (hostPass o s).readClears a = s.readClears a := by
  obtain ⟨l, h⟩ := hostPass_eq o s; rw [h]; rfl

@[simp] theorem hostPass_written (o : Origin) (s : State) (d : RegDesc) (k : RegKey) (v : W32) :
    (hostPass o s).written d k v = s.written d k v := by
  obtain ⟨l, h⟩ := hostPass_eq o s; rw [h]; rfl

/-- Which words of 64 bits there are does not depend on what the links have counted. -/
theorem word64_isSome_links (s : State) (l : Tab Nat Link) (x : Selector) (k : RegKey) :
    (State.word64 { s with obs := { s.obs with links := l } } x k).isSome = (s.word64 x k).isSome := by
  unfold State.word64
  dsimp only
  split <;> simp only [apply_ite Option.isSome, Option.isSome_some]

@[simp] theorem hostPass_wide64_isSome (o : Origin) (s : State) (x : Selector) (k : RegKey) :
    ((hostPass o s).wide64 x k).isSome = (s.wide64 x k).isSome := by
  obtain ⟨l, h⟩ := hostPass_eq o s
  rw [h]
  unfold State.wide64
  split
  · split <;> rfl
  · exact word64_isSome_links s l x k

@[simp] theorem hostPass_badAccess (o p : Origin) (s : State) (a size : Nat) :
    (hostPass o s).badAccess p a size = s.badAccess p a size := by
  unfold State.badAccess State.wideOk
  simp only [hostPass_target, hostPass_sel, hostPass_wide64_isSome]

/-! ## Refused accesses (R336) -/

theorem registerWrite_of_bad {s : State} {o : Origin} {a size : Nat} (w : Word) (h : s.badAccess o a size = true) :
    exec (.registerWrite o a size w) s = .next (refuseAccess o size false (hostPass o s)) := by
  simp [exec, execRegisterWrite, writeReg, h]

theorem rcRead_of_bad {s : State} {o : Origin} {a size : Nat} (h : s.badAccess o a size = true) :
    exec (.rcRead o a size) s = .next (refuseAccess o size true (hostPass o s)) := by
  simp [exec, execRcRead, readReg, h]

theorem hostBad_of_bad {s : State} {o : Origin} {a size : Nat} (r : Bool) (h : s.badAccess o a size = true) :
    exec (.hostBad o a size r) s = .next (refuseAccess o size r (hostPass o s)) := by
  simp [exec, execHostBad, h]

theorem hostBad_of_good {s : State} {o : Origin} {a size : Nat} (r : Bool) (h : s.badAccess o a size = false) :
    exec (.hostBad o a size r) s = .next s := by
  simp [exec, execHostBad, h]

/-- A refused access counts in HOST_BAD while the block is live, and a read returns 0. -/
theorem refuseAccess_hostPass (o : Origin) (size : Nat) (r : Bool) (s : State) :
    ∃ t, refuseAccess o size r (hostPass o s) = t ∧ (s.live = true → Counted s t K.HOST_BAD) ∧
      t = { s with regs := t.regs, obs := t.obs, cyc := t.cyc, out := if r then s.out ++ [.readData o size 0] else s.out } ∧
      SameRegsBut s t [K.HOST_BAD] := by
  obtain ⟨l, hl⟩ := hostPass_eq o s
  refine ⟨_, rfl, ?_⟩
  unfold refuseAccess
  rw [hostPass_live, hl]
  cases s.live
  · cases r <;> exact ⟨fun h => absurd h (by decide), rfl, fun _ _ => rfl⟩
  · have counted := bump_counted { s with obs := { s.obs with links := l } } K.HOST_BAD
    have same := sameRegsBut_bump { s with obs := { s.obs with links := l } } K.HOST_BAD 1
    cases r <;> exact ⟨fun _ => counted, rfl, same⟩

theorem registerWrite_bad_counted (s : State) (o : Origin) (a size : Nat) (w : Word) (h : s.badAccess o a size = true) :
    ∃ t, exec (.registerWrite o a size w) s = .next t ∧ exec (.hostBad o a size false) s = .next t ∧
      (s.live = true → Counted s t K.HOST_BAD) ∧ t = { s with regs := t.regs, obs := t.obs, cyc := t.cyc } ∧
      SameRegsBut s t [K.HOST_BAD] := by
  obtain ⟨t, rfl, counted, frame, same⟩ := refuseAccess_hostPass o size false s
  exact ⟨_, registerWrite_of_bad w h, hostBad_of_bad false h, counted, frame, same⟩

theorem rcRead_bad_counted (s : State) (o : Origin) (a size : Nat) (h : s.badAccess o a size = true) :
    ∃ t, exec (.rcRead o a size) s = .next t ∧ exec (.hostBad o a size true) s = .next t ∧
      (s.live = true → Counted s t K.HOST_BAD) ∧
      t = { s with regs := t.regs, obs := t.obs, cyc := t.cyc, out := s.out ++ [.readData o size 0] } ∧
      SameRegsBut s t [K.HOST_BAD] := by
  obtain ⟨t, rfl, counted, frame, same⟩ := refuseAccess_hostPass o size true s
  exact ⟨_, rcRead_of_bad h, hostBad_of_bad true h, counted, frame, same⟩

/-! ## Reads of 4 bytes (R12, R13, R417) -/

/-- An access of 4 bytes is refused for its alignment only. -/
theorem badAccess_four {a : Nat} (s : State) (o : Origin) (h : a % 4 = 0) : s.badAccess o a 4 = false := by
  simp [State.badAccess, h]

theorem rcRead_four {a : Nat} (s : State) (o : Origin) (h : a % 4 = 0) :
    exec (.rcRead o a 4) s = .next (emit (.readData o 4 (BitVec.ofNat 64 (read4 o a (hostPass o s)).1.toNat))
      (read4 o a (hostPass o s)).2) := by
  simp [exec, execRcRead, readReg, badAccess_four _ o h]

/-- The half that waits in the latch is returned, and the latch released. -/
theorem read4_of_latched {s : State} {o : Origin} {a : Nat} {k : RegKey} {w : W32} (ht : s.target o a = some k)
    (hl : (s.sel o).latch = some (k, w)) : read4 o a s = (w, setLatch o none s) := by
  simp [read4, ht, hl]

/-- Where no half waits and the register has none, its present value is read. -/
theorem read4_of_single {s : State} {o : Origin} {a : Nat} {k : RegKey} (ht : s.target o a = some k)
    (hl : (s.sel o).latch = none) (hw : (s.wide64 (s.sel o) k).isSome = false) (hp : pairLow k = false) :
    read4 o a s = if s.readClears a then (s.rcValue k (s.view32 o k), clearRc k s) else (s.view32 o k, s) := by
  simp only [read4, ht, hl, read4.readNow, hw, hp, Bool.or_self, Bool.false_eq_true, if_false]

theorem rcMask_of_desc {k : RegKey} {d : RegDesc} (hd : regDesc k = some d) (ht : k.ty ≠ 2) : rcMask k = BitVec.ofNat 32 d.rc := by
  simp [rcMask, hd, ht]

@[simp] theorem setLatch_latch (o : Origin) (l : Option (RegKey × W32)) (s : State) : ((setLatch o l s).sel o).latch = l := by
  cases o <;> rfl

@[simp] theorem setLatch_regs (o : Origin) (l : Option (RegKey × W32)) (s : State) : (setLatch o l s).regs = s.regs := by
  cases o <;> rfl

@[simp] theorem setLatch_out (o : Origin) (l : Option (RegKey × W32)) (s : State) : (setLatch o l s).out = s.out := by
  cases o <;> rfl

theorem rcRead_latched {s : State} {o : Origin} {a : Nat} {k : RegKey} {w : W32} (ha : a % 4 = 0) (ht : s.target o a = some k)
    (hl : (s.sel o).latch = some (k, w)) :
    ∃ t, exec (.rcRead o a 4) s = .next t ∧ t.out = s.out ++ [.readData o 4 (BitVec.ofNat 64 w.toNat)] ∧
      (t.sel o).latch = none ∧ t.regs = s.regs := by
  have hr : read4 o a (hostPass o s) = (w, setLatch o none (hostPass o s)) :=
    read4_of_latched (by simpa using ht) (by simpa using hl)
  refine ⟨_, rcRead_four s o ha, ?_⟩
  rw [hr]
  refine ⟨?_, setLatch_latch o none _, ?_⟩
  · simp [emit]
  · simp

/-- The mask of all bits as `simp` evaluates it. -/
@[simp] theorem and_fullMask (v : W32) : v &&& 4294967295#32 = v := BitVec.and_allOnes

/-- The clearing of the RC fields of a register of the bank without an update in the present hub cycle (R12). -/
theorem clearRc_of_settled {s : State} {k : RegKey} (ht : k.ty ≠ 2) (hu : Tab.get none s.cyc.upd k = none) :
    ∃ r, clearRc k s = { s with regs := r } ∧ State.reg { s with regs := r } k = s.reg k &&& ~~~rcMask k ∧
      SameRegsBut s { s with regs := r } [k] := by
  unfold clearRc
  by_cases hm : rcMask k = 0
  · rw [if_pos hm, hm]
    exact ⟨s.regs, rfl, by simp [State.reg], fun _ _ => rfl⟩
  · simp only [hm, hu, ht, if_true, if_false]
    exact ⟨_, rfl, (State.reg_setReg_same s k _).trans (BitVec.or_zero ..), sameRegsBut_setReg s k _⟩

/-- An update in the present hub cycle survives the clearing (R13). -/
theorem clearRc_of_updated {s : State} {k : RegKey} {old part : W32} (ht : k.ty ≠ 2)
    (hu : Tab.get none s.cyc.upd k = some (old, part)) :
    ∃ r c, clearRc k s = { s with regs := r, cyc := c } ∧
      State.reg { s with regs := r } k = (s.reg k &&& ~~~rcMask k) ||| (part &&& rcMask k) ∧
      SameRegsBut s { s with regs := r } [k] := by
  unfold clearRc
  by_cases hm : rcMask k = 0
  · rw [if_pos hm, hm]
    exact ⟨s.regs, s.cyc, rfl, by simp [State.reg], fun _ _ => rfl⟩
  · simp only [hm, hu, ht, if_false]
    by_cases hp : part &&& rcMask k = 0
    · rw [if_pos hp]
      exact ⟨_, s.cyc, rfl, State.reg_setReg_same s k _, sameRegsBut_setReg s k _⟩
    · rw [if_neg hp]
      exact ⟨_, _, rfl, State.reg_setReg_same s k _, sameRegsBut_setReg s k _⟩

section
variable {s : State} {o : Origin} {a : Nat} {k : RegKey} {d : RegDesc} (ha : a % 4 = 0) (ht : s.target o a = some k)
  (hl : (s.sel o).latch = none) (hw : (s.wide64 (s.sel o) k).isSome = false) (hp : pairLow k = false)
  (hd : regDesc k = some d) (h2 : k.ty ≠ 2)
include ha ht hl hw hp

theorem rcRead_of_single :
    exec (.rcRead o a 4) s =
      if s.readClears a then
        .next (emit (.readData o 4 (BitVec.ofNat 64 (((hostPass o s).rcValue k ((hostPass o s).view32 o k)).toNat)))
          (clearRc k (hostPass o s)))
      else .next (emit (.readData o 4 (BitVec.ofNat 64 ((hostPass o s).view32 o k).toNat)) (hostPass o s)) := by
  rw [rcRead_four s o ha, read4_of_single (k := k) (by simpa using ht) (by simpa using hl) (by simpa using hw) hp]
  simp only [hostPass_readClears]
  split <;> rfl

include hd h2

theorem rcRead_settled (hu : Tab.get none s.cyc.upd k = none) :
    ∃ t, exec (.rcRead o a 4) s = .next t ∧
      t.out = s.out ++ [.readData o 4 (BitVec.ofNat 64 ((hostPass o s).view32 o k).toNat)] ∧
      (s.readClears a = true → t.reg k = s.reg k &&& ~~~(BitVec.ofNat 32 d.rc)) ∧
      (s.readClears a = false → t.reg k = s.reg k) ∧
      t = { s with regs := t.regs, out := t.out, obs := t.obs } ∧ SameRegsBut s t [k] := by
  obtain ⟨l, hpass⟩ := hostPass_eq o s
  cases hc : s.readClears a
  · refine ⟨_, (rcRead_of_single ha ht hl hw hp).trans (if_neg (by simp [hc])), ?_⟩
    rw [hpass]
    exact ⟨rfl, fun h => absurd h (by decide), fun _ => rfl, rfl, fun _ _ => rfl⟩
  · obtain ⟨r, hclear, hreg, hsame⟩ := clearRc_of_settled (s := hostPass o s) h2 (by simpa using hu)
    refine ⟨_, (rcRead_of_single ha ht hl hw hp).trans (if_pos hc), ?_⟩
    have hvalue : ∀ v, (hostPass o s).rcValue k v = v := fun v => by simp only [State.rcValue, hostPass_cyc, hu]
    rw [hvalue, hclear, ← rcMask_of_desc hd h2]
    rw [hpass] at hreg hsame ⊢
    exact ⟨rfl, fun _ => hreg, fun h => absurd h (by decide), rfl, hsame⟩

theorem rcRead_updated {old part : W32} (hu : Tab.get none s.cyc.upd k = some (old, part)) (hc : s.readClears a = true) :
    ∃ t, exec (.rcRead o a 4) s = .next t ∧
      t.out = s.out ++ [.readData o 4 (BitVec.ofNat 64
        (((hostPass o s).view32 o k &&& ~~~(BitVec.ofNat 32 d.rc)) ||| (old &&& BitVec.ofNat 32 d.rc)).toNat)] ∧
      t.reg k = (s.reg k &&& ~~~(BitVec.ofNat 32 d.rc)) ||| (part &&& BitVec.ofNat 32 d.rc) ∧
      t = { s with regs := t.regs, out := t.out, obs := t.obs, cyc := t.cyc } ∧ SameRegsBut s t [k] := by
  obtain ⟨l, hpass⟩ := hostPass_eq o s
  obtain ⟨r, c, hclear, hreg, hsame⟩ := clearRc_of_updated (s := hostPass o s) h2 (by simpa using hu)
  refine ⟨_, (rcRead_of_single ha ht hl hw hp).trans (if_pos hc), ?_⟩
  have hvalue : ∀ v, (hostPass o s).rcValue k v = (v &&& ~~~rcMask k) ||| (old &&& rcMask k) := fun v => by
    simp only [State.rcValue, hostPass_cyc, hu]
  rw [hvalue, hclear, ← rcMask_of_desc hd h2]
  rw [hpass] at hreg hsame ⊢
  exact ⟨rfl, hreg, rfl, hsame⟩

end

/-! ## Writes of the flat map (R355, R356) -/

/-- A write of 4 bytes to a register of the flat map. -/
theorem registerWrite_flat {a : Nat} (s : State) (o : Origin) (w : Word) (ha : a % 4 = 0) (hlt : a < 0xA100) (hsel : a ≠ 0xA000) :
    exec (.registerWrite o a 4 w) s = .next (flatWrite a (lo32 w) (hostPass o s)) := by
  have hwin : ¬(0xA100 ≤ a ∧ a < 0xA200) := by omega
  simp [exec, execRegisterWrite, writeReg, write4, badAccess_four _ o ha, hwin, hsel]

theorem registerWrite_winSel (s : State) (o : Origin) (w : Word) :
    exec (.registerWrite o 0xA000 4 w) s = .next (gated 0xA000 (winSelWrite o (lo32 w)) (hostPass o s)) := by
  simp [exec, execRegisterWrite, writeReg, write4, badAccess_four]

theorem registerWrite_acting {s : State} {o : Origin} {a : Nat} {w : Word} {x : Instr} (h : (a, x) ∈ writeCmds o (lo32 w)) :
    exec (.registerWrite o a 4 w) s = exec x (hostPass o s) := by
  simp only [writeCmds, List.mem_cons, Prod.mk.injEq, List.not_mem_nil, or_false] at h
  obtain ⟨rfl, rfl⟩ | ⟨rfl, rfl⟩ | ⟨rfl, rfl⟩ | ⟨rfl, rfl⟩ | ⟨rfl, rfl⟩ | ⟨rfl, rfl⟩ | ⟨rfl, rfl⟩ | ⟨rfl, rfl⟩ | ⟨rfl, rfl⟩ |
    ⟨rfl, rfl⟩ | ⟨rfl, rfl⟩ := h
  rotate_right
  · exact registerWrite_winSel s o w
  all_goals exact registerWrite_flat s o w (by decide) (by decide) (by decide)

/-- A flat register whose write only holds what is written. -/
theorem flatWrite_plain {a : Nat} (v : W32) (s : State) (ha : a ∉ actingRegs) (hr : a < 0x1100 ∨ 0x1500 ≤ a)
    (hc : a < 0x8800 ∨ 0x8EC0 ≤ a) : flatWrite a v s = plainGated ⟨0, 0, a⟩ v s := by
  have hring : ¬(0x1100 ≤ a ∧ a < 0x1500) := by omega
  have hpmc : ¬(0x8800 ≤ a ∧ a < 0x8EC0) := by omega
  simp only [actingRegs, List.mem_cons, List.not_mem_nil, or_false, not_or] at ha
  unfold flatWrite
  split
  rotate_right
  · rw [if_neg hring, if_neg hpmc]
  all_goals omega

theorem takesWrite_of_live {s : State} (a : Nat) (h : s.live = true) : s.takesWrite a = true := by
  simp only [State.live, Bool.and_eq_true, Bool.not_eq_true'] at h
  simp [State.takesWrite, h.1, h.2]

theorem gated_of_writable {s : State} (a : Nat) (f : State → State) (h : Writable s) : gated a f s = f s := by
  simp [gated, takesWrite_of_live a h.1, h.2]

theorem gated_of_boot {s : State} (a : Nat) (f : State → State) (h : s.live = true) (hb : s.glb.phase = .boot) :
    gated a f s = bump K.BOOT_DROP 1 s := by
  simp [gated, takesWrite_of_live a h, hb, h, ifThen]

/-- A register without a field that a write can change holds what it held. -/
theorem written_of_not_writable {s : State} {k : RegKey} {d : RegDesc} (v : W32) (hd : regDesc k = some d) (h : writable k = false) :
    s.written d k v = s.reg k := by
  simp only [writable, hd, Bool.or_eq_false_iff, bne_eq_false_iff_eq] at h
  obtain ⟨⟨hrw, hrwl⟩, hw1c⟩ := h
  simp [State.written, hrw, hrwl, hw1c]

theorem plainWrite_of_desc {s : State} {k : RegKey} {d : RegDesc} (v : W32) (hd : regDesc k = some d) :
    plainWrite k v s = s.setReg k (s.written d k v) := by
  simp [plainWrite, hd]

section
variable {s : State} {o : Origin} {a : Nat} {w : Word} {d : RegDesc} (hlive : s.live = true) (h4 : a % 4 = 0) (hlt : a < 0xA100)
  (ha : a ∉ actingRegs) (hr : a < 0x1100 ∨ 0x1500 ≤ a) (hc : a < 0x8800 ∨ 0x8EC0 ≤ a)
include h4 hlt ha hr hc

theorem registerWrite_plain :
    exec (.registerWrite o a 4 w) s = .next (plainGated ⟨0, 0, a⟩ (lo32 w) (hostPass o s)) := by
  have hsel : a ≠ 0xA000 := by rintro rfl; exact ha (by decide)
  rw [registerWrite_flat s o w h4 hlt hsel, flatWrite_plain _ _ ha hr hc]

include hlive

theorem registerWrite_plain_holds (hd : regDesc ⟨0, 0, a⟩ = some d) (hb : s.glb.phase ≠ .boot) :
    ∃ t, exec (.registerWrite o a 4 w) s = .next t ∧ t.reg ⟨0, 0, a⟩ = s.written d ⟨0, 0, a⟩ (lo32 w) ∧
      t = { s with regs := t.regs, obs := t.obs } ∧ SameRegsBut s t [⟨0, 0, a⟩] := by
  refine ⟨_, registerWrite_plain h4 hlt ha hr hc, ?_⟩
  obtain ⟨l, hpass⟩ := hostPass_eq o s
  unfold plainGated
  cases hw : writable ⟨0, 0, a⟩
  · rw [if_neg Bool.false_ne_true, written_of_not_writable _ hd hw, hpass]
    exact ⟨rfl, rfl, fun _ _ => rfl⟩
  · have hwr : Writable (hostPass o s) := ⟨by simpa using hlive, by simpa using hb⟩
    rw [if_pos rfl, gated_of_writable _ _ hwr, plainWrite_of_desc _ hd, hostPass_written, hpass]
    exact ⟨State.reg_setReg_same _ _ _, rfl, sameRegsBut_setReg _ _ _⟩

theorem registerWrite_plain_inBoot (hb : s.glb.phase = .boot) :
    ∃ t, exec (.registerWrite o a 4 w) s = .next t ∧ (writable ⟨0, 0, a⟩ = true → Counted s t K.BOOT_DROP) ∧
      (writable ⟨0, 0, a⟩ = false → t.regs = s.regs) ∧ t = { s with regs := t.regs, obs := t.obs, cyc := t.cyc } ∧
      SameRegsBut s t [K.BOOT_DROP] := by
  refine ⟨_, registerWrite_plain h4 hlt ha hr hc, ?_⟩
  obtain ⟨l, hpass⟩ := hostPass_eq o s
  unfold plainGated
  cases hw : writable ⟨0, 0, a⟩
  · rw [if_neg Bool.false_ne_true, hpass]
    exact ⟨fun h => absurd h (by decide), fun _ => rfl, rfl, fun _ _ => rfl⟩
  · rw [if_pos rfl, gated_of_boot _ _ (by simpa using hlive) (by simpa using hb), hpass]
    exact ⟨fun _ => bump_counted _ _, fun h => absurd h (by decide), rfl, sameRegsBut_bump _ _ _⟩

end

/-! ## Selectors and interrupt enables (R413, R420, R421) -/

/-- Each origin has a selector of its own (R413). -/
theorem State.sel_setSel_other (s : State) {o p : Origin} (x : Selector) (h : p ≠ o) : (s.setSel o x).sel p = s.sel p := by
  cases o <;> cases p
  case host.host => exact absurd rfl h
  case mgmt.mgmt => exact absurd rfl h
  all_goals rfl

theorem winSel_writes (s : State) (o : Origin) (v : W32) (h : Writable s) :
    ∃ t, exec (.winSel o v) s = .next t ∧ (t.sel o).winSel = v &&& 0xF0FFFFFF#32 ∧ (t.sel o).latch = none ∧
      (∀ p, p ≠ o → t.sel p = s.sel p) ∧ t = { s with selHost := t.selHost, selMgmt := t.selMgmt } := by
  refine ⟨_, congrArg Host.Outcome.next (gated_of_writable 0xA000 (winSelWrite o v) h), ?_⟩
  refine ⟨?_, ?_, ?_, ?_⟩
  · cases o <;> rfl
  · cases o <;> rfl
  · exact fun p hp => State.sel_setSel_other s _ hp
  · cases o <;> rfl

/-- IRQ_EN has seven RW bits, which nothing locks. -/
theorem plainWrite_irqEn (v : W32) (s : State) :
    plainWrite K.IRQ_EN v s = s.setReg K.IRQ_EN ((s.reg K.IRQ_EN &&& ~~~0x7F#32) ||| (v &&& 0x7F#32)) := by
  have hd : regDesc K.IRQ_EN = some ⟨"IRQ_EN", 0, 0x48, 1, 0, 0x7F, 0x7F, 0, 0, 0⟩ := by decide
  have hl : s.locked K.IRQ_EN = 0 := by simp [State.locked, State.lockedFlat, K.IRQ_EN]
  have ha : absentMask K.IRQ_EN = 0 := by decide
  have hf : (K.IRQ_EN == K.FAB_CFG) = false := by decide
  rw [plainWrite_of_desc v hd]
  simp [State.written, hl, ha, hf, maskIf]

/-- With no cause that stands, a write of IRQ_EN only holds what is written. -/
theorem irqEnWrite_of_noCause (v : W32) {s : State} (h : s.reg K.IRQ_CAUSE = 0) : irqEnWrite v s = plainWrite K.IRQ_EN v s := by
  have hfresh : (List.range 7).filter (fun c => bit v c && !s.flag K.IRQ_EN c && s.flag K.IRQ_CAUSE c) = [] :=
    List.filter_eq_nil_iff.mpr fun c _ => by simp [State.flag, h, bit]
  simp only [irqEnWrite, hfresh]
  rfl

/-- A write of IRQ_EN that newly enables cause 3, the only one that stands, requests its vector. -/
theorem irqEnWrite_of_cause3 {v : W32} {s : State} (h : s.reg K.IRQ_CAUSE = 8) (hv : bit v 3 = true) (hen : s.flag K.IRQ_EN 3 = false) :
    irqEnWrite v s = msix ((plainWrite K.IRQ_EN v s).causeVec 3) (plainWrite K.IRQ_EN v s) := by
  have hfresh : (List.range 7).filter (fun c => bit v c && !s.flag K.IRQ_EN c && s.flag K.IRQ_CAUSE c) = [3] := by
    have hc : ∀ c ∈ List.range 7, (bit v c && !s.flag K.IRQ_EN c && s.flag K.IRQ_CAUSE c) = decide (c = 3) := by
      intro c hc
      have h8 : s.flag K.IRQ_CAUSE c = decide (c = 3) := by
        rw [State.flag, h, bit]
        revert c; decide
      by_cases h3 : c = 3
      · subst h3; simp [hv, hen, h8]
      · simp [h8, h3]
    rw [List.filter_congr hc]; decide
  simp [irqEnWrite, hfresh, ifThen, List.eraseDups_cons]

theorem irqEn_withoutCause (s : State) (v : W32) (hw : Writable s) (h : s.reg K.IRQ_CAUSE = 0) :
    ∃ t, exec (.irqEn v) s = .next t ∧ t.reg K.IRQ_EN = (s.reg K.IRQ_EN &&& ~~~0x7F#32) ||| (v &&& 0x7F#32) ∧
      t = { s with regs := t.regs } ∧ SameRegsBut s t [K.IRQ_EN] := by
  refine ⟨_, congrArg Host.Outcome.next (gated_of_writable 0x48 (irqEnWrite v) hw), ?_⟩
  rw [irqEnWrite_of_noCause v h, plainWrite_irqEn]
  exact ⟨State.reg_setReg_same _ _ _, rfl, sameRegsBut_setReg _ _ _⟩

theorem irqEn_standingCause (s : State) (v : W32) (hw : Writable s) (h : s.reg K.IRQ_CAUSE = 8) (hv : bit v 3 = true)
    (hen : s.flag K.IRQ_EN 3 = false) (hinit : s.glb.initDone = true) :
    ∃ t, exec (.irqEn v) s = .next t ∧
      t.out = (if s.fld K.IRQ_VEC 29 24 ∈ s.cyc.vecs then s.out else s.out ++ [.msix (s.fld K.IRQ_VEC 29 24)]) ∧
      t = { s with regs := t.regs, out := t.out, cyc := t.cyc } ∧ SameRegsBut s t [K.IRQ_EN] := by
  refine ⟨_, congrArg Host.Outcome.next (gated_of_writable 0x48 (irqEnWrite v) hw), ?_⟩
  rw [irqEnWrite_of_cause3 h hv hen, plainWrite_irqEn]
  generalize (s.reg K.IRQ_EN &&& ~~~0x7F#32) ||| (v &&& 0x7F#32) = x
  have hvec : (s.setReg K.IRQ_EN x).causeVec 3 = s.fld K.IRQ_VEC 29 24 :=
    congrArg (bits · 29 24) (State.reg_setReg_other s x (by decide))
  have hon : ((s.setReg K.IRQ_EN x).glb.initDone && (s.setReg K.IRQ_EN x).live) = true := by
    rw [Bool.and_eq_true]; exact ⟨hinit, hw.1⟩
  rw [hvec, msix, if_pos hon, sendMsix]
  by_cases hmem : s.fld K.IRQ_VEC 29 24 ∈ s.cyc.vecs
  · rw [if_pos hmem, if_pos (by simpa using hmem)]
    exact ⟨rfl, rfl, sameRegsBut_setReg s _ _⟩
  · rw [if_neg hmem, if_neg (by simpa using hmem)]
    exact ⟨rfl, rfl, sameRegsBut_setReg s _ _⟩

/-- Settles O56, clause by clause: refused accesses, reads, acting writes, plain writes, WIN_SEL and IRQ_EN. -/
theorem registerAccesses : Obligations.RegisterAccesses := by
  unfold Obligations.RegisterAccesses
  refine ⟨fun s o a size w h => registerWrite_bad_counted s o a size w h,
    fun s o a size => ⟨fun h => rcRead_bad_counted s o a size h, fun r h => hostBad_of_good r h⟩, ?_,
    fun s o a w x h => registerWrite_acting h, ?_,
    fun s o v h => ⟨winSel_writes s o v h, irqEn_withoutCause s v h, irqEn_standingCause s v h⟩⟩
  · rintro s u o a k ha ht rfl
    exact ⟨fun w hl => rcRead_latched ha ht hl, fun d hl hw hp hd h2 =>
      ⟨rcRead_settled ha ht hl hw hp hd h2, fun old part hu hc => rcRead_updated ha ht hl hw hp hd h2 hu hc⟩⟩
  · intro s o a w d hlive h4 hlt ha hr hc hd
    exact ⟨registerWrite_plain_holds hlive h4 hlt ha hr hc hd, registerWrite_plain_inBoot hlive h4 hlt ha hr hc⟩

end Sys2Proof.Machine
end

section
/-! SUPPORT. Rules that several commands share: lists with one entry taken out, writes that the memory port acknowledges, a frame
as one equation, and what a CONTAINED report and an audit mark leave in the registers. -/

namespace Sys2Proof.Machine
open Sys2Proof.Claims

/-! ## Lists with one entry taken out or put in order -/

/-- The entry that a list loses first is the one that a search finds. -/
theorem perm_cons_dropFirst {α : Type} {p : α → Bool} {l : List α} {a : α} (h : l.find? p = some a) :
    l.Perm (a :: dropFirst p l) := by
  induction l with
  | nil => simp at h
  | cons b t ih =>
    cases hb : p b
    · have hfind : t.find? p = some a := by simpa [List.find?_cons, hb] using h
      simpa [dropFirst, hb] using ((ih hfind).cons b).trans (List.Perm.swap a b _)
    · obtain rfl : b = a := by simpa [List.find?_cons, hb] using h
      simp [dropFirst, hb]

/-- What a list loses is not seen by a filter that refuses it. -/
theorem filter_dropFirst {α : Type} {p q : α → Bool} (h : ∀ a, p a = true → q a = false) (l : List α) :
    (dropFirst p l).filter q = l.filter q := by
  induction l with
  | nil => rfl
  | cons b t ih =>
    cases hb : p b
    · simp [dropFirst, hb, List.filter_cons, ih]
    · simp [dropFirst, hb, h b hb]

theorem insertBy_perm {α : Type} (lt : α → α → Bool) (a : α) (l : List α) : (insertBy lt a l).Perm (a :: l) := by
  induction l with
  | nil => exact .refl _
  | cons b t ih =>
    unfold insertBy
    split
    · exact .refl _
    · exact (ih.cons b).trans (List.Perm.swap a b t)

theorem leastBy_mem {α : Type} {lt : α → α → Bool} {l : List α} {a : α} (h : leastBy lt l = some a) : a ∈ l := by
  induction l generalizing a with
  | nil => simp [leastBy] at h
  | cons b t ih =>
    cases ht : leastBy lt t with
    | none => simp_all [leastBy]
    | some d =>
      simp only [leastBy, ht] at h
      split at h
      · exact List.mem_cons_of_mem _ (ih (ht.trans h))
      · simp_all

/-- A round over `n` visits each of them. -/
theorem mem_rrFrom {p n c : Nat} (h : c < n) : c ∈ rrFrom p n := by
  have hshift : (p + (c + (n - p % n)) % n) % n = c := by
    have hp : p % n < n := Nat.mod_lt _ (by omega)
    rw [Nat.add_mod_mod, ← Nat.mod_add_mod, show p % n + (c + (n - p % n)) = c + n by omega, Nat.add_mod_right, Nat.mod_eq_of_lt h]
  exact List.mem_map.mpr ⟨(c + (n - p % n)) % n, List.mem_range.mpr (Nat.mod_lt _ (by omega)), hshift⟩

/-! ## Frames -/

theorem only_hub (s : State) (x : Hub) : Only [.hub] s { s with hub := x } := by constructor <;> simp

theorem only_disp (s : State) (x : Disp) : Only [.disp] s { s with disp := x } := by constructor <;> simp

/-- The frame of a hub event as one equation. -/
theorem Only.eq_update {s t : State}
    (h : Only [.hub, .disp, .launches, .regs, .glb, .obs, .mem, .poison, .cyc, .reqs, .out] s t) :
    t = { s with hub := t.hub, disp := t.disp, launches := t.launches, regs := t.regs, glb := t.glb, obs := t.obs, mem := t.mem,
                 poison := t.poison, cyc := t.cyc, reqs := t.reqs, out := t.out } :=
  State.ext (h.pending (by decide)) (h.variant (by decide)) (h.hc (by decide)) (h.tb (by decide)) (h.tbPhase (by decide))
    (h.fmhz (by decide)) (h.free (by decide)) rfl (h.selHost (by decide)) (h.selMgmt (by decide)) rfl (h.en (by decide))
    (h.ctxs (by decide)) (h.templates (by decide)) rfl (h.heldLaunches (by decide)) rfl rfl (h.fold (by decide))
    (h.rings (by decide)) (h.cbs (by decide)) (h.dmas (by decide)) (h.dlm (by decide)) (h.ckpts (by decide)) (h.sync (by decide))
    (h.queues (by decide)) (h.msgs (by decide)) (h.fab (by decide)) rfl rfl rfl (h.refuse (by decide)) (h.nextId (by decide))
    (h.lanes (by decide)) rfl rfl rfl

/-! ## Reading in states that agree -/

theorem State.slot_congr {s t : State} (h : t.hub.slots = s.hub.slots) (sh n : Nat) : t.slot sh n = s.slot sh n := by
  simp [State.slot, h]

theorem State.writeOk_congr {s t : State} (h : t.refuse = s.refuse) (a n : Nat) : t.writeOk a n = s.writeOk a n := by
  simp [State.writeOk, h]

theorem State.byteAt_congr {s t : State} (h : t.mem = s.mem) (a : Nat) : t.byteAt a = s.byteAt a := by simp [State.byteAt, h]

theorem State.lrecAddr_congr {s t : State} (h : t.regs = s.regs) (ctx serial : Nat) :
    t.lrecAddr ctx serial = s.lrecAddr ctx serial := by
  simp [State.lrecAddr, State.addrOf, State.reg_congr h]

theorem State.celPage_congr {s t : State} (h : t.regs = s.regs) (ctx p : Nat) : t.celPage ctx p = s.celPage ctx p := by
  simp [State.celPage, State.addrOf, State.reg_congr h]

theorem State.ringSlot_congr {s t : State} (h : t.regs = s.regs) (ctx cls prio pos : Nat) :
    t.ringSlot ctx cls prio pos = s.ringSlot ctx cls prio pos := by
  simp [State.ringSlot, State.celPage_congr h]

theorem outOk_congr {s t : State} {ctx serial : Nat} (h : OutOk s ctx serial) (hregs : t.regs = s.regs) (href : t.refuse = s.refuse) :
    OutOk t ctx serial := by
  rwa [OutOk, State.writeOk_congr href, State.lrecAddr_congr hregs]

/-! ## Writes acknowledged OK throughout (R345) -/

/-- Such a write is not reported. -/
theorem writeWords_ok_only {u : Nat} {c : Option Nat} {a : Nat} {ws : List Word} {s : State}
    (ok : s.writeOk a (8 * ws.length) = true) :
    Only [.mem, .poison, .obs, .reqs] s (writeWords u c a ws s) := by
  rw [writeWords, writeBytes_ok u c a _ (by simpa using ok)]
  exact putIn_only s ..

/-- What it wrote reads back. -/
theorem writeWords_byteAt_inside {u : Nat} {c : Option Nat} {a i : Nat} {ws : List Word} {s : State} (w : MemInv s)
    (ok : s.writeOk a (8 * ws.length) = true) (h : i < 8 * ws.length) :
    (writeWords u c a ws s).byteAt (a + i) = (wordsBytes ws).getD i 0 := by
  have hlen : i < (wordsBytes ws).length := by simpa using h
  rw [writeWords, writeBytes_byteAt, memWrite_byteAt_inside a i _ w (by simpa using ok) hlen,
    List.getD_eq_getElem?_getD, List.getElem?_eq_getElem hlen, Option.getD_some]

/-- OUTSTANDING of a launch, written to a record that takes the write. -/
theorem outMap_ok_only {s : State} {ctx serial : Nat} (f : Nat → Nat) (h : OutOk s ctx serial) :
    Only [.launches, .mem, .poison, .obs, .reqs] s (outMap f ctx serial s) := by
  unfold outMap
  split
  · exact (State.modLaunch_only s _ _ _).mono.trans (writeWords_ok_only (ws := [_]) (by exact h)).mono
  · exact Only.refl _ s

theorem outMap_sameMemBut (f : Nat → Nat) (ctx serial : Nat) (s : State) :
    SameMemBut s (outMap f ctx serial s) (s.lrecAddr ctx serial + 24) 8 := by
  intro b hb
  unfold outMap
  split
  · exact writeWords_byteAt_outside _ _ _ b _ hb
  · rfl

/-! ## Registers after a CONTAINED report and after an audit mark (R366, R380) -/

theorem bump_sets (k : RegKey) (n : Nat) (s : State) : (bump k n s).reg k = raise32 n (s.reg k) := State.reg_setReg_same _ k _

theorem setBits_sets (k : RegKey) (m : Nat) (s : State) : (setBits k m s).reg k = s.reg k ||| BitVec.ofNat 32 m :=
  State.reg_setReg_same _ k _

theorem setBits_reg_other {k j : RegKey} (m : Nat) (s : State) (h : k ≠ j) : (setBits k m s).reg j = s.reg j :=
  State.reg_setReg_other _ _ h

theorem setFld_reg_other {k j : RegKey} (hi lo v : Nat) (s : State) (h : k ≠ j) : (s.setFld k hi lo v).reg j = s.reg j :=
  State.reg_setReg_other _ _ h

theorem logPush_reg_other {k : RegKey} (r : Rec4) (s : State) (h : K.ERR_LOST ≠ k) : (logPush r s).reg k = s.reg k := by
  unfold logPush
  dsimp only
  split
  · rfl
  · exact State.reg_setReg_other _ _ h

theorem irqCause_reg_other {k : RegKey} (c : Nat) (s : State) (h : K.IRQ_CAUSE ≠ k) : (irqCause c s).reg k = s.reg k := by
  have hset : (setBits K.IRQ_CAUSE (2 ^ c) s).reg k = s.reg k := setBits_reg_other _ s h
  unfold irqCause
  dsimp only
  split
  · split
    · rw [State.reg_congr (errVector_regs _), hset]
    · rw [State.reg_congr (msix_regs _ _), hset]
  · exact hset

/-- A CONTAINED report counts once in ERR_CONT. -/
theorem errContained_counts (unit code : Nat) (ctx serial : Option Nat) (d : Word) (s : State) :
    (errContained unit code ctx serial d s).reg K.ERR_CONT = raise32 1 (s.reg K.ERR_CONT) := by
  rw [errContained, irqCause_reg_other _ _ (by decide), logPush_reg_other _ _ (by decide), bump_sets]

theorem auditMark_reg_other {k : RegKey} (classes ctxs code : Nat) (s : State) (hunc : K.AUD_UNC ≠ k) (hlo : K.AUD_CTX_LO ≠ k)
    (hhi : K.AUD_CTX_HI ≠ k) (hcause : K.AUD_CAUSE ≠ k) : (auditMark classes ctxs code s).reg k = s.reg k := by
  unfold auditMark
  dsimp only
  split <;> simp [setFld_reg_other, setBits_reg_other, *]

/-- An audit mark sets its classes in AUD_UNC. -/
theorem auditMark_marks (classes ctxs code : Nat) (s : State) :
    (auditMark classes ctxs code s).reg K.AUD_UNC = s.reg K.AUD_UNC ||| BitVec.ofNat 32 classes := by
  have hlo : K.AUD_CTX_LO ≠ K.AUD_UNC := by decide
  have hhi : K.AUD_CTX_HI ≠ K.AUD_UNC := by decide
  have hcause : K.AUD_CAUSE ≠ K.AUD_UNC := by decide
  unfold auditMark
  dsimp only
  split <;> simp [setFld_reg_other, setBits_reg_other, setBits_sets, *]

end Sys2Proof.Machine
end

section
/-! SUPPORT. Refill (R60) of an arrival parked on-block and of a cellar block read as POISON, the moves of the ready lists (R66,
R74), and O18. -/

namespace Sys2Proof.Machine
open Sys2Proof.Claims

/-! ## The account of an arrival that has been applied -/

/-- It lowers the account of its sprout record, or of its launch, or both when the record has nothing left to issue (R109). -/
theorem settleArr_cases (a : Arrival) (s : State) :
    ∃ l : Tab Nat Nat, ∃ u : State, u = { s with hub := { s.hub with sprLeft := l } } ∧
    (settleArr a s = u ∨ settleArr a s = subOut a.ctx (ordSerial a.ordinal) 1 u) := by
  unfold settleArr
  split
  · unfold settleRec
    dsimp only
    split
    · exact ⟨_, _, rfl, .inr rfl⟩
    · exact ⟨_, _, rfl, .inl rfl⟩
  · exact ⟨s.hub.sprLeft, s, rfl, .inr rfl⟩

/-- Of the hub, only the account of sprout records changes. -/
theorem settleArr_hub (a : Arrival) (s : State) : ∃ l, (settleArr a s).hub = { s.hub with sprLeft := l } := by
  obtain ⟨l, u, rfl, h | h⟩ := settleArr_cases a s
  · exact ⟨l, by rw [h]⟩
  · exact ⟨l, by rw [h, subOut_hub]⟩

theorem settleArr_ok_only {s : State} {a : Arrival} (hout : OutOk s a.ctx (ordSerial a.ordinal)) :
    Only [.hub, .launches, .mem, .poison, .obs, .reqs] s (settleArr a s) := by
  obtain ⟨l, u, hu, h | h⟩ := settleArr_cases a s
  all_goals
    have honly : Only [.hub] s u := hu ▸ only_hub s _
    rw [h]
  · exact honly.mono
  · exact honly.mono.trans (outMap_ok_only _ (outOk_congr hout (honly.regs (by decide)) (honly.refuse (by decide)))).mono

theorem settleArr_sameMemBut (a : Arrival) (s : State) :
    SameMemBut s (settleArr a s) (s.lrecAddr a.ctx (ordSerial a.ordinal) + 24) 8 := by
  intro b hb
  obtain ⟨l, u, rfl, h | h⟩ := settleArr_cases a s
  · rw [h]; rfl
  · rw [h]; exact outMap_sameMemBut _ _ _ { s with hub := _ } b hb

/-! ## A DEC that does not complete its task -/

theorem steepNotice_only (sh n before after : Nat) (created : Bool) (s : State) :
    Only [.disp] s (steepNotice sh n before after created s) := by
  unfold steepNotice
  dsimp only
  split
  · split
    · split
      · exact only_disp s _
      · exact Only.refl _ s
    · exact Only.refl _ s
  · exact Only.refl _ s

/-- The state in which slot `n` of shard `sh` counts one arrival less. -/
def State.lowered (s : State) (sh n : Nat) : State := s.setSlot sh n { s.slot sh n with counter := (s.slot sh n).counter - 1 }

/-- A DEC to a task slot that still waits for more (R34): its account is settled, and the new COUNTER may ask for staging (R95). -/
theorem applyExisting_dec {s : State} {sh n : Nat} {a : Arrival} (hk : a.kind = .dec) (hcnt : 1 < (s.slot sh n).counter) :
    applyExisting sh n a s =
      settleArr a (steepNotice sh n (s.slot sh n).counter ((s.slot sh n).counter - 1) false (s.lowered sh n)) := by
  have hone : a.count = 1 := by simp [Arrival.count, hk]
  have hge : ¬ (s.slot sh n).counter < 1 := by omega
  have hne : (s.slot sh n).counter ≠ 1 := by omega
  have hkind : (ArrKind.dec == ArrKind.sprout) = false := rfl
  simp [applyExisting, applyTo, State.lowered, hone, hk, hkind, hge, hne]

section
variable {s : State} {sh n : Nat} {a : Arrival} (hk : a.kind = .dec) (hcnt : 1 < (s.slot sh n).counter)
include hk hcnt

theorem applyExisting_dec_hub : ∃ l, (applyExisting sh n a s).hub = { (s.lowered sh n).hub with sprLeft := l } := by
  obtain ⟨l, hl⟩ := settleArr_hub a (steepNotice sh n (s.slot sh n).counter ((s.slot sh n).counter - 1) false (s.lowered sh n))
  rw [(steepNotice_only ..).hub (by decide)] at hl
  exact ⟨l, (applyExisting_dec hk hcnt).symm ▸ hl⟩

theorem applyExisting_dec_only (hout : OutOk s a.ctx (ordSerial a.ordinal)) :
    Only [.hub, .disp, .launches, .mem, .poison, .obs, .reqs] s (applyExisting sh n a s) := by
  have hsteep := steepNotice_only sh n (s.slot sh n).counter ((s.slot sh n).counter - 1) false (s.lowered sh n)
  have hout' := outOk_congr (t := steepNotice sh n _ _ false (s.lowered sh n)) hout
    (hsteep.regs (by decide)) (hsteep.refuse (by decide))
  rw [applyExisting_dec hk hcnt]
  exact (State.setSlot_only s _ _ _).mono.trans (hsteep.mono.trans (settleArr_ok_only hout').mono)

theorem applyExisting_dec_sameMemBut :
    SameMemBut s (applyExisting sh n a s) (s.lrecAddr a.ctx (ordSerial a.ordinal) + 24) 8 := by
  have hsteep := steepNotice_only sh n (s.slot sh n).counter ((s.slot sh n).counter - 1) false (s.lowered sh n)
  intro b hb
  rw [applyExisting_dec hk hcnt, settleArr_sameMemBut _ _ b, State.byteAt_congr (hsteep.mem (by decide))]
  · rfl
  · rwa [State.lrecAddr_congr (hsteep.regs (by decide))]

end

/-! ## Which context a shard's refill serves -/

theorem State.bucketHead_eq (s : State) (ctx sh : Nat) : s.bucketHead ctx sh =
    leastBy (fun a b : Parked => decide (a.tree < b.tree)) (s.hub.parked.filter fun p => p.ctx == ctx && p.shard == sh) := by
  unfold State.bucketHead
  split <;> simp_all

theorem State.bucketHead_key {s : State} {ctx sh : Nat} {p : Parked} (h : s.bucketHead ctx sh = some p) :
    p.ctx = ctx ∧ p.shard = sh := by
  have hmem := leastBy_mem (s.bucketHead_eq ctx sh ▸ h)
  simpa using (List.mem_filter.mp hmem).2

theorem State.bucketHead_of_noneParked {s : State} {ctx sh : Nat} (h : ∀ q ∈ s.hub.parked, q.shard = sh → q.ctx ≠ ctx) :
    s.bucketHead ctx sh = none := by
  have hnil : (s.hub.parked.filter fun p => p.ctx == ctx && p.shard == sh) = [] :=
    List.filter_eq_nil_iff.mpr fun q hq => by simpa using fun hc hs => h q hq hs hc
  rw [State.bucketHead_eq, hnil]
  rfl

theorem refillCtx_of_noHead {s : State} {sh c : Nat} (pick : Nat) (poison : Bool) (h : s.bucketHead c sh = none) :
    refillCtx sh pick poison c s = none := by
  simp [refillCtx, h]

/-- The state after refill of a shard has served context `c`. -/
def State.served (s : State) (sh c : Nat) : State := { s with hub := { s.hub with refillRR := Tab.put s.hub.refillRR sh c } }

theorem State.served_only (s : State) (sh c : Nat) : Only [.hub] s (s.served sh c) := only_hub s _

@[simp] theorem State.served_slots (s : State) (sh c : Nat) : (s.served sh c).hub.slots = s.hub.slots := rfl
@[simp] theorem State.served_parked (s : State) (sh c : Nat) : (s.served sh c).hub.parked = s.hub.parked := rfl
@[simp] theorem State.served_ready (s : State) (sh c : Nat) : (s.served sh c).hub.ready = s.hub.ready := rfl
@[simp] theorem State.served_xbar (s : State) (sh c : Nat) : (s.served sh c).hub.xbar = s.hub.xbar := rfl

/-- The first context in turn that can be served is the only one that can. -/
theorem refillFirst_of_single {s t : State} {sh pick c : Nat} {poison : Bool} {l : List Nat} (hc : c ∈ l)
    (hothers : ∀ d, d ≠ c → refillCtx sh pick poison d s = none) (ht : refillCtx sh pick poison c s = some t) :
    refillFirst sh pick poison s l = t.served sh c := by
  induction l with
  | nil => simp at hc
  | cons d l ih =>
    by_cases hd : d = c
    · simp [refillFirst, hd, ht, State.served]
    · simpa [refillFirst, hothers d hd] using ih ((List.mem_cons.mp hc).resolve_left (Ne.symm hd))

/-- REFILL of a shard at which one context alone has parked items (R60). -/
theorem refill_serves {s t : State} {sh pick c : Nat} {poison : Bool} (hrun : s.running = true) (hsh : sh < s.shards) (hc : c < 64)
    (halone : ∀ q ∈ s.hub.parked, q.shard = sh → q.ctx = c) (ht : refillCtx sh pick poison c s = some t) :
    exec (.refill sh pick poison) s = .next (t.served sh c) := by
  have hothers : ∀ d, d ≠ c → refillCtx sh pick poison d s = none := fun d hd =>
    refillCtx_of_noHead pick poison (State.bucketHead_of_noneParked fun q hq hs he => hd (he.symm.trans (halone q hq hs)))
  show execRefill sh pick poison s = _
  rw [execRefill, whenRunning_of_running _ hrun, if_pos hsh, refillFirst_of_single (mem_rrFrom hc) hothers ht]

/-! ## An arrival parked on-block that finds its task slot -/

/-- Without its head item, which was on-block, the bucket is shorter by it and nothing else moves. -/
theorem unparkRefill_onBlock {p : Parked} (s : State) (h : p.inCellar = false) : unparkRefill p s =
    pmc p.shard 0x05 (some p.ctx) 1
      { s with hub := { s.hub with parked := dropFirst (fun q => q.inBucket p.ctx p.shard p.tree) s.hub.parked } } := by
  simp [unparkRefill, unpark, celRead, h]

theorem refillCtx_edge {s : State} {sh pick c n : Nat} {p : Parked} {a : Arrival} {v : Slot} (hsave : s.saveHeld c = false)
    (hp : s.bucketHead c sh = some p) (hitem : p.item = .edge a) (hcel : p.inCellar = false) (hctx : a.ctx = c)
    (hdrop : s.dropsItem c (ordSerial a.ordinal) = false) (hhold : s.holdsReady sh a = false)
    (hkey : s.findKey sh c a.node a.ordinal = some (n, v)) :
    refillCtx sh pick false c s = some (applyExisting sh n a (unparkRefill p s)) := by
  obtain ⟨-, rfl⟩ := State.bucketHead_key hp
  subst hctx
  simp [refillCtx, refillArr, State.celPoison, ParkedItem.serial, hsave, hp, hitem, hcel, hdrop, hhold, hkey]

/-- What the head DEC of a bucket has done once it has lowered its task slot. -/
theorem refilled_dec {s : State} {sh n c : Nat} {p : Parked} {a : Arrival} (hkey : p.ctx = c ∧ p.shard = sh)
    (hcel : p.inCellar = false) (hctx : a.ctx = c) (hk : a.kind = .dec) (hcnt : 1 < (s.slot sh n).counter)
    (hout : OutOk s c (ordSerial a.ordinal)) :
    let t := (applyExisting sh n a (unparkRefill p s)).served sh c
    t.slot sh n = { s.slot sh n with counter := (s.slot sh n).counter - 1 } ∧ SameSlotsBut s t sh n ∧
      t.hub.parked = dropFirst (fun q => q.inBucket c sh p.tree) s.hub.parked ∧ t.hub.ready = s.hub.ready ∧
      t.hub.xbar = s.hub.xbar ∧ Only [.hub, .disp, .launches, .mem, .poison, .obs, .reqs] s t ∧
      SameMemBut s t (s.lrecAddr c (ordSerial a.ordinal) + 24) 8 := by
  obtain ⟨rfl, rfl⟩ := hkey
  intro t
  have hu := unparkRefill_onBlock s hcel
  have honly : Only [.hub, .obs] s (unparkRefill p s) := hu ▸ (only_hub s _).mono.trans (pmc_only _ _ _ _ _).mono
  have hslot : (unparkRefill p s).slot = s.slot := by rw [hu]; rfl
  have hcnt' : 1 < ((unparkRefill p s).slot p.shard n).counter := by rwa [hslot]
  have hout' := outOk_congr hout (honly.regs (by decide)) (honly.refuse (by decide))
  obtain ⟨l, hl⟩ := applyExisting_dec_hub hk hcnt'
  have hslots : t.slot = ((unparkRefill p s).lowered p.shard n).slot := by
    funext x y
    exact State.slot_congr (by rw [State.served_slots, hl]) x y
  have hframe := applyExisting_dec_only hk hcnt' (hctx ▸ hout')
  refine ⟨?_, fun x y hxy => ?_, ?_, ?_, ?_, ?_, fun b hb => ?_⟩
  · rw [hslots, State.lowered, State.slot_setSlot_same, hslot]
  · rw [hslots, State.lowered, State.slot_setSlot_other _ _ (Ne.symm hxy), hslot]
  · rw [State.served_parked, hl, hu]; rfl
  · rw [State.served_ready, hl, hu]; rfl
  · rw [State.served_xbar, hl, hu]; rfl
  · exact honly.mono.trans (hframe.trans (State.served_only ..).mono)
  · rw [State.byteAt_congr ((State.served_only ..).mem (by decide)),
      applyExisting_dec_sameMemBut hk hcnt' b (by rwa [State.lrecAddr_congr (honly.regs (by decide)), hctx]),
      State.byteAt_congr (honly.mem (by decide))]

/-! ## A cellar block read as POISON (R68, R380) -/

/-- A bucket without the items and the block that its first block held. -/
def dropBlock (p : Parked) (s : State) : State :=
  let b := s.celBucket p.ctx p.shard p.tree
  let n := firstBlockItems (b.first.used - b.first.start) (s.hub.parked.filter fun q => q.inBucket p.ctx p.shard p.tree)
  let s1 := { s with hub := { s.hub with
    parked := (List.range n).foldl (fun l _ => dropFirst (fun q => q.inBucket p.ctx p.shard p.tree) l) s.hub.parked } }
  s1.setCelBucket p.ctx p.shard p.tree ⟨b.blocks.drop 1⟩

theorem dropBlock_only (p : Parked) (s : State) : Only [.hub] s (dropBlock p s) := only_hub s _

/-- The cellar is written without the items of the poisoned block, and their loss is reported and marked. -/
theorem refillPoison_eq (p : Parked) (s : State) : refillPoison p s =
    auditMark 0x5 (2 ^ p.ctx) 0x04 (errContained (uShard p.shard) 0x04 (some p.ctx) none (word [(47, 0, s.celNext p)])
      (pmc 22 0x4B none 1 (celHeader p.ctx (celHead p.ctx p.shard p.tree (dropBlock p s))))) := rfl

/-- The address of a bucket's head in its context's cellar (R59). -/
def State.celHeadAddr (s : State) (ctx sh tree : Nat) : Nat := addr48 (s.celPage ctx 1 + 16 * (sh * 4096 + tree))

theorem State.celHeadAddr_congr {s t : State} (h : t.regs = s.regs) (ctx sh tree : Nat) :
    t.celHeadAddr ctx sh tree = s.celHeadAddr ctx sh tree := by
  simp [State.celHeadAddr, State.celPage_congr h]

theorem celHead_ok_only {s : State} {ctx sh tree : Nat} (ok : s.writeOk (s.celHeadAddr ctx sh tree) 16 = true) :
    Only [.mem, .poison, .obs, .reqs] s (celHead ctx sh tree s) := writeWords_ok_only ok

theorem celHeader_ok_only {s : State} {ctx : Nat} (ok : s.writeOk (s.celPage ctx 0) 16 = true) :
    Only [.mem, .poison, .obs, .reqs] s (celHeader ctx s) := writeWords_ok_only ok

theorem celHead_sameMemBut (ctx sh tree : Nat) (s : State) : SameMemBut s (celHead ctx sh tree s) (s.celHeadAddr ctx sh tree) 16 :=
  fun b hb => writeWords_byteAt_outside _ _ _ b _ hb

theorem celHeader_sameMemBut (ctx : Nat) (s : State) : SameMemBut s (celHeader ctx s) (s.celPage ctx 0) 16 :=
  fun b hb => writeWords_byteAt_outside _ _ _ b _ hb

theorem celHead_dropBlock_only {s : State} {p : Parked} (hhead : s.writeOk (s.celHeadAddr p.ctx p.shard p.tree) 16 = true) :
    Only [.hub, .mem, .poison, .obs, .reqs] s (celHead p.ctx p.shard p.tree (dropBlock p s)) :=
  (dropBlock_only p s).mono.trans (celHead_ok_only (s := dropBlock p s) hhead).mono

section
variable {s : State} {p : Parked} (hhead : s.writeOk (s.celHeadAddr p.ctx p.shard p.tree) 16 = true)
  (hpage : s.writeOk (s.celPage p.ctx 0) 16 = true)
include hhead hpage

/-- The cellar takes the bucket's loss without a report of its own. -/
theorem dropBlock_written_only :
    Only [.hub, .mem, .poison, .obs, .reqs] s (celHeader p.ctx (celHead p.ctx p.shard p.tree (dropBlock p s))) := by
  have hwrite := celHead_dropBlock_only hhead
  rw [← State.writeOk_congr (hwrite.refuse (by decide)), ← State.celPage_congr (hwrite.regs (by decide))] at hpage
  exact hwrite.trans (celHeader_ok_only hpage).mono

theorem refillPoison_only : Only [.hub, .regs, .glb, .out, .obs, .mem, .poison, .reqs, .cyc] s (refillPoison p s) := by
  rw [refillPoison_eq]
  exact (dropBlock_written_only hhead hpage).mono.trans ((pmc_only _ _ _ _ _).mono.trans
    ((errContained_only _ _ _ _ _ _).mono.trans (auditMark_only _ _ _ _).mono))

theorem refillPoison_counts : (refillPoison p s).reg K.ERR_CONT = raise32 1 (s.reg K.ERR_CONT) := by
  rw [refillPoison_eq, auditMark_reg_other _ _ _ _ (by decide) (by decide) (by decide) (by decide), errContained_counts,
    State.reg_congr (pmc_regs ..), State.reg_congr ((dropBlock_written_only hhead hpage).regs (by decide))]

end

/-- Memory changes at the cellar's header and at the bucket's head only. -/
theorem refillPoison_byteAt {s : State} {p : Parked} {b : Nat} (hhead : s.writeOk (s.celHeadAddr p.ctx p.shard p.tree) 16 = true)
    (h0 : b < s.celPage p.ctx 0 ∨ s.celPage p.ctx 0 + 16 ≤ b)
    (h1 : b < s.celHeadAddr p.ctx p.shard p.tree ∨ s.celHeadAddr p.ctx p.shard p.tree + 16 ≤ b) :
    (refillPoison p s).byteAt b = s.byteAt b := by
  rw [← State.celPage_congr ((celHead_dropBlock_only hhead).regs (by decide))] at h0
  rw [← State.celHeadAddr_congr ((dropBlock_only p s).regs (by decide))] at h1
  rw [refillPoison_eq, State.byteAt_congr (auditMark_mem ..), State.byteAt_congr (errContained_mem ..),
    State.byteAt_congr (pmc_mem ..), celHeader_sameMemBut _ _ b h0, celHead_sameMemBut _ _ _ _ b h1,
    State.byteAt_congr ((dropBlock_only p s).mem (by decide))]

/-- POISON on a cellar block marks the account classes 0 and 2 (Table 13-9). -/
theorem refillPoison_marks (p : Parked) (s : State) :
    bit ((refillPoison p s).reg K.AUD_UNC) 0 = true ∧ bit ((refillPoison p s).reg K.AUD_UNC) 2 = true := by
  rw [refillPoison_eq, auditMark_marks]
  simp [bit]

/-- Of the hub, only the bucket and its items change. -/
theorem refillPoison_hub (p : Parked) (s : State) :
    (refillPoison p s).hub.slots = s.hub.slots ∧ (refillPoison p s).hub.xbar = s.hub.xbar ∧
      (refillPoison p s).hub.ready = s.hub.ready := by
  rw [refillPoison_eq, auditMark_hub, errContained_hub, pmc_hub, celHeader, writeWords_hub, celHead, writeWords_hub]
  exact ⟨rfl, rfl, rfl⟩

theorem refillCtx_poison {s : State} {sh pick c : Nat} {p : Parked} (hsave : s.saveHeld c = false) (hp : s.bucketHead c sh = some p)
    (hcel : p.inCellar = true) : refillCtx sh pick true c s = some (refillPoison p s) := by
  simp [refillCtx, hsave, hp, hcel]

/-! ## The ready lists -/

/-- `s` with other ready lists. -/
def State.withReady (s : State) (l : List ReadyEntry) : State := { s with hub := { s.hub with ready := l } }

theorem State.ringHeld_perm {s : State} {e : ReadyEntry} {l : List ReadyEntry} (h : s.hub.ready.Perm (e :: l)) (ctx cls prio : Nat) :
    s.ringHeld ctx cls prio =
      (s.withReady l).ringHeld ctx cls prio + if e.place == .ring && e.inList ctx cls prio then 1 else 0 := by
  rw [State.ringHeld, (h.filter _).length_eq, List.filter_cons]
  split <;> rfl

/-- A move of a ready entry touches the ready lists and memory, and what observation counts. -/
theorem withReady_frame {s t : State} {l : List ReadyEntry} (h : Only [.mem, .poison, .obs, .reqs] (s.withReady l) t) :
    t.hub.ready = l ∧
      t = { s with hub := { s.hub with ready := t.hub.ready }, mem := t.mem, poison := t.poison, obs := t.obs, reqs := t.reqs } := by
  have hhub : t.hub = { s.hub with ready := l } := h.hub (by decide)
  have hready : t.hub.ready = l := by rw [hhub]
  have heq := h.mono.eq_update
  rw [hhub, h.disp (by decide), h.launches (by decide), h.regs (by decide), h.glb (by decide), h.cyc (by decide),
    h.out (by decide)] at heq
  exact ⟨hready, hready.symm ▸ heq⟩

/-- An entry that a list holds at a place. -/
theorem ReadyEntry.of_find {s : State} {ctx cls prio : Nat} {src : Place} {e : ReadyEntry}
    (h : s.hub.ready.find? (fun e => e.inList ctx cls prio && e.place == src) = some e) :
    (e.ctx = ctx ∧ e.cls = cls ∧ e.prio = prio) ∧ e.place = src := by
  simpa [ReadyEntry.inList, and_assoc] using List.find?_some h

/-- What is left of the ready lists when the first entry of a list at a place is taken. -/
def State.readyRest (s : State) (src : Place) (ctx cls prio : Nat) : List ReadyEntry :=
  dropFirst (fun e => e.inList ctx cls prio && e.place == src) s.hub.ready

section
variable {s : State} {ctx cls prio : Nat} {e : ReadyEntry}

theorem readyRingRefill_moves (hrun : s.running = true) (hroom : s.dirHasRoom ctx = true)
    (he : s.hub.ready.find? (fun e => e.inList ctx cls prio && e.place == .ring) = some e) :
    exec (.readyRingRefill ctx cls prio) s = .next (noteRead uDispatch (some ctx) (s.ringSlot ctx cls prio e.pos) 16
      (s.withReady (insertBy ReadyEntry.before { e with place := .directory, pos := 0 } (s.readyRest .ring ctx cls prio)))) := by
  have hplace : (Place.directory == Place.ring) = false := rfl
  simp [exec, execReadyRingRefill, whenRunning_of_running, hrun, hroom, moveFirst, he, hplace, State.withReady, State.readyRest]

theorem readyLinkToRing_moves (hrun : s.running = true) (hroom : s.ringHeld ctx cls prio < 2048)
    (he : s.hub.ready.find? (fun e => e.inList ctx cls prio && e.place == .linked) = some e) :
    exec (.readyLinkToRing ctx cls prio) s = .next (ringInsert e (s.withReady (s.readyRest .linked ctx cls prio))) := by
  simp [exec, execReadyLinkToRing, whenRunning_of_running, hrun, hroom, moveFirst, he, State.withReady, State.readyRest]

/-- Taking an entry linked in its slot leaves the next position of the ring as it is. -/
theorem State.ringNext_readyRest (s : State) (ctx cls prio : Nat) :
    (s.withReady (s.readyRest .linked ctx cls prio)).ringNext ctx cls prio = s.ringNext ctx cls prio := by
  have hkeep : (s.readyRest .linked ctx cls prio).filter (fun e => e.place == .ring && e.inList ctx cls prio) =
      s.hub.ready.filter (fun e => e.place == .ring && e.inList ctx cls prio) :=
    filter_dropFirst (fun a ha => by simp_all) _
  simp only [State.ringNext, State.withReady, hkeep]

/-- An entry put in its ring is written to the ring's next position. -/
theorem ringInsert_withReady {s : State} (e : ReadyEntry) {l : List ReadyEntry}
    (hpos : (s.withReady l).ringNext e.ctx e.cls e.prio = s.ringNext e.ctx e.cls e.prio) :
    ringInsert e (s.withReady l) =
      writeWords uDispatch (some e.ctx) (s.ringSlot e.ctx e.cls e.prio (s.ringNext e.ctx e.cls e.prio)) (readyWords e)
        (s.withReady (l ++ [{ e with place := .ring, pos := s.ringNext e.ctx e.cls e.prio }])) := by
  have haddr := State.ringSlot_congr (show (s.withReady l).regs = s.regs from rfl) e.ctx e.cls e.prio
  simp only [ringInsert, hpos, haddr]
  rfl

end

/-! ## O18 -/

/-- R60: the head DEC of the only context with items parked for a shard lowers its task slot. -/
theorem refill_parkedDec {s : State} {sh pick c n : Nat} {p : Parked} {a : Arrival} {v : Slot} (hrun : s.running = true)
    (hsh : sh < s.shards) (hc : c < 64) (halone : ∀ q ∈ s.hub.parked, q.shard = sh → q.ctx = c) (hsave : s.saveHeld c = false)
    (hp : s.bucketHead c sh = some p) (hitem : p.item = .edge a) (hcel : p.inCellar = false) (hctx : a.ctx = c) (hk : a.kind = .dec)
    (hdrop : s.dropsItem c (ordSerial a.ordinal) = false) (hhold : s.holdsReady sh a = false)
    (hkey : s.findKey sh c a.node a.ordinal = some (n, v)) (hcnt : 1 < (s.slot sh n).counter)
    (hout : OutOk s c (ordSerial a.ordinal)) :
    ∃ t, exec (.refill sh pick false) s = .next t ∧
      (t.slot sh n).counter = (s.slot sh n).counter - 1 ∧ (t.slot sh n).state = (s.slot sh n).state ∧
      t.hub.parked = dropFirst (fun q => q.inBucket c sh p.tree) s.hub.parked ∧ SameSlotsBut s t sh n ∧
      t.hub.ready = s.hub.ready ∧ t.hub.xbar = s.hub.xbar ∧
      t = { s with hub := t.hub, disp := t.disp, launches := t.launches, obs := t.obs, mem := t.mem, poison := t.poison,
                   reqs := t.reqs } ∧
      SameMemBut s t (s.lrecAddr c (ordSerial a.ordinal) + 24) 8 := by
  have hexec := refill_serves (pick := pick) hrun hsh hc halone (refillCtx_edge hsave hp hitem hcel hctx hdrop hhold hkey)
  obtain ⟨hslot, hslots, hparked, hready, hxbar, honly, hmem⟩ := refilled_dec (State.bucketHead_key hp) hcel hctx hk hcnt hout
  generalize (applyExisting sh n a (unparkRefill p s)).served sh c = t at *
  have heq := honly.mono.eq_update
  rw [honly.regs (by decide), honly.glb (by decide), honly.cyc (by decide), honly.out (by decide)] at heq
  exact ⟨t, hexec, by rw [hslot], by rw [hslot], hparked, hslots, hready, hxbar, heq, hmem⟩

/-- R68, R380: the head of the only context with items parked for a shard lies in a cellar block that is answered with POISON. -/
theorem refill_poisoned {s : State} {sh pick c : Nat} {p : Parked} (hrun : s.running = true) (hsh : sh < s.shards) (hc : c < 64)
    (halone : ∀ q ∈ s.hub.parked, q.shard = sh → q.ctx = c) (hsave : s.saveHeld c = false) (hp : s.bucketHead c sh = some p)
    (hcel : p.inCellar = true) (hhead : s.writeOk (s.celHeadAddr c sh p.tree) 16 = true)
    (hpage : s.writeOk (s.celPage c 0) 16 = true) :
    ∃ t, exec (.refill sh pick true) s = .next t ∧ t.hub.slots = s.hub.slots ∧ t.hub.xbar = s.hub.xbar ∧
      t.hub.ready = s.hub.ready ∧ t.launches = s.launches ∧
      t.reg K.ERR_CONT = BitVec.ofNat 32 (countTo 32 ((s.reg K.ERR_CONT).toNat + 1)) ∧
      bit (t.reg K.AUD_UNC) 0 = true ∧ bit (t.reg K.AUD_UNC) 2 = true ∧
      t = { s with hub := t.hub, regs := t.regs, glb := t.glb, out := t.out, obs := t.obs, mem := t.mem, poison := t.poison,
                   reqs := t.reqs, cyc := t.cyc } ∧
      ∀ b, (b < s.celPage c 0 ∨ s.celPage c 0 + 16 ≤ b) →
        (b < s.celHeadAddr c sh p.tree ∨ s.celHeadAddr c sh p.tree + 16 ≤ b) → t.byteAt b = s.byteAt b := by
  obtain ⟨rfl, rfl⟩ := State.bucketHead_key hp
  have hexec := refill_serves (pick := pick) hrun hsh hc halone (refillCtx_poison hsave hp hcel)
  obtain ⟨hslots, hxbar, hready⟩ := refillPoison_hub p s
  obtain ⟨hunc0, hunc2⟩ := refillPoison_marks p s
  have hserved := State.served_only (refillPoison p s) p.shard p.ctx
  have honly := (refillPoison_only hhead hpage).trans hserved.mono
  have heq := honly.mono.eq_update
  rw [honly.launches (by decide), honly.disp (by decide)] at heq
  refine ⟨_, hexec, ?_, ?_, ?_, honly.launches (by decide), ?_, ?_, ?_, heq, fun b h0 h1 => ?_⟩
  · rw [State.served_slots, hslots]
  · rw [State.served_xbar, hxbar]
  · rw [State.served_ready, hready]
  · rw [State.reg_congr (hserved.regs (by decide)), refillPoison_counts hhead hpage, raise32]
  · rw [State.reg_congr (hserved.regs (by decide)), hunc0]
  · rw [State.reg_congr (hserved.regs (by decide)), hunc2]
  · rw [State.byteAt_congr (hserved.mem (by decide)), refillPoison_byteAt hhead h0 h1]

section
variable {s : State} {ctx cls prio : Nat} {e : ReadyEntry}

/-- R66, R74: the head of a list's ring moves to the directory. -/
theorem readyRingRefill_toDirectory (hrun : s.running = true) (hroom : s.dirHasRoom ctx = true)
    (he : s.hub.ready.find? (fun e => e.inList ctx cls prio && e.place == .ring) = some e) :
    ∃ t, exec (.readyRingRefill ctx cls prio) s = .next t ∧
      { e with place := .directory, pos := 0 } ∈ t.hub.ready ∧ t.hub.ready.length = s.hub.ready.length ∧
      t.ringHeld ctx cls prio + 1 = s.ringHeld ctx cls prio ∧
      t = { s with hub := { s.hub with ready := t.hub.ready }, obs := t.obs, reqs := t.reqs } := by
  have honly := noteRead_only (s.withReady (insertBy ReadyEntry.before { e with place := .directory, pos := 0 }
    (s.readyRest .ring ctx cls prio))) uDispatch (some ctx) (s.ringSlot ctx cls prio e.pos) 16
  refine ⟨_, readyRingRefill_moves hrun hroom he, ?_⟩
  generalize noteRead _ _ _ _ _ = t at honly ⊢
  obtain ⟨hready, heq⟩ := withReady_frame honly.mono
  rw [honly.mem (by decide), honly.poison (by decide)] at heq
  have hbefore : s.hub.ready.Perm (e :: s.readyRest .ring ctx cls prio) := perm_cons_dropFirst he
  have hafter := insertBy_perm ReadyEntry.before { e with place := .directory, pos := 0 } (s.readyRest .ring ctx cls prio)
  rw [← hready] at hafter
  have hlist : e.inList ctx cls prio = true ∧ e.place = .ring := by simpa using List.find?_some he
  refine ⟨hafter.mem_iff.mpr (List.mem_cons_self ..), ?_, ?_, heq⟩
  · rw [hafter.length_eq, hbefore.length_eq, List.length_cons, List.length_cons]
  · rw [State.ringHeld_perm hbefore, State.ringHeld_perm hafter]
    simp [hlist, State.ringHeld, State.withReady]

/-- R66, R73, R74: the oldest entry of a list linked in its slot moves to the ring, and is written there. -/
theorem readyLinkToRing_toRing (hrun : s.running = true) (hmem : MemInv s) (hroom : s.ringHeld ctx cls prio < 2048)
    (he : s.hub.ready.find? (fun e => e.inList ctx cls prio && e.place == .linked) = some e)
    (hok : s.writeOk (s.ringSlot ctx cls prio (s.ringNext ctx cls prio)) 16 = true) :
    ∃ t, exec (.readyLinkToRing ctx cls prio) s = .next t ∧
      t.hub.ready.getLast? = some { e with place := .ring, pos := s.ringNext ctx cls prio } ∧
      t.hub.ready.length = s.hub.ready.length ∧ t.ringHeld ctx cls prio = s.ringHeld ctx cls prio + 1 ∧
      (∀ i, i < 16 → t.byteAt (s.ringSlot ctx cls prio (s.ringNext ctx cls prio) + i) = (wordsBytes (readyWords e)).getD i 0) ∧
      SameMemBut s t (s.ringSlot ctx cls prio (s.ringNext ctx cls prio)) 16 ∧
      t = { s with hub := { s.hub with ready := t.hub.ready }, mem := t.mem, poison := t.poison, obs := t.obs, reqs := t.reqs } := by
  obtain ⟨⟨rfl, rfl, rfl⟩, hplace⟩ := ReadyEntry.of_find he
  have hbytes := ringInsert_withReady e (s.ringNext_readyRest e.ctx e.cls e.prio)
  have honly := writeWords_ok_only (u := uDispatch) (c := some e.ctx) (ws := readyWords e)
    (s := s.withReady (s.readyRest .linked e.ctx e.cls e.prio ++
      [{ e with place := .ring, pos := s.ringNext e.ctx e.cls e.prio }])) hok
  obtain ⟨hready, heq⟩ := withReady_frame honly
  have hbefore : s.hub.ready.Perm (e :: s.readyRest .linked e.ctx e.cls e.prio) := perm_cons_dropFirst he
  have hafter := List.perm_append_singleton { e with place := .ring, pos := s.ringNext e.ctx e.cls e.prio }
    (s.readyRest .linked e.ctx e.cls e.prio)
  refine ⟨_, (readyLinkToRing_moves hrun hroom he).trans (congrArg _ hbytes), ?_, ?_, ?_, fun i hi => ?_, fun b hb => ?_, heq⟩
  · rw [hready, List.getLast?_concat]
  · rw [hready, hafter.length_eq, hbefore.length_eq, List.length_cons, List.length_cons]
  · rw [State.ringHeld_perm hbefore, State.ringHeld_perm (hready ▸ hafter)]
    simp [hplace, ReadyEntry.inList, State.ringHeld, State.withReady]
  · exact writeWords_byteAt_inside hmem hok hi
  · exact writeWords_byteAt_outside _ _ _ b _ hb

end

/-- Settles O18: refill of an arrival parked on-block and of a poisoned cellar block, and the two moves of the ready lists. -/
theorem refillAndReadyListMoves : Obligations.RefillAndReadyListMoves := by
  unfold Obligations.RefillAndReadyListMoves
  refine ⟨fun s sh pick c p hrun hsh hc halone hsave hp => ⟨?_, ?_⟩, ?_, ?_⟩
  · intro n a v hitem hcel hctx hk hdrop hhold hkey hcnt _ hout
    exact refill_parkedDec hrun hsh hc halone hsave hp hitem hcel hctx hk hdrop hhold hkey hcnt hout
  · intro hcel hhead hpage _ _
    exact refill_poisoned hrun hsh hc halone hsave hp hcel hhead hpage
  · exact fun s ctx cls prio e hrun hroom he => readyRingRefill_toDirectory hrun hroom he
  · exact fun s ctx cls prio e hrun hmem hroom he hok => readyLinkToRing_toRing hrun hmem hroom he hok

end Sys2Proof.Machine
end
